-- ==== Sys2Proof/Word.lean ====
section
/-! DEFINITION. The words of the HX82: a program memory word, a byte of the line link, and the
8-bit and 16-bit counts that wrap (00_scope, "Units and number conventions"). -/

namespace Sys2Proof

/-- A word of the program memory (R1). -/
abbrev Word := BitVec 16

/-- A byte of a line-link frame (R164, R166). -/
abbrev Byte := BitVec 8

/-- A lap: an 8-bit count of passes through the panel program, wrapping from 255 to 0 (R17). -/
abbrev Lap := BitVec 8

/-- A board serial: a 16-bit count that wraps; 0xFFFF means no board (00_scope, R106). -/
abbrev Serial := BitVec 16

/-- A turret orientation in quarter turns, 0 to 3 (R6, R63). -/
abbrev Quarter := BitVec 2

/-- The set of image numbers 0 to 31: bit g is image g (R106, R183). -/
abbrev Mask := BitVec 32

end Sys2Proof
end

