-- ==== Sys2Proof/Config.lean ====
section
/-! DEFINITION. What the HX82 fixes for every station (capacities and periods the rules state), and the
values the manual leaves open as uninterpreted constants (no body: nothing can evaluate them). -/

namespace Sys2Proof.Config

/-- The last word address of the program memory (R1). -/
def lastWord : Nat := 65535

/-- The number of header words; the first address outside the header (chapter 10, "Header"). -/
def headerWords : Nat := 79

/-- The reader buffer holds up to 4 resolved records (R18). -/
def bufferRoom : Nat := 4

/-- A panel has at most 8 rows (R10). -/
def maxRows : Nat := 8

/-- A panel has at most 32 images (R13). -/
def maxImages : Nat := 32

/-- A panel walk has at most 4096 steps (R13). -/
def maxPanel : Nat := 4096

/-- A step list has at most 255 step records (R6, R11). -/
def maxSteps : Nat := 255

/-- A conversion completes 2 ms after it starts (R23). -/
def conversionTime : Nat := 2

/-- The confirm sample is taken 2 ms after the first sample (R91). -/
def confirmTime : Nat := 2

/-- The alarm list holds up to 8 entries (R142). -/
def alarmRoom : Nat := 8

/-- The measuring window of monitor M5, ms (R156). -/
def windowTime : Nat := 1000

/-- A flashing lamp is on for 500 ms and off for 500 ms (R159). -/
def flashTime : Nat := 500

/-- A missed list holds up to 8 entries (R106, R119). -/
def missRoom : Nat := 8

/-- A stage list holds up to 6 stages (R126, R127). -/
def stageRoom : Nat := 6

/-- The arrival queue holds at most 3 travellers (R130). -/
def arrivalRoom : Nat := 3

/-- The receive queue and the transmit queue hold up to 4 frames each (R173, R175). -/
def frameRoom : Nat := 4

/-- The payload of a frame is at most 200 bytes (R166). -/
def maxPayload : Nat := 200

/-- Idle bit times before a station may send (R170). -/
def idleToSend : Nat := 12

/-- A frame in assembly is abandoned when the idle count passes 20 bit times (R167). -/
def gapLimit : Nat := 20

/-- A frame is given up when its retry count would pass 3 (R172). -/
def maxRetries : Nat := 3

/-- The divisor of the 9600 bit/s rate used before the header is valid (R164, chapter 10 "PEERS"). -/
def defaultDivisor : Nat := 23

/-- The status period before the header is valid, and the one taken when the header gives none (R2, R174). -/
def defaultPeriod : Nat := 100

/-- JUMPER_MAX when the header leaves it not given (R2). -/
def defaultJumper : Nat := 40

/-- The part size of a QUERY's answer in bytes (R184). -/
def partSize : Nat := 192

/-- Counters saturate at 65535 (R128, R169). -/
def counterMax : Nat := 65535

/-- FREE VALUE (log entry 6). The two detail bytes of a STATION report when the C04 detail is a word address past
65535: R11 names the record's own address, and two bytes cannot hold it. -/
opaque detailPastMemory : Nat → Word

/-- FREE VALUE (log entry 13). Byte 32 of a STATION report (0 DRIVING, 1 STALLED) while a board-handling operation
waits for its first start: R105 gives no third condition. -/
opaque waitingReadsStalled : Nat → Bool

/-- FREE VALUE (log entry 29). A byte of an answer that carries a header value while no header is held, in CONFIG_FAULT
(R61, R161, R179), by time, item and place in the answer: byte 7 (D) of QUEUE, and the settings of MONITORS. The layouts
give these fields neither a presence byte nor a value for it. -/
opaque byteNotHeld : Nat → Nat → Nat → Byte

end Sys2Proof.Config
end

