-- ==== Sys2Proof/Syntax.lean ====
section
/-! DEFINITION. The commands of the HX82: one constructor per row of spec/opcode_table.json. The table gives
its rows no fields; an operand is what the rule of the row says the unit SAMPLES or RECEIVES at that event
(log entry 1). -/

namespace Sys2Proof

/-- The ROLE strap (00_scope, "Lines and straps"). -/
inductive Role where
  | lineHead | middle | lineEnd
  deriving DecidableEq, Repr, Inhabited

/-- The four drives that homing runs to a home sensor (R65, R66). -/
inductive Axis where
  | x | y | turret | former
  deriving DecidableEq, Repr, Inhabited

/-- The two table axes that carry a limit sensor, XLIM and YLIM (R79). -/
inductive LimitAxis where
  | x | y
  deriving DecidableEq, Repr, Inhabited

/-- The four home sensors XHOME, YHOME, TRHOME, FMHOME as they read at one event (R66). -/
structure HomeLevels where
  x : Bool
  y : Bool
  turret : Bool
  former : Bool
  deriving DecidableEq, Repr, Inhabited

/-- TOP and BIN as they read at one press of STEP (R96, R97, R109). -/
structure PressLevels where
  top : Bool
  bin : Bool
  deriving DecidableEq, Repr, Inhabited

/-- The ten bits that follow a valid start bit, as the receiver sampled them: eight data bits least significant
first, the parity bit and the stop bit (R164, R165). -/
structure Character where
  data : Byte
  parity : Bool
  stop : Bool
  deriving DecidableEq, Repr, Inhabited

/-- The commands, in the order of the opcode table. -/
inductive Instr where
  /-- RESET (R21) -/
  | reset
  /-- RESET_RELEASE (R7): the straps ADDR, ROLE and LOCAL as sampled. -/
  | resetRelease (addr : BitVec 5) (role : Role) (localStrap : Bool)
  /-- PMEM_READ_COMPLETION (R1): the consecutive words that the read delivers. -/
  | pmemReadCompletion (words : List Word)
  /-- FEED_START (R42) -/
  | feedStart
  /-- INDEX_EVENT (R43): the PRES sample (R24). -/
  | indexEvent (pres : Bool)
  /-- CONVERSION_COMPLETION (R23): the code 0 to 4095. -/
  | conversionCompletion (code : BitVec 12)
  /-- PASS_EXECUTION (R49) -/
  | passExecution
  /-- TAPE_JAM (R54) -/
  | tapeJam
  /-- TAPE_BREAK (R56): active edge on TBRK. -/
  | tapeBreak
  /-- TBRK_INACTIVE (R56) -/
  | tbrkInactive
  /-- TAPE_LOW (R59): active edge on TEND. -/
  | tapeLow
  /-- TEND_INACTIVE (R59) -/
  | tendInactive
  /-- HOMING_BEGIN (R65): the home sensors as they read when homing begins, and BIN. -/
  | homingBegin (home : HomeLevels) (bin : Bool)
  /-- HOME_SENSOR (R66): the drive whose home sensor reads active, and BIN. -/
  | homeSensor (axis : Axis) (bin : Bool)
  /-- HOME_FAIL (R67) -/
  | homeFail
  /-- TABLE_LIMIT (R79, R68, R80): the limit sensor that goes active. -/
  | tableLimit (axis : LimitAxis)
  /-- LIMIT_INACTIVE (R80): both limit sensors read inactive. -/
  | limitInactive
  /-- INSERT_MOVE_START (R74) -/
  | insertMoveStart
  /-- MARK_MOVE_START (R77): the MARK sample, used when arrival is reported at once (R78). -/
  | markMoveStart (mark : Bool)
  /-- MOVE_COMPLETE (R76): the MARK sample, used by a MARK move (R116). -/
  | moveComplete (mark : Bool)
  /-- STROKE_START (R88) -/
  | strokeStart
  /-- BOTTOM_EDGE (R89) -/
  | bottomEdge
  /-- CLINCH_DONE_EDGE (R90): the first sample of CLA and CLB. -/
  | clinchDoneEdge (cla clb : Bool)
  /-- CONFIRM_SAMPLE (R91): the confirm sample of CLA and CLB. -/
  | confirmSample (cla clb : Bool)
  /-- TOP_EDGE (R92, R97) -/
  | topEdge
  /-- HEAD_JAM (R95, R97) -/
  | headJam
  /-- HEAD_DROP (R86): TOP goes inactive. -/
  | headDrop
  /-- CONVEYOR_IN_START (R109): BIN reads active. -/
  | conveyorInStart
  /-- BWK_ACTIVE (R109, R110) -/
  | bwkActive
  /-- MATCH_TIMEOUT (R112) -/
  | matchTimeout
  /-- CLAMP_START (R108) -/
  | clampStart
  /-- CLAMPED_ACTIVE (R114) -/
  | clampedActive
  /-- CLAMPED_INACTIVE (R114, R121) -/
  | clampedInactive
  /-- LINE_END_RELEASE (R121): UNLOAD_READY reads active. -/
  | lineEndRelease
  /-- CONVEYOR_OUT_START (R121) -/
  | conveyorOutStart
  /-- BOUT_ACTIVE (R121) -/
  | boutActive
  /-- BOUT_INACTIVE (R121): and BIN, which the entry state reads (R107). -/
  | boutInactive (bin : Bool)
  /-- OPERATION_TIMEOUT (R108) -/
  | operationTimeout
  /-- RELEASE_GRANT (R135) -/
  | releaseGrant
  /-- TRAVELLER_EXPIRY (R132): the serial of the traveller whose timer runs out. -/
  | travellerExpiry (serial : Serial)
  /-- HANDOFF_TIMEOUT (R137) -/
  | handoffTimeout
  /-- RUN (R145): TOP (R96) and BIN (R107) as they read at the press. -/
  | run (top bin : Bool)
  /-- STOP (R146) -/
  | stop
  /-- CLEAR (R153) -/
  | clear
  /-- STEP (R147): TOP (R96, R97) and BIN (R109) as they read at the press. -/
  | step (levels : PressLevels)
  /-- PURGE (R122) -/
  | purge
  /-- STOPLINE_ASSERTED (R148) -/
  | stoplineAsserted
  /-- STOPLINE_RELEASED (R148): and BIN (R107). -/
  | stoplineReleased (bin : Bool)
  /-- WINDOW_END (R156) -/
  | windowEnd
  /-- LAMP_FLASH (R159) -/
  | lampFlash
  /-- FRAME_BROKEN (R167): the character that spoils the frame. -/
  | frameBroken (ch : Character)
  /-- GAP_ABANDON (R167): the idle count passes 20 bit times. -/
  | gapAbandon
  /-- FRAME_RECEIVED (R168): the check character that completes the frame. -/
  | frameReceived (ch : Character)
  /-- HANDING_ON_START (R175) -/
  | handingOnStart
  /-- STATUS_RECEIVE (R176) -/
  | statusReceive
  /-- TRAVELLER_RECEIVE (R129) -/
  | travellerReceive
  /-- LOST_RECEIVE (R138) -/
  | lostReceive
  /-- QUERY_STATION (R177) -/
  | queryStation
  /-- QUERY_BOARD (R177) -/
  | queryBoard
  /-- QUERY_QUEUE (R177) -/
  | queryQueue
  /-- QUERY_ALARMS (R177) -/
  | queryAlarms
  /-- QUERY_MONITORS (R177) -/
  | queryMonitors
  /-- QUERY_PEERS (R177) -/
  | queryPeers
  /-- QUERY_NO_ITEM (R177) -/
  | queryNoItem
  /-- REMOTE_RUN (R178): TOP and BIN as at RUN. -/
  | remoteRun (top bin : Bool)
  /-- REMOTE_STOP (R178) -/
  | remoteStop
  /-- REMOTE_CLEAR (R178) -/
  | remoteClear
  /-- REMOTE_OTHER (R178) -/
  | remoteOther
  /-- PEER_STALE (R176): the address of the peer entry. -/
  | peerStale (addr : BitVec 5)
  /-- STATUS_TIMER_EXPIRY (R174) -/
  | statusTimerExpiry
  /-- FRAME_SEND_START (R170): the idle count in bit times at the event. -/
  | frameSendStart (idle : Nat)
  /-- ARBITRATION_LOST (R171) -/
  | arbitrationLost
  /-- COLLISION (R172) -/
  | collision
  /-- FRAME_SENT (R171) -/
  | frameSent
  /-- VALID_START (R165) -/
  | validStart
  /-- GOOD_CHARACTER (R167): the character that ends. -/
  | goodCharacter (ch : Character)
  /-- BWK_INACTIVE (R107): and BIN. -/
  | bwkInactive (bin : Bool)
  deriving DecidableEq, Repr

end Sys2Proof
end

