-- ==== Sys2Proof/Decode.lean ====
section
/-! DEFINITION. The command a table word spells. The opcode table gives no row any bits: a command of this part is an
event on its lines, not a word, so no word spells one. -/

namespace Sys2Proof

/-- The command that `nbits` bits of `w` spell by the opcode table's bits: none, since no row has bits. -/
def decodeTableWord (_nbits _w : Nat) : Option Instr := none

end Sys2Proof
end

