-- ==== Sys2Proof/Machine/State.lean ====
section
/-! DEFINITION. The state of the HX82, block by block as the manual's block diagram gives it (00_scope), as plain
data; the faults and refusals of a step; the state after reset. -/

namespace Sys2Proof.Machine

/-! ## Program data -/

/-- The straps as sampled when start-up reading begins (R7). -/
structure Straps where
  addr : BitVec 5
  role : Role
  localStrap : Bool
  deriving DecidableEq, Repr, Inhabited

/-- A monitor's settings, header words 54+3n to 56+3n (R4). -/
structure MonitorSettings where
  w : Nat
  a : Nat
  p : Nat
  warnLatch : Bool
  alarmLatch : Bool
  stopEnable : Bool
  deriving DecidableEq, Repr, Inhabited

/-- The ten options of the option word (R4). -/
structure Options where
  strict : Bool
  polarity : Bool
  bypass : Bool
  markScan : Bool
  stopline : Bool
  stopLeadMiss : Bool
  stopArrive : Bool
  stopHandoff : Bool
  stopLost : Bool
  stopClash : Bool
  deriving DecidableEq, Repr, Inhabited

/-- The header values (chapter 1, "The header"); `times` is the clamped move-time table T[1] to T[32] (R3).
HOME_TIMEOUT, TRAV_EXPIRY and HANDOFF_TIMEOUT are in seconds, the other times in ms. -/
structure Header where
  divisor : Nat
  depth : Nat
  xmax : Nat
  ymax : Nat
  spanMin : Nat
  spanMax : Nat
  fs : Nat
  tq : Nat
  settle : Nat
  times : List Nat
  vEnd : Nat
  feedTimeout : Nat
  homeTimeout : Nat
  downTimeout : Nat
  clinchTimeout : Nat
  upTimeout : Nat
  arriveTimeout : Nat
  clampTimeout : Nat
  outTimeout : Nat
  travWait : Nat
  travExpiry : Nat
  handoffTimeout : Nat
  monitors : List MonitorSettings
  options : Options
  rejectMisses : Nat
  diodeLo : Nat
  diodeHi : Nat
  jumperMax : Nat
  statusPeriod : Nat
  panelAddr : Nat
  deriving DecidableEq, Repr, Inhabited

/-- Walk order within a row (R5). -/
inductive WalkOrder where
  | imageMajor | stepMajor
  deriving DecidableEq, Repr, Inhabited

/-- A row entry of the panel list (R5). -/
structure RowEntry where
  listAddr : Nat
  images : Nat
  x0 : Nat
  y0 : Nat
  px : Int
  py : Int
  order : WalkOrder
  rowHold : Bool
  markCheck : Bool
  mx : Nat
  my : Nat
  deriving DecidableEq, Repr, Inhabited

/-- An entry of the row table (R13): the row entry, S_r, g_r and K_r. -/
structure Row where
  entry : RowEntry
  steps : Nat
  base : Nat
  start : Nat
  deriving DecidableEq, Repr, Inhabited

/-- Check kinds (R6). -/
inductive CheckKind where
  | none | res | diode | jumper
  deriving DecidableEq, Repr, Inhabited

/-- A step record's fields (R6). -/
structure StepRecord where
  x : Nat
  y : Nat
  span : Nat
  turret : Quarter
  kind : CheckKind
  m : Nat
  e : Nat
  tol : Nat
  deriving DecidableEq, Repr, Inhabited

/-- A resolved step record (R16). -/
structure Record where
  lap : Lap
  ordinal : Nat
  row : Nat
  image : Nat
  step : Nat
  x : Int
  y : Int
  span : Nat
  turret : Quarter
  kind : CheckKind
  m : Nat
  e : Nat
  tol : Nat
  rowFirst : Bool
  deriving DecidableEq, Repr, Inhabited

/-! ## Program reader -/

/-- Reader phases (R7, R14). -/
inductive ReaderPhase where
  | reading | walking | fault
  deriving DecidableEq, Repr, Inhabited

/-- Config reasons C00 to C07 (R8). -/
inductive ConfigReason where
  | c00 | c01 | c02 | c03 | c04 | c05 | c06 | c07
  deriving DecidableEq, Repr, Inhabited

/-- The walk cursor (R15). -/
structure Cursor where
  lap : Lap
  ordinal : Nat
  row : Nat
  image : Nat
  step : Nat
  deriving DecidableEq, Repr, Inhabited

/-- The read in flight on the program memory port (R1): first word address and word count, the cursor it was
issued for when it is a walking read, and the discard mark (R20). -/
structure Read where
  addr : Nat
  count : Nat
  cursor : Option Cursor
  discarded : Bool
  deriving DecidableEq, Repr, Inhabited

/-- Where start-up reading stands (R8): MODEL'S OWN working state. -/
inductive Scan where
  | idle
  /-- the header is being read -/
  | header
  /-- word 0 of the row entry at the address is being read -/
  | rowHead (addr : Nat)
  /-- words 1 to 7 of the row entry are being read, word 0 known -/
  | rowBody (addr : Nat) (word0 : Word)
  /-- the record at the address is being read, after the listed step records of the row -/
  | steps (entry : RowEntry) (rowAddr : Nat) (addr : Nat) (seen : List StepRecord)
  deriving DecidableEq, Repr, Inhabited

/-- The program reader (R21). -/
structure Reader where
  phase : ReaderPhase
  /-- none while RESET is asserted: the straps are sampled when it is released -/
  straps : Option Straps
  reason : ConfigReason
  detail : Nat
  scan : Scan
  /-- the header as checked, before it is handed on: MODEL'S OWN working state -/
  draft : Option Header
  rows : List Row
  cursor : Cursor
  buffer : List Record
  read : Option Read
  deriving DecidableEq, Repr, Inhabited

/-! ## Verifier -/

/-- Verifier phases (R22). -/
inductive VerifierPhase where
  | idle | converting1 | converting2
  deriving DecidableEq, Repr, Inhabited

/-- Verdicts (R40). -/
inductive Verdict where
  | pending | pass | failLow | failHigh | openCircuit | short | reversed | absent | unchecked
  deriving DecidableEq, Repr, Inhabited

/-- Lead directions of a conversion (R23). -/
inductive LeadDir where
  | ab | ba
  deriving DecidableEq, Repr, Inhabited

/-- The conversion in flight on the ratio converter (R23), with its abandoned mark (R32) and the ms left. -/
structure Conversion where
  range : Nat
  dir : LeadDir
  abandoned : Bool
  left : Nat
  deriving DecidableEq, Repr, Inhabited

/-- Kind, range and window of a measurement (R22, R24). -/
structure Setup where
  kind : CheckKind
  range : Nat
  window : Option (Nat × Nat)
  deriving DecidableEq, Repr, Inhabited

/-- The verifier and its converter (R22, R37). -/
structure Verifier where
  phase : VerifierPhase
  measured : Option (Lap × Nat)
  setup : Option Setup
  forward : Option Nat
  backward : Option Nat
  jawsClosed : Bool
  conversion : Option Conversion
  deriving DecidableEq, Repr, Inhabited

/-! ## Tape unit -/

/-- Missed reasons (R106): the verdict reasons of a PASS_MISS, LEAD_MISS and HEAD_JAM. -/
inductive MissReason where
  | failLow | failHigh | openCircuit | short | reversed | absent | unchecked | leadMiss | headJam
  deriving DecidableEq, Repr, Inhabited

/-- Decisions (R40, R47). -/
inductive Decision where
  | insert | insertCorrected | passBad | passMiss (reason : MissReason) | passFlush
  deriving DecidableEq, Repr, Inhabited

/-- A tape-queue entry (R40). The target set is a function of record and decision (R48). -/
structure Entry where
  record : Record
  verdict : Verdict
  codes : List Nat
  decision : Option Decision
  attempted : Bool
  deriving DecidableEq, Repr, Inhabited

/-- Tape faults (R41). -/
inductive TapeFault where
  | none | jammed | broken
  deriving DecidableEq, Repr, Inhabited

/-- The tape unit (R41, R61). -/
structure Tape where
  queue : List Entry
  /-- FEEDING (true) or IDLE -/
  feeding : Bool
  /-- ms left on the feed timer, none when stopped -/
  timer : Option Nat
  /-- the time the feed started, for the feed time of M3 (R43) -/
  startedAt : Nat
  fault : TapeFault
  /-- the flush marker (R52) -/
  flush : Option Lap
  deriving DecidableEq, Repr, Inhabited

/-! ## Table unit -/

/-- Table activities (R63). -/
inductive Activity where
  | idle | homing | moving
  deriving DecidableEq, Repr, Inhabited

/-- A commanded or target position: X, Y, turret orientation and span (R48, R63). -/
structure Target where
  x : Int
  y : Int
  turret : Quarter
  span : Nat
  deriving DecidableEq, Repr, Inhabited

/-- A move's purpose (R63). -/
inductive Purpose where
  | insert (lap : Lap) (ordinal : Nat)
  | mark (image : Nat)
  deriving DecidableEq, Repr, Inhabited

/-- A drive's own times in a move (R69 to R73). -/
structure DriveTimes where
  x : Nat
  y : Nat
  turret : Nat
  former : Nat
  deriving DecidableEq, Repr, Inhabited

/-- The plan slot of a move in flight (R63). -/
structure Move where
  purpose : Purpose
  target : Target
  times : DriveTimes
  /-- the turret turns in the increasing direction (R71) -/
  turretUp : Bool
  plan : Nat
  startedAt : Nat
  deriving DecidableEq, Repr, Inhabited

/-- The table unit (R63, R83). -/
structure Table where
  activity : Activity
  commanded : Target
  homed : Bool
  slot : Option Move
  homingTimer : Option Nat
  /-- the drives that homing still runs (R66) -/
  seeking : List Axis
  markRequest : Option Nat
  deriving DecidableEq, Repr, Inhabited

/-! ## Head unit -/

/-- Head phases (R85). -/
inductive HeadPhase where
  | top | down | clinch | sense | up | halted | returning
  deriving DecidableEq, Repr, Inhabited

/-- The HEAD drive (R85). -/
inductive HeadDrive where
  | off | up | down
  deriving DecidableEq, Repr, Inhabited

/-- What lead A and lead B gave: line levels, or contact found (R91). -/
structure Leads where
  a : Bool
  b : Bool
  deriving DecidableEq, Repr, Inhabited

/-- The head unit (R85, R103). -/
structure Head where
  phase : HeadPhase
  served : Option (Lap × Nat)
  strokeStart : Option Nat
  timer : Option Nat
  /-- ms left until the confirm sample of SENSE (R91) -/
  confirm : Option Nat
  first : Option Leads
  lead : Option Leads
  lastLead : Option Leads
  lastCycle : Option Nat
  drive : HeadDrive
  clinchOn : Bool
  deriving DecidableEq, Repr, Inhabited

/-! ## Boards and travellers -/

/-- Reject reasons (R106, R126). -/
inductive RejectReason where
  | untracked | misses | upstream
  deriving DecidableEq, Repr, Inhabited

/-- A stage summary (R126). -/
structure Stage where
  addr : Nat
  inserted : Nat
  missed : Nat
  missList : List (Nat × MissReason)
  deriving DecidableEq, Repr, Inhabited

/-- The board record (R106). The reject flag is set exactly when a reason is present. -/
structure Board where
  serial : Serial
  lap : Option Lap
  mask : Mask
  reject : Option RejectReason
  stages : List Stage
  dropped : Nat
  inserted : Nat
  missed : Nat
  passed : Nat
  missList : List (Nat × MissReason)
  overflow : Nat
  holds : BitVec 8
  ownStage : Option Stage
  deriving DecidableEq, Repr, Inhabited

/-- Work-position states (R105). -/
inductive WorkState where
  | empty | entering | matching | clamping | scanning | ready | working | done | releasing
  deriving DecidableEq, Repr, Inhabited

/-- Board-handling operations (R108). -/
inductive OpKind where
  | conveyorIn | clamp | unclamp | conveyorOut
  deriving DecidableEq, Repr, Inhabited

/-- Operation conditions (R105); `waiting` is the MODEL'S OWN, for the time before an operation's first start
(log entry 13). -/
inductive OpCondition where
  | driving | stalled | waiting
  deriving DecidableEq, Repr, Inhabited

/-- The work-position unit (R105, R124). -/
structure Work where
  state : WorkState
  op : Option (OpKind × OpCondition)
  opTimer : Option Nat
  clamped : Bool
  exitSeen : Bool
  board : Option Board
  ownCounter : Serial
  accept : BitVec 8
  matchTimer : Option Nat
  scan : Option Nat
  /-- GATE: reject (true) or good -/
  gateReject : Bool
  convIn : Bool
  convOut : Bool
  clampOn : Bool
  deriving DecidableEq, Repr, Inhabited

/-- A traveller (R126). -/
structure Traveller where
  serial : Serial
  reject : Option RejectReason
  mask : Mask
  stages : List Stage
  dropped : Nat
  deriving DecidableEq, Repr, Inhabited

/-- A traveller in the arrival queue with the ms left on its expiry timer (R128). -/
structure Arrival where
  traveller : Traveller
  left : Nat
  deriving DecidableEq, Repr, Inhabited

/-- Hand-off phases (R128). -/
inductive HandPhase where
  | none | sent | timing | expired | lost
  deriving DecidableEq, Repr, Inhabited

/-- The traveller unit (R128, R140). -/
structure Trav where
  arrivals : List Arrival
  takeOpen : Bool
  release : Option (Serial × BitVec 8)
  phase : HandPhase
  timer : Option Nat
  duplicate : Nat
  foreign : Nat
  malformed : Nat
  overflow : Nat
  expiry : Nat
  lostNotSent : Nat
  deriving DecidableEq, Repr, Inhabited

/-! ## Alarm unit -/

/-- Run states (R142). -/
inductive RunState where
  | configFault | stopped | homing | running | stepping | stopping | holding | alarm
  deriving DecidableEq, Repr, Inhabited

/-- Alarm codes (chapter 8, "Alarm codes"). -/
inductive AlarmCode where
  | homeFail | tableLimit | downJam | clinchJam | upJam | leadMiss | tapeJam | tapeBreak | tapeLow
  | arriveTimeout | clampJam | outJam | handoffTimeout | boardLost | arrivalFull | addressClash
  | cycleTime | verifyFails | boardMisses | feedTime | strokeTime | linkErrors
  deriving DecidableEq, Repr, Inhabited

/-- An alarm-list entry (R150). -/
structure AlarmEntry where
  code : AlarmCode
  count : Nat
  serial : Option Serial
  ordinal : Option Nat
  stop : Bool
  persists : Bool
  deriving DecidableEq, Repr, Inhabited

/-- A monitor's running record (R156). Its settings are in the header. -/
structure Monitor where
  value : Nat
  warn : Bool
  alarm : Bool
  count : Nat
  deriving DecidableEq, Repr, Inhabited

/-- The six monitors (R156). -/
inductive MonitorId where
  | m0 | m1 | m2 | m3 | m4 | m5
  deriving DecidableEq, Repr, Inhabited

/-- What the three-character display shows (R160). -/
inductive Display where
  | config (reason : ConfigReason)
  | alarm (code : AlarmCode)
  | held (addr : Nat)
  | heldUnknown
  | rowHold
  | blank
  deriving DecidableEq, Repr, Inhabited

/-- How a lamp is lit (R159). -/
inductive Lamp where
  | off | on | flashing
  deriving DecidableEq, Repr, Inhabited

/-- The alarm unit (R142, R161); the config reason is the reader's, the outputs are in `Outputs`. -/
structure Alarm where
  run : RunState
  rowHold : Bool
  /-- the homing target RUNNING or STEPPING, as a run state; none when there is none -/
  homingTarget : Option RunState
  stepUsed : Bool
  list : List AlarmEntry
  more : Bool
  m0 : Monitor
  m1 : Monitor
  m2 : Monitor
  m3 : Monitor
  m4 : Monitor
  m5 : Monitor
  windowTimer : Option Nat
  /-- the flashing lamps are in the lit half of their period (R159) -/
  flashLit : Bool
  flashLeft : Nat
  deriving DecidableEq, Repr, Inhabited

/-! ## Link unit -/

/-- Frame assembly (R163): BETWEEN, ASSEMBLING with the bytes so far, SKIPPING. -/
inductive Assembly where
  | between
  | assembling (bytes : List Byte)
  | skipping
  deriving DecidableEq, Repr, Inhabited

/-- A frame without its check byte (R166). The length is the payload's. -/
structure Frame where
  sender : Byte
  kind : Byte
  dest : Byte
  payload : List Byte
  deriving DecidableEq, Repr, Inhabited

/-- What the sender is putting on the line (R163): a STATUS of the status slot, or the oldest frame of the transmit
queue; with the frame as built. -/
structure Sending where
  status : Bool
  frame : Frame
  deriving DecidableEq, Repr, Inhabited

/-- A peer-table entry (R176): heard flag, age, and the ten payload bytes of the last STATUS as received (R182). -/
structure Peer where
  heard : Bool
  age : Nat
  bytes : List Byte
  deriving DecidableEq, Repr, Inhabited

/-- The link counters (R169), in the order of that rule's table. -/
structure LinkCounters where
  characterErrors : Nat
  lengthErrors : Nat
  gapAbandons : Nat
  checkErrors : Nat
  structureErrors : Nat
  clashFrames : Nat
  receiveOverruns : Nat
  arbitrationLosses : Nat
  collisions : Nat
  droppedFrames : Nat
  unanswered : Nat
  deriving DecidableEq, Repr, Inhabited

/-- The link unit (R163, R180). -/
structure Link where
  /-- the rate, as its divisor (R164) -/
  divisor : Nat
  /-- the receiver is in CHARACTER (true) or HUNT -/
  inCharacter : Bool
  assembly : Assembly
  /-- the frame in assembly was begun while this station was sending it: MODEL'S OWN (R168 test 1, log entry 9) -/
  own : Bool
  /-- idle count in whole bit times -/
  idle : Nat
  /-- the part of a bit time beyond `idle`, in units of 1/2304 ms: MODEL'S OWN (log entry 8) -/
  idlePart : Nat
  sending : Option Sending
  statusRetry : Nat
  queueRetry : Nat
  rx : List Frame
  /-- a handing on is in flight (R175) -/
  handing : Bool
  tx : List Frame
  /-- the status slot is DUE -/
  due : Bool
  /-- the slot became DUE again while its STATUS was on the line (R174) -/
  again : Bool
  statusTimer : Option Nat
  period : Nat
  /-- thirty entries, address 1 first -/
  peers : List Peer
  errors : Nat
  counters : LinkCounters
  deriving DecidableEq, Repr, Inhabited

/-! ## Pins -/

/-- The input lines that some rule reads as a level, at the level each last reported or was sampled with (log
entry 7). INDEX, BOTTOM, CLINCH_DONE and the buttons are acted on by their edges alone and hold no level here. -/
structure Lines where
  pres : Bool
  tbrk : Bool
  tend : Bool
  top : Bool
  cla : Bool
  clb : Bool
  home : HomeLevels
  xlim : Bool
  ylim : Bool
  mark : Bool
  bin : Bool
  bwk : Bool
  bout : Bool
  clamped : Bool
  unloadReady : Bool
  /-- STOPLINE is pulled by another station -/
  stopline : Bool
  /-- LINK is high -/
  link : Bool
  deriving DecidableEq, Repr, Inhabited

/-- Entry state (R107). -/
inductive EntryState where
  | busy | free
  deriving DecidableEq, Repr, Inhabited

/-- The output lines that are functions of the rest of the state, as last driven, and the entry state. The drives
JAWS, HEAD, CLINCH, CONV_IN, CONV_OUT, CLAMP and GATE stand in their units. -/
structure Outputs where
  feed : Bool
  xdrv : Bool
  ydrv : Bool
  turretDrv : Bool
  formerDrv : Bool
  lampRun : Bool
  lampStop : Bool
  lampAlarm : Bool
  display : Display
  stopOut : Bool
  stopDrive : Bool
  entry : EntryState
  deriving DecidableEq, Repr, Inhabited

/-! ## The station -/

/-- The whole station. `pending` is the queue of commands that wait, first in, first out; `now` is the MODEL'S OWN
clock in ms (log entry 3); `hdr` holds the header values from the end of a valid start-up on (R14, R21). -/
structure State where
  pending : List Instr
  now : Nat
  hdr : Option Header
  lines : Lines
  out : Outputs
  reader : Reader
  verifier : Verifier
  tape : Tape
  table : Table
  head : Head
  work : Work
  trav : Trav
  alarm : Alarm
  link : Link
  deriving DecidableEq, Repr, Inhabited

/-- Why a step stops with a fault. -/
inductive Fault where
  /-- Raised by PMEM_READ_COMPLETION alone, when the command's words are not as many as the read in flight named.
  R1 says that the completion delivers the words that were named, and gives no effect to any other delivery: it is
  no event of the part. Safe: the model stops where the manual describes nothing. -/
  | wordsNotAsNamed
  deriving DecidableEq, Repr

/-- Why a command has no meaning. -/
inductive Refusal where
  /-- Raised by exec's arm of a command that has no meaning yet; no arm does. Safe. -/
  | notModelled (mnemonic : String)
  deriving DecidableEq, Repr

/-- No input line active; LINK rests high (log entry 10). -/
def Lines.atReset : Lines :=
  { pres := false, tbrk := false, tend := false, top := false, cla := false, clb := false,
    home := ⟨false, false, false, false⟩, xlim := false, ylim := false, mark := false, bin := false, bwk := false,
    bout := false, clamped := false, unloadReady := false, stopline := false, link := true }

/-- The outputs after reset: every drive off, the lamps off, the display C00, both stop outputs released (R161), the
entry state BUSY (R124). -/
def Outputs.atReset : Outputs :=
  { feed := false, xdrv := false, ydrv := false, turretDrv := false, formerDrv := false, lampRun := false,
    lampStop := false, lampAlarm := false, display := .config .c00, stopOut := false, stopDrive := false, entry := .busy }

/-- R21. -/
def Reader.atReset : Reader :=
  { phase := .reading, straps := none, reason := .c00, detail := 0, scan := .idle, draft := none, rows := [],
    cursor := ⟨0, 0, 0, 0, 0⟩, buffer := [], read := none }

/-- R37. -/
def Verifier.atReset : Verifier :=
  { phase := .idle, measured := none, setup := none, forward := none, backward := none, jawsClosed := false,
    conversion := none }

/-- R61. -/
def Tape.atReset : Tape :=
  { queue := [], feeding := false, timer := none, startedAt := 0, fault := .none, flush := none }

/-- R83; the span before a valid start-up is the model's (log entry 10). -/
def Table.atReset : Table :=
  { activity := .idle, commanded := ⟨0, 0, 0, 0⟩, homed := false, slot := none, homingTimer := none, seeking := [],
    markRequest := none }

/-- R103. -/
def Head.atReset : Head :=
  { phase := .halted, served := none, strokeStart := none, timer := none, confirm := none, first := none, lead := none,
    lastLead := none, lastCycle := none, drive := .off, clinchOn := false }

/-- R124. -/
def Work.atReset : Work :=
  { state := .empty, op := none, opTimer := none, clamped := false, exitSeen := false, board := none, ownCounter := 0,
    accept := 0, matchTimer := none, scan := none, gateReject := false, convIn := false, convOut := false,
    clampOn := false }

/-- R140. -/
def Trav.atReset : Trav :=
  { arrivals := [], takeOpen := false, release := none, phase := .none, timer := none, duplicate := 0, foreign := 0,
    malformed := 0, overflow := 0, expiry := 0, lostNotSent := 0 }

/-- A monitor after reset (R161). -/
def Monitor.atReset : Monitor := { value := 0, warn := false, alarm := false, count := 0 }

/-- R161; the phase of the flash period is the model's (log entry 10). -/
def Alarm.atReset : Alarm :=
  { run := .configFault, rowHold := false, homingTarget := none, stepUsed := false, list := [], more := false,
    m0 := .atReset, m1 := .atReset, m2 := .atReset, m3 := .atReset, m4 := .atReset, m5 := .atReset,
    windowTimer := none, flashLit := false, flashLeft := Config.flashTime }

/-- A peer-table entry after reset (R180). -/
def Peer.atReset : Peer := { heard := false, age := 0, bytes := [] }

/-- R180. -/
def Link.atReset : Link :=
  { divisor := Config.defaultDivisor, inCharacter := false, assembly := .skipping, own := false, idle := 0,
    idlePart := 0, sending := none, statusRetry := 0, queueRetry := 0, rx := [], handing := false, tx := [],
    due := false, again := false, statusTimer := none, period := Config.defaultPeriod,
    peers := List.replicate 30 .atReset, errors := 0, counters := ⟨0, 0, 0, 0, 0, 0, 0, 0, 0, 0, 0⟩ }

/-- The station right after reset, RESET still asserted: every unit at the values of its own chapter (R21, R37, R61,
R83, R103, R124, R140, R161, R180). -/
def State.reset : State :=
  { pending := [], now := 0, hdr := none, lines := .atReset, out := .atReset, reader := .atReset,
    verifier := .atReset, tape := .atReset, table := .atReset, head := .atReset, work := .atReset, trav := .atReset,
    alarm := .atReset, link := .atReset }

end Sys2Proof.Machine
end

