-- ==== Sys2Proof/Machine/Blocks.lean ====
section
/-! DEFINITION. One update per block of the state. Every operation of the model changes the station through these, so
that what an operation leaves unchanged can be read off (lemmas in Laws/State.lean). -/

namespace Sys2Proof.Machine

/-- Hold the header values (R14). -/
def State.setHdr (s : State) (h : Header) : State := { s with hdr := some h }

/-- Change the lines block. -/
def State.modLines (s : State) (f : Lines → Lines) : State := { s with lines := f s.lines }

/-- Change the reader block. -/
def State.modReader (s : State) (f : Reader → Reader) : State := { s with reader := f s.reader }

/-- Change the verifier block. -/
def State.modVerifier (s : State) (f : Verifier → Verifier) : State := { s with verifier := f s.verifier }

/-- Change the tape block. -/
def State.modTape (s : State) (f : Tape → Tape) : State := { s with tape := f s.tape }

/-- Change the table block. -/
def State.modTable (s : State) (f : Table → Table) : State := { s with table := f s.table }

/-- Change the head block. -/
def State.modHead (s : State) (f : Head → Head) : State := { s with head := f s.head }

/-- Change the work block. -/
def State.modWork (s : State) (f : Work → Work) : State := { s with work := f s.work }

/-- Change the trav block. -/
def State.modTrav (s : State) (f : Trav → Trav) : State := { s with trav := f s.trav }

/-- Change the alarm block. -/
def State.modAlarm (s : State) (f : Alarm → Alarm) : State := { s with alarm := f s.alarm }

/-- Change the link block. -/
def State.modLink (s : State) (f : Link → Link) : State := { s with link := f s.link }

end Sys2Proof.Machine
end

