-- ==== Sys2Proof/Machine/Formats.lean ====
section
/-! DEFINITION. Record and frame formats (chapter 10, R164, R166, R181 to R185): how words and bytes are read and
written, and the codes of the code tables. -/

namespace Sys2Proof.Machine

/-! ## Bytes and words -/

/-- A value in two bytes, low byte first (R166). -/
def le16 (n : Nat) : List Byte := [BitVec.ofNat 8 n, BitVec.ofNat 8 (n / 256)]

/-- The value of two bytes, low byte first. -/
def ofLe16 (lo hi : Byte) : Nat := lo.toNat + 256 * hi.toNat

/-- One byte of a small value. -/
def byte (n : Nat) : Byte := BitVec.ofNat 8 n

/-- A flag as a byte: 0 clear, 1 set. -/
def flagByte (b : Bool) : Byte := if b then 1 else 0

/-- The sum of bytes as an exact integer. -/
def byteSum (bs : List Byte) : Nat := bs.foldl (fun n b => n + b.toNat) 0

/-! ## Characters (R164, R165) -/

/-- The parity of a byte's bits: true when the byte holds an odd number of 1s. -/
def oddOnes (b : Byte) : Bool :=
  b.getLsbD 0 ^^ b.getLsbD 1 ^^ b.getLsbD 2 ^^ b.getLsbD 3 ^^ b.getLsbD 4 ^^ b.getLsbD 5 ^^ b.getLsbD 6 ^^ b.getLsbD 7

/-- The eleven bits of a byte's character, in the order they are sent: start bit 0, eight data bits least significant
first, even parity, stop bit 1 (R164). -/
def characterBits (b : Byte) : List Bool :=
  [false, b.getLsbD 0, b.getLsbD 1, b.getLsbD 2, b.getLsbD 3, b.getLsbD 4, b.getLsbD 5, b.getLsbD 6, b.getLsbD 7,
   oddOnes b, true]

/-- The character a station sends for a byte (R164). -/
def goodCharacterOf (b : Byte) : Character := ⟨b, oddOnes b, true⟩

/-- How a character ends at its stop-bit sample (R165). -/
inductive CharacterEnd where
  | framingError | parityError | good
  deriving DecidableEq, Repr, Inhabited

/-- R165 tests 1 to 3. -/
def characterEnd (ch : Character) : CharacterEnd :=
  if !ch.stop then .framingError
  else if oddOnes ch.data ^^ ch.parity then .parityError
  else .good

/-- The bit rate of a divisor, 3,686,400 / (16 × (divisor + 1)) bit/s, in tenths of a bit per second rounded down;
the exact ratio is 230,400 to divisor + 1 (R164). -/
def bitRateTenths (divisor : Nat) : Nat := 36864000 / (16 * (divisor + 1))

/-! ## Frames (R166) -/

/-- The frame's bytes before the check byte. -/
def Frame.head (f : Frame) : List Byte :=
  f.sender :: f.kind :: f.dest :: byte f.payload.length :: f.payload

/-- The check byte of a sum: 256 less its remainder mod 256, or 0 when the remainder is 0 (R166). -/
def checkByte (sum : Nat) : Byte := byte (256 - sum % 256)

/-- All bytes of a frame, the check byte last (R166). -/
def Frame.bytes (f : Frame) : List Byte := f.head ++ [checkByte (byteSum f.head)]

/-- The bytes sum to 0 mod 256 (R168 test 2). -/
def sumsToZero (bytes : List Byte) : Bool := byteSum bytes % 256 == 0

/-- A complete run of n + 5 bytes as a frame. -/
def frameOfBytes (bytes : List Byte) : Option Frame :=
  match bytes with
  | s :: k :: d :: _ :: rest => some ⟨s, k, d, rest.dropLast⟩
  | _ => none

def kindStatus : Byte := 1
def kindTraveller : Byte := 2
def kindLost : Byte := 3
def kindQuery : Byte := 4
def kindReport : Byte := 5
def kindRemote : Byte := 6

/-- The address of the service tool (R177). -/
def toolAddr : Byte := 31

/-- The kind is one of the six and the payload length is one the kind allows (chapter 10, "Frame envelope"). -/
def lengthAllowed (kind : Byte) (n : Nat) : Bool :=
  if kind = kindStatus then n == 10
  else if kind = kindTraveller then decide (9 ≤ n) && decide (n ≤ 189)
  else if kind = kindLost then n == 2
  else if kind = kindQuery then n == 2
  else if kind = kindReport then decide (3 ≤ n) && decide (n ≤ 197)
  else if kind = kindRemote then n == 1
  else false

/-! ## Codes -/

def ConfigReason.code : ConfigReason → Nat
  | .c00 => 0 | .c01 => 1 | .c02 => 2 | .c03 => 3 | .c04 => 4 | .c05 => 5 | .c06 => 6 | .c07 => 7

def Role.code : Role → Nat
  | .lineHead => 0 | .middle => 1 | .lineEnd => 2

def RunState.code : RunState → Nat
  | .configFault => 0 | .stopped => 1 | .homing => 2 | .running => 3 | .stepping => 4 | .stopping => 5
  | .holding => 6 | .alarm => 7

def Verdict.code : Verdict → Nat
  | .pending => 0 | .failLow => 1 | .failHigh => 2 | .openCircuit => 3 | .short => 4 | .reversed => 5
  | .absent => 6 | .unchecked => 7 | .pass => 10

def MissReason.code : MissReason → Nat
  | .failLow => 1 | .failHigh => 2 | .openCircuit => 3 | .short => 4 | .reversed => 5
  | .absent => 6 | .unchecked => 7 | .leadMiss => 8 | .headJam => 9

def missReasonOfCode (b : Byte) : Option MissReason :=
  match b.toNat with
  | 1 => some .failLow | 2 => some .failHigh | 3 => some .openCircuit | 4 => some .short | 5 => some .reversed
  | 6 => some .absent | 7 => some .unchecked | 8 => some .leadMiss | 9 => some .headJam
  | _ => none

def CheckKind.code : CheckKind → Nat
  | .none => 0 | .res => 1 | .diode => 2 | .jumper => 3

def checkKindOfCode : Nat → Option CheckKind
  | 0 => some .none | 1 => some .res | 2 => some .diode | 3 => some .jumper
  | _ => none

def Decision.code : Option Decision → Nat
  | none => 0 | some .insert => 1 | some .insertCorrected => 2 | some .passBad => 3 | some (.passMiss _) => 4
  | some .passFlush => 5

def TapeFault.code : TapeFault → Nat
  | .none => 0 | .jammed => 1 | .broken => 2

def Activity.code : Activity → Nat
  | .idle => 0 | .homing => 1 | .moving => 2

def HeadPhase.code : HeadPhase → Nat
  | .top => 0 | .down => 1 | .clinch => 2 | .sense => 3 | .up => 4 | .halted => 5 | .returning => 6

def WorkState.code : WorkState → Nat
  | .empty => 0 | .entering => 1 | .matching => 2 | .clamping => 3 | .scanning => 4 | .ready => 5 | .working => 6
  | .done => 7 | .releasing => 8

def OpKind.code : OpKind → Nat
  | .conveyorIn => 1 | .clamp => 2 | .unclamp => 3 | .conveyorOut => 4

def HandPhase.code : HandPhase → Nat
  | .none => 0 | .sent => 1 | .timing => 2 | .expired => 3 | .lost => 4

def EntryState.code : EntryState → Nat
  | .busy => 0 | .free => 1

/-- The two decimal digits of an alarm code as a number (chapter 8, "Alarm codes"). -/
def AlarmCode.code : AlarmCode → Nat
  | .homeFail => 21 | .tableLimit => 22 | .downJam => 31 | .clinchJam => 32 | .upJam => 33 | .leadMiss => 34
  | .tapeJam => 41 | .tapeBreak => 42 | .tapeLow => 43 | .arriveTimeout => 51 | .clampJam => 52 | .outJam => 53
  | .handoffTimeout => 54 | .boardLost => 55 | .arrivalFull => 56 | .addressClash => 61
  | .cycleTime => 70 | .verifyFails => 71 | .boardMisses => 72 | .feedTime => 73 | .strokeTime => 74
  | .linkErrors => 75

/-! ## Program memory words (R181) -/

/-- Word `k` of a delivered run, read unsigned. -/
def wordAt (ws : List Word) (k : Nat) : Nat := (ws.getD k 0).toNat

/-- `lo ≤ v ≤ hi`. -/
def within (lo hi v : Nat) : Bool := decide (lo ≤ v) && decide (v ≤ hi)

/-- 0xFFFF, the not-given word of R2 and the END record's first word (R6). -/
def allOnes : Nat := 65535

/-- The checks of the header fields in index order 1 to 66 (R2, R3, R4, R9 and the header table), each with its index.
`w k` is header word `k`. -/
def headerChecks (w : Nat → Nat) : List (Nat × Bool) :=
  [(1, within 1 23 (w 1)), (2, within 2 8 (w 2)), (3, within 1000 24000 (w 3)), (4, within 1000 24000 (w 4)),
   (5, within 50 255 (w 5)), (6, within (w 5) 255 (w 6)), (7, within 1 50 (w 7)), (8, within 10 400 (w 8)),
   (9, within 0 50 (w 9))]
  ++ (List.range 32).map (fun b => (10 + b, within 1 2000 (w (10 + b))))
  ++ [(42, within 1 64 (w 42)), (43, within 20 500 (w 43)), (44, within 1 30 (w 44)), (45, within 10 300 (w 45)),
      (46, within 10 300 (w 46)), (47, within 10 300 (w 47)), (48, within 100 10000 (w 48)),
      (49, within 50 2000 (w 49)), (50, within 100 10000 (w 50)), (51, within 0 1000 (w 51)), (52, within 1 60 (w 52)),
      (53, within 1 60 (w 53))]
  ++ (List.range 6).map (fun n => (54 + n, within 1 15 (w (56 + 3 * n) % 16) && decide (w (56 + 3 * n) / 128 = 0)))
  ++ [(60, decide (w 72 < 1024)), (61, within 0 255 (w 73)), (62, within 6 4089 (w 74)),
      (63, within (w 74) 4089 (w 75)), (64, within 0 200 (w 76) || w 76 == allOnes),
      (65, within 50 1000 (w 77) || w 77 == allOnes), (66, within Config.headerWords Config.lastWord (w 78))]

/-- The index of the first header field out of range (R9). -/
def headerFault (w : Nat → Nat) : Option Nat :=
  ((headerChecks w).find? (fun c => !c.2)).map Prod.fst

/-- The running maximum of the written move times (R3). -/
def runningMax (sofar : Nat) : List Nat → List Nat
  | [] => []
  | t :: ts => max sofar t :: runningMax (max sofar t) ts

/-- A monitor's settings from its three header words (chapter 10, "Header"). -/
def monitorSettingsOf (w0 w1 w2 : Nat) : MonitorSettings :=
  { w := w0, a := w1, p := w2 % 16, warnLatch := w2.testBit 4, alarmLatch := w2.testBit 5, stopEnable := w2.testBit 6 }

/-- The options from the option word (chapter 10, "Header"). -/
def optionsOf (v : Nat) : Options :=
  { strict := v.testBit 0, polarity := v.testBit 1, bypass := v.testBit 2, markScan := v.testBit 3,
    stopline := v.testBit 4, stopLeadMiss := v.testBit 5, stopArrive := v.testBit 6, stopHandoff := v.testBit 7,
    stopLost := v.testBit 8, stopClash := v.testBit 9 }

/-- The header values read from the header's words (R2, R3, chapter 10). -/
def headerOf (w : Nat → Nat) : Header :=
  { divisor := w 1, depth := w 2, xmax := w 3, ymax := w 4, spanMin := w 5, spanMax := w 6, fs := w 7, tq := w 8,
    settle := w 9, times := runningMax 0 ((List.range 32).map (fun b => w (10 + b))), vEnd := w 42,
    feedTimeout := w 43, homeTimeout := w 44, downTimeout := w 45, clinchTimeout := w 46, upTimeout := w 47,
    arriveTimeout := w 48, clampTimeout := w 49, outTimeout := w 50, travWait := w 51, travExpiry := w 52,
    handoffTimeout := w 53,
    monitors := (List.range 6).map (fun n => monitorSettingsOf (w (54 + 3 * n)) (w (55 + 3 * n)) (w (56 + 3 * n))),
    options := optionsOf (w 72), rejectMisses := w 73, diodeLo := w 74, diodeHi := w 75,
    jumperMax := if w 76 = allOnes then Config.defaultJumper else w 76,
    statusPeriod := if w 77 = allOnes then Config.defaultPeriod else w 77, panelAddr := w 78 }

/-- The image count of a row entry: bits 0 to 4 of its word 0 (R181). -/
def rowImages (w0 : Word) : Nat := w0.toNat % 32

/-- A row entry from its word 0 and its words 1 to 7, or nothing when a check of R10 on its contents fails. -/
def rowEntryOf (w0 : Word) (rest : List Word) : Option RowEntry :=
  let order := w0.toNat / 256 % 4
  let px := (rest.getD 3 0).toInt
  let py := (rest.getD 4 0).toInt
  let e : RowEntry :=
    { listAddr := wordAt rest 0, images := rowImages w0, x0 := wordAt rest 1, y0 := wordAt rest 2, px := px, py := py,
      order := if order = 1 then .imageMajor else .stepMajor, rowHold := w0.getLsbD 10, markCheck := w0.getLsbD 11,
      mx := wordAt rest 5, my := wordAt rest 6 }
  if decide (e.images ≤ 16) && decide (e.x0 ≤ 24000) && decide (e.y0 ≤ 24000)
      && decide (-24000 ≤ px ∧ px ≤ 24000) && decide (-24000 ≤ py ∧ py ≤ 24000)
      && (order == 1 || order == 2) && decide (e.mx ≤ 16383) && decide (e.my ≤ 16383)
      && decide (w0.toNat / 32 % 8 = 0) && decide (w0.toNat / 4096 = 0) && decide (Config.headerWords ≤ e.listAddr)
  then some e else none

/-- A step record from its four words, with the unused bits and the kind as read (chapter 10). -/
def stepRecordOf (ws : List Word) (kind : CheckKind) : StepRecord :=
  let w2 := wordAt ws 2
  let w3 := wordAt ws 3
  { x := wordAt ws 0, y := wordAt ws 1, span := w2 % 256, turret := BitVec.ofNat 2 (w2 / 256), kind := kind,
    m := w3 % 128, e := w3 / 128 % 8, tol := w3 / 1024 % 8 }

/-- A step record that passes the checks of R11, within the spans of the header. -/
def checkedStep (spanMin spanMax : Nat) (ws : List Word) : Option StepRecord :=
  (checkKindOfCode (wordAt ws 2 / 1024 % 8)).bind fun kind =>
    let r := stepRecordOf ws kind
    let fieldsOk :=
      if kind = .res then within 10 99 r.m && decide (r.e ≤ 6) && decide (r.tol ≤ 5)
      else r.m == 0 && r.e == 0 && r.tol == 0
    if decide (r.x ≤ 16383) && decide (r.y ≤ 16383) && within spanMin spanMax r.span
        && decide (wordAt ws 2 / 8192 = 0) && decide (wordAt ws 3 / 8192 = 0) && fieldsOk
    then some r else none

/-! ## Travellers (R183) -/

/-- Byte 2 of the traveller layout: reject flag and reason. -/
def rejectByte : Option RejectReason → Byte
  | none => 0
  | some .untracked => 1 + 2 * 1
  | some .misses => 1 + 2 * 2
  | some .upstream => 1 + 2 * 3

/-- R183 test 2: bits 3 to 7 are 0 and the flag is set exactly when the reason is not 0. -/
def rejectOfByte (b : Byte) : Option (Option RejectReason) :=
  if b = 0 then some none
  else if b = 3 then some (some .untracked)
  else if b = 5 then some (some .misses)
  else if b = 7 then some (some .upstream)
  else none

/-- The four bytes of a mask, low byte first. -/
def maskBytes (m : Mask) : List Byte :=
  [m.extractLsb' 0 8, m.extractLsb' 8 8, m.extractLsb' 16 8, m.extractLsb' 24 8]

/-- A mask from its four bytes. -/
def maskOf (b0 b1 b2 b3 : Byte) : Mask := b3 ++ b2 ++ b1 ++ b0

/-- One missed-list entry: ordinal in two bytes, then reason in one. -/
def missBytes (p : Nat × MissReason) : List Byte := le16 p.1 ++ [byte p.2.code]

/-- A stage's bytes (chapter 10, "TRAVELLER"). -/
def stageBytes (g : Stage) : List Byte :=
  byte g.addr :: (le16 g.inserted ++ le16 g.missed ++ byte g.missList.length :: g.missList.flatMap missBytes)

/-- The payload of a traveller. -/
def travellerBytes (t : Traveller) : List Byte :=
  le16 t.serial.toNat ++ rejectByte t.reject :: maskBytes t.mask
    ++ byte t.dropped :: byte t.stages.length :: t.stages.flatMap stageBytes

/-- `n` missed-list entries off the front of `bs`: every ordinal at most 4095, every reason a code from 1 to 9. -/
def takeMisses : Nat → List Byte → Option (List (Nat × MissReason) × List Byte)
  | 0, bs => some ([], bs)
  | n + 1, lo :: hi :: r :: bs =>
    match missReasonOfCode r, takeMisses n bs with
    | some reason, some (ms, rest) =>
      if ofLe16 lo hi ≤ 4095 then some ((ofLe16 lo hi, reason) :: ms, rest) else none
    | _, _ => none
  | _ + 1, _ => none

/-- One stage off the front of `bs` (R183 test 4). -/
def takeStage : List Byte → Option (Stage × List Byte)
  | a :: i0 :: i1 :: m0 :: m1 :: n :: bs =>
    match takeMisses n.toNat bs with
    | some (ms, rest) =>
      if within 1 30 a.toNat && decide (ofLe16 i0 i1 ≤ 4096) && decide (ofLe16 m0 m1 ≤ 4096)
          && decide (n.toNat ≤ Config.missRoom) && decide (n.toNat ≤ ofLe16 m0 m1)
      then some (⟨a.toNat, ofLe16 i0 i1, ofLe16 m0 m1, ms⟩, rest) else none
    | none => none
  | _ => none

/-- `n` stages off the front of `bs`. -/
def takeStages : Nat → List Byte → Option (List Stage × List Byte)
  | 0, bs => some ([], bs)
  | n + 1, bs =>
    match takeStage bs with
    | some (g, rest) =>
      match takeStages n rest with
      | some (gs, rest') => some (g :: gs, rest')
      | none => none
    | none => none

/-- The well-formed traveller a payload gives (R183), or nothing when it is malformed. -/
def travellerOfBytes (bs : List Byte) : Option Traveller :=
  match bs with
  | s0 :: s1 :: rj :: k0 :: k1 :: k2 :: k3 :: dropped :: n :: rest =>
    match rejectOfByte rj, takeStages n.toNat rest with
    | some reject, some (stages, []) =>
      if ofLe16 s0 s1 ≠ allOnes ∧ n.toNat ≤ Config.stageRoom then
        some ⟨BitVec.ofNat 16 (ofLe16 s0 s1), reject, maskOf k0 k1 k2 k3, stages, dropped.toNat⟩
      else none
    | _, _ => none
  | _ => none

/-- A stage whose fields keep to the ranges of R126. -/
def Stage.wf (g : Stage) : Bool :=
  within 1 30 g.addr && decide (g.inserted ≤ 4096) && decide (g.missed ≤ 4096)
    && decide (g.missList.length ≤ Config.missRoom) && decide (g.missList.length ≤ g.missed)
    && g.missList.all (fun p => decide (p.1 ≤ 4095))

/-- A well-formed traveller (R126). -/
def Traveller.wf (t : Traveller) : Bool :=
  decide (t.serial ≠ 0xFFFF) && decide (t.stages.length ≤ Config.stageRoom) && t.stages.all Stage.wf
    && decide (t.dropped ≤ 255)

/-! ## STATUS (R174, R182) -/

/-- The fields of a STATUS that a receiving station reads, as R182 reads them from the bytes as received. -/
structure StatusView where
  configFault : Bool
  free : Bool
  accept : BitVec 8
  stopDrive : Bool
  deriving DecidableEq, Repr, Inhabited

def statusView (bytes : List Byte) : StatusView :=
  { configFault := bytes.getD 0 0 == 0, free := bytes.getD 1 0 == 1, accept := bytes.getD 2 0,
    stopDrive := bytes.getD 5 0 != 0 }

end Sys2Proof.Machine
end

