-- ==== Sys2Proof/Machine/Walk.lean ====
section
/-! DEFINITION. The row table and the walk (R5, R12, R13, R15 to R17, R20): image origins, targets, mark points,
panel totals, the cursor and the resolved step record. -/

namespace Sys2Proof.Machine

/-- The image origin of image `i` of a row, an exact integer (R5). -/
def RowEntry.origin (e : RowEntry) (i : Nat) : Int × Int :=
  ((e.x0 : Int) + i * e.px, (e.y0 : Int) + i * e.py)

/-- The step target of a step record on image `i` (R12). -/
def RowEntry.stepTarget (e : RowEntry) (i : Nat) (r : StepRecord) : Int × Int :=
  ((e.origin i).1 + r.x, (e.origin i).2 + r.y)

/-- The mark point of image `i` (R5). -/
def RowEntry.markPoint (e : RowEntry) (i : Nat) : Int × Int :=
  ((e.origin i).1 + e.mx, (e.origin i).2 + e.my)

/-- In travel: X from 0 to Xmax and Y from 0 to Ymax (R12). -/
def inTravel (xmax ymax : Nat) (p : Int × Int) : Bool :=
  decide (0 ≤ p.1) && decide (p.1 ≤ xmax) && decide (0 ≤ p.2) && decide (p.2 ≤ ymax)

/-- The step index of the first target of the row out of travel, image by image and step by step whatever the walk
order (R12). -/
def firstTargetOut (xmax ymax : Nat) (e : RowEntry) (steps : List StepRecord) : Option Nat :=
  (List.range e.images).findSome? fun i =>
    steps.zipIdx.findSome? fun rs => if inTravel xmax ymax (e.stepTarget i rs.1) then none else some rs.2

/-- Some mark point of a row with its mark-check flag is out of travel (R12). -/
def markPointOut (xmax ymax : Nat) (e : RowEntry) : Bool :=
  e.markCheck && (List.range e.images).any fun i => !inTravel xmax ymax (e.markPoint i)

/-- The total image count of a row table (R13). -/
def imageTotal (rows : List Row) : Nat := rows.foldl (fun n r => n + r.entry.images) 0

/-- N_PANEL (R13). -/
def panelSteps (rows : List Row) : Nat := rows.foldl (fun n r => n + r.entry.images * r.steps) 0

/-- The row table with a row added: its base image and start ordinal are the totals before it (R13). -/
def addRow (rows : List Row) (e : RowEntry) (steps : Nat) : List Row :=
  rows ++ [⟨e, steps, imageTotal rows, panelSteps rows⟩]

/-- The row of an image number: the one with g_r ≤ g < g_r + n_r (R13). -/
def rowOfImage (rows : List Row) (g : Nat) : Option Row :=
  rows.find? fun r => decide (r.base ≤ g) && decide (g < r.base + r.entry.images)

/-- The mark point of an image number (R77). -/
def markPointOf (rows : List Row) (g : Nat) : Option (Int × Int) :=
  (rowOfImage rows g).map fun r => r.entry.markPoint (g - r.base)

/-- The walk cursor at lap 0, ordinal 0 (R14, R21). -/
def Cursor.first : Cursor := ⟨0, 0, 0, 0, 0⟩

/-- The cursor one row on: image 0, step 0; past the last row the lap advances and the ordinal is 0 (R15, R17). -/
def Cursor.nextRow (rows : List Row) (c : Cursor) : Cursor :=
  if c.row + 1 < rows.length then ⟨c.lap, c.ordinal + 1, c.row + 1, 0, 0⟩
  else ⟨c.lap + 1, 0, 0, 0, 0⟩

/-- The cursor one step on in walk order (R15). -/
def Cursor.next (rows : List Row) (c : Cursor) : Cursor :=
  match rows[c.row]? with
  | none => c.nextRow rows
  | some r =>
    match r.entry.order with
    | .imageMajor =>
      if c.step + 1 < r.steps then { c with ordinal := c.ordinal + 1, step := c.step + 1 }
      else if c.image + 1 < r.entry.images then { c with ordinal := c.ordinal + 1, image := c.image + 1, step := 0 }
      else c.nextRow rows
    | .stepMajor =>
      if c.image + 1 < r.entry.images then { c with ordinal := c.ordinal + 1, image := c.image + 1 }
      else if c.step + 1 < r.steps then { c with ordinal := c.ordinal + 1, step := c.step + 1, image := 0 }
      else c.nextRow rows

/-- The step's position inside its row, j (R15). -/
def Row.position (r : Row) (image step : Nat) : Nat :=
  match r.entry.order with
  | .imageMajor => image * r.steps + step
  | .stepMajor => step * r.entry.images + image

/-- The cursor at a rewind point (R20 step 3). -/
def cursorAt (rows : List Row) (lap : Lap) (k : Nat) : Cursor :=
  match rows.findIdx? (fun r => decide (r.start ≤ k) && decide (k < r.start + r.entry.images * r.steps)) with
  | none => ⟨lap, k, 0, 0, 0⟩
  | some i =>
    let r := rows.getD i default
    let j := k - r.start
    match r.entry.order with
    | .imageMajor => ⟨lap, k, i, j / r.steps, j % r.steps⟩
    | .stepMajor => ⟨lap, k, i, j % r.entry.images, j / r.entry.images⟩

/-- The first word address of the step record the cursor names (R18, chapter 10). -/
def stepAddr (rows : List Row) (c : Cursor) : Nat :=
  (rows.getD c.row default).entry.listAddr + 4 * c.step

/-- The resolved step record of a walking read's words (R16). -/
def resolve (rows : List Row) (c : Cursor) (words : List Word) : Record :=
  let row := rows.getD c.row default
  let r := stepRecordOf words ((checkKindOfCode (wordAt words 2 / 1024 % 8)).getD .none)
  let target := row.entry.stepTarget c.image r
  { lap := c.lap, ordinal := c.ordinal, row := c.row, image := row.base + c.image, step := c.step,
    x := target.1, y := target.2, span := r.span, turret := r.turret, kind := r.kind, m := r.m, e := r.e, tol := r.tol,
    rowFirst := decide (row.position c.image c.step = 0) }

end Sys2Proof.Machine
end

