-- ==== Sys2Proof/Machine/Plan.lean ====
section
/-! DEFINITION. The move plan (R69 to R73), in exact integers, and the target set of a decided entry (R48). -/

namespace Sys2Proof.Machine

/-- Division rounded up to the next whole number (00_scope, "ceil"). -/
def ceilDiv (a b : Nat) : Nat := (a + b - 1) / b

/-- T[b] of the clamped table, T[0] being 0 (R3, R69). -/
def moveTime (times : List Nat) (b : Nat) : Nat := if b = 0 then 0 else times.getD (b - 1) 0

/-- The axis time of an axis distance (R69, R70). -/
def axisTime (h : Header) (d : Nat) : Nat :=
  if d < 16384 then
    moveTime h.times (d / 512)
      + ceilDiv ((moveTime h.times (d / 512 + 1) - moveTime h.times (d / 512)) * (d % 512)) 512
  else moveTime h.times 32 + ceilDiv (d - 16384) h.vEnd

/-- The number of quarter turns, the shortest way (R71). -/
def quarterTurns (start goal : Quarter) : Nat :=
  match (goal - start).toNat with
  | 0 => 0 | 1 => 1 | 2 => 2 | _ => 1

/-- The turret turns in the increasing direction: Δ = 1 or 2 (R71). -/
def turretUp (start goal : Quarter) : Bool := (goal - start) == 1 || (goal - start) == 2

/-- The turret time (R71). -/
def turretTime (h : Header) (start goal : Quarter) : Nat := h.tq * quarterTurns start goal

/-- The former time (R72). -/
def formerTime (h : Header) (start goal : Nat) : Nat := ceilDiv ((goal : Int) - (start : Int)).natAbs h.fs

/-- The times of the four drives from the commanded values to a target (R69 to R72). -/
def driveTimes (h : Header) (start goal : Target) : DriveTimes :=
  { x := axisTime h (goal.x - start.x).natAbs, y := axisTime h (goal.y - start.y).natAbs,
    turret := turretTime h start.turret goal.turret, former := formerTime h start.span goal.span }

/-- The largest of the four times. -/
def DriveTimes.longest (t : DriveTimes) : Nat := max (max t.x t.y) (max t.turret t.former)

/-- The plan: the largest drive time, with the settle time added when it is above 0 (R73). -/
def planOf (h : Header) (t : DriveTimes) : Nat := if t.longest = 0 then 0 else t.longest + h.settle

/-- The target set of an entry decided INSERT or INSERT_CORRECTED (R48). -/
def Entry.target (e : Entry) : Option Target :=
  match e.decision with
  | some .insert => some ⟨e.record.x, e.record.y, e.record.turret, e.record.span⟩
  | some .insertCorrected => some ⟨e.record.x, e.record.y, e.record.turret + 2, e.record.span⟩
  | _ => none

end Sys2Proof.Machine
end

