-- ==== Sys2Proof/Machine/Windows.lean ====
section
/-! DEFINITION. The verifier's windows and classification (R23, R25 to R29, R31) and the decision table (R47). -/

namespace Sys2Proof.Machine

/-- The tolerance in percent of a tolerance code (R6). -/
def tolerancePercent : Nat → Nat
  | 0 => 0 | 1 => 1 | 2 => 2 | 3 => 5 | 4 => 10 | _ => 20

/-- code_lo of a RES window (R25). -/
def codeLo (m t : Nat) : Nat := 4095 * (m * (100 - t)) / (m * (100 - t) + 3000)

/-- code_hi of a RES window (R25). -/
def codeHi (m t : Nat) : Nat := ceilDiv (4095 * (m * (100 + t))) (m * (100 + t) + 3000)

/-- The converter range of a record's kind (R23). -/
def converterRange (r : Record) : Nat :=
  match r.kind with
  | .res => r.e | .diode => 3 | .jumper => 0 | .none => 0

/-- The window a measurement holds: R25 for RES, R27 for JUMPER. -/
def windowOf (h : Header) (r : Record) : Option (Nat × Nat) :=
  match r.kind with
  | .res => some (codeLo r.m (tolerancePercent r.tol), codeHi r.m (tolerancePercent r.tol))
  | .jumper => some (0, h.jumperMax)
  | _ => none

/-- R26. -/
def classifyRes (lo hi c : Nat) : Verdict :=
  if c ≤ 5 then .short
  else if 4090 ≤ c then .openCircuit
  else if c < lo then .failLow
  else if hi < c then .failHigh
  else .pass

/-- R27; the window's upper code is JUMPER_MAX. -/
def classifyJumper (hi c : Nat) : Verdict :=
  if 4090 ≤ c then .openCircuit
  else if c ≤ hi then .pass
  else .failHigh

/-- R29, the tests in the order written. -/
def classifyDiode (lo hi f r : Nat) : Verdict :=
  if f ≤ 5 ∨ r ≤ 5 then .short
  else if 4090 ≤ f ∧ 4090 ≤ r then .openCircuit
  else if (lo ≤ f ∧ f ≤ hi) ∧ 4090 ≤ r then .pass
  else if 4090 ≤ f ∧ (lo ≤ r ∧ r ≤ hi) then .reversed
  else if f < lo then .failLow
  else if hi < f then .failHigh
  else .failLow

/-- The verdict of a measurement with one conversion (R26, R27). -/
def classifySingle (setup : Setup) (c : Nat) : Verdict :=
  match setup.kind with
  | .jumper => classifyJumper (setup.window.getD (0, 0)).2 c
  | _ => classifyRes (setup.window.getD (0, 0)).1 (setup.window.getD (0, 0)).2 c

/-- A verdict that counts as PASS for monitor M1 (R31). -/
def countsAsPass (o : Options) (v : Verdict) : Bool := v == .pass || (v == .reversed && o.polarity)

/-- The reason a PASS_MISS takes from its verdict (R40). PENDING and PASS never come to a miss. -/
def missReasonOf : Verdict → MissReason
  | .failLow => .failLow | .failHigh => .failHigh | .openCircuit => .openCircuit | .short => .short
  | .reversed => .reversed | .absent => .absent | .unchecked => .unchecked
  | .pending => .unchecked | .pass => .unchecked

/-- The decision table (R47), read from the top: `flushed` says that the flush marker names the entry's lap, `mask` is
the WORKING board's bad mask. -/
def decisionOf (o : Options) (flushed : Bool) (mask : Mask) (e : Entry) : Decision :=
  if flushed then .passFlush
  else if mask.getLsbD e.record.image then .passBad
  else if e.verdict = .pass then .insert
  else if e.verdict = .unchecked ∧ o.strict = false then .insert
  else if e.verdict = .reversed ∧ o.polarity = true then .insertCorrected
  else .passMiss (missReasonOf e.verdict)

end Sys2Proof.Machine
end

