-- ==== Sys2Proof/Machine/Flags.lean ====
section
/-! DEFINITION. The conditions the rules read: what may start in the present run state, what is in flight, when each
start's conditions all hold, the freshness of a peer, and the outputs as functions of the state. -/

namespace Sys2Proof.Machine

/-! ## Header, straps and peers -/

/-- The header values in use; all fields empty while none are held, when no rule reads them (R21). The answers of the
service tool read `hdr` itself (log entry 29). -/
def State.header (s : State) : Header := s.hdr.getD default

/-- The options in use (R4). -/
def State.options (s : State) : Options := s.header.options

/-- The ROLE strap as sampled; MIDDLE while none is sampled, when no rule reads it. -/
def State.role (s : State) : Role := (s.reader.straps.map Straps.role).getD .middle

/-- The LOCAL strap is set. -/
def State.localStrap (s : State) : Bool := (s.reader.straps.map Straps.localStrap).getD false

/-- RESET is released: the straps have been sampled (R7, R21). -/
def State.released (s : State) : Bool := s.reader.straps.isSome

/-- This station's own address, 1 to 30; none while the straps are not sampled or give 0 or 31 (R179). -/
def State.ownAddr (s : State) : Option Nat :=
  s.reader.straps.bind fun p => if within 1 30 p.addr.toNat then some p.addr.toNat else none

/-- The downstream address (R128). -/
def State.downAddr (s : State) : Option Nat := s.ownAddr.map (· + 1)

/-- The peer-table entry of an address from 1 to 30 (R176). -/
def Link.peer (l : Link) (a : Nat) : Option Peer := if within 1 30 a then l.peers[a - 1]? else none

/-- A peer entry is fresh: heard, and no older than 3 times this station's own status period (R134, R176). -/
def Peer.fresh (period : Nat) (p : Peer) : Bool := p.heard && decide (p.age ≤ 3 * period)

/-- The downstream entry, when it is fresh (R134). -/
def State.freshDown (s : State) : Option StatusView :=
  (s.downAddr.bind s.link.peer).bind fun p => if p.fresh s.link.period then some (statusView p.bytes) else none

/-! ## Run state -/

/-- The station is past a valid start-up: the run state is not CONFIG_FAULT (R143). -/
def State.live (s : State) : Bool := s.alarm.run != .configFault

/-- The run state is RUNNING, or STEPPING with the STEP's one execution not yet used. -/
def State.mayStart (s : State) : Bool :=
  s.alarm.run == .running || (s.alarm.run == .stepping && !s.alarm.stepUsed)

/-- A stroke is in progress (R85). -/
def HeadPhase.stroking : HeadPhase → Bool
  | .down | .clinch | .sense | .up => true
  | _ => false

/-- A board-handling operation is DRIVING (R108). -/
def Work.driving (w : Work) : Bool :=
  match w.op with
  | some (_, .driving) => true
  | _ => false

/-- Something is in flight for the run state (R144). -/
def State.inFlight (s : State) : Bool :=
  s.tape.feeding || s.table.activity != .idle || s.table.homingTimer.isSome
    || s.head.phase.stroking || s.head.phase == .returning || s.work.driving

/-! ## Boards and entries -/

/-- The lap of the board WORKING, if a board is WORKING (R105). -/
def State.workingBoard (s : State) : Option Board :=
  if s.work.state = .working then s.work.board else none

/-- The serial of the board at work, if a board is WORKING. -/
def State.workingSerial (s : State) : Option Serial := s.workingBoard.map Board.serial

/-- The serial of the board at the work position, if there is a board record. -/
def State.boardSerial (s : State) : Option Serial := s.work.board.map Board.serial

/-- The oldest tape-queue entry (R39). -/
def State.oldest (s : State) : Option Entry := s.tape.queue.head?

/-- The newest tape-queue entry, if there is one, is not PENDING (R42 condition 5). -/
def Tape.newestFinal (t : Tape) : Bool :=
  match t.queue.getLast? with
  | none => true
  | some e => e.verdict != .pending

/-- The entry is decided INSERT or INSERT_CORRECTED. -/
def Entry.toInsert (e : Entry) : Bool :=
  match e.decision with
  | some .insert | some .insertCorrected => true
  | _ => false

/-- The entry carries one of the PASS decisions (R49). -/
def Entry.toPass (e : Entry) : Bool :=
  match e.decision with
  | some .passBad | some (.passMiss _) | some .passFlush => true
  | _ => false

/-- The entry is the first of a row whose row entry carries the row-hold flag (R46, R118). -/
def State.armsRowHold (s : State) (e : Entry) : Bool :=
  e.record.rowFirst && (s.reader.rows.getD e.record.row default).entry.rowHold

/-- The board's holds taken contain a row (R106). -/
def Board.holdTaken (b : Board) (row : Nat) : Bool := b.holds.getLsbD row

/-- The condition under which R46 lets the oldest entry be decided. -/
def State.mayDecide (s : State) (e : Entry) : Bool :=
  e.decision.isNone && e.verdict != .pending && !e.attempted &&
  (s.tape.flush == some e.record.lap ||
    match s.workingBoard with
    | some b => b.lap == some e.record.lap && (!s.armsRowHold e || b.holdTaken e.record.row)
    | none => false)

/-! ## When the starts' conditions hold -/

/-- R42. -/
def State.feedReady (s : State) : Bool :=
  s.mayStart && s.tape.fault == .none && !s.tape.feeding && s.head.phase == .top && s.tape.newestFinal
    && !s.reader.buffer.isEmpty && decide (s.tape.queue.length < s.header.depth)

/-- The queue holds D entries and no feed is in flight: the oldest entry stands at the head. -/
def State.atHead (s : State) : Bool := decide (s.tape.queue.length = s.header.depth) && !s.tape.feeding

/-- R49. -/
def State.passReady (s : State) : Bool :=
  s.mayStart && s.atHead && s.head.phase == .top &&
  match s.oldest with
  | some e => e.toPass
  | none => false

/-- R65: homing has been requested and can begin. -/
def State.homingReady (s : State) : Bool :=
  s.table.homingTimer.isSome && s.table.activity == .idle && s.head.phase == .top

/-- R74 conditions 1, 2, 3 and 5 with condition 4: the entry and the target set that the move is to serve. -/
def State.insertMove (s : State) : Option (Entry × Target) :=
  if s.mayStart && s.table.homed && s.table.activity == .idle && s.head.phase == .top then
    match s.oldest with
    | some e =>
      match e.target with
      | some t => if !e.attempted && t != s.table.commanded then some (e, t) else none
      | none => none
    | none => none
  else none

/-- R77: the image of the held mark request, when its move may start. -/
def State.markMove (s : State) : Option Nat :=
  if s.mayStart && s.table.homed && s.table.activity == .idle && s.head.phase == .top then s.table.markRequest
  else none

/-- A limit sensor reads active (R80). -/
def Lines.onLimit (l : Lines) : Bool := l.xlim || l.ylim

/-- The cycle gate (R87): the entry the stroke is to serve. -/
def State.strokeEntry (s : State) : Option Entry :=
  match s.oldest, s.workingBoard with
  | some e, some b =>
    if s.mayStart && s.head.phase == .top && e.toInsert && !e.attempted && s.atHead
        && s.table.activity == .idle && s.table.homed && e.target == some s.table.commanded
        && s.work.clamped && b.lap == some e.record.lap
    then some e else none
  | _, _ => none

/-- R109: BIN reads active. -/
def State.conveyorInReady (s : State) : Bool :=
  s.mayStart && s.work.state == .empty && s.lines.bin && !s.lines.bwk

/-- An operation of the named kind waits for its first start, and the run state allows it (R108, R113, R121). -/
def State.opReady (s : State) (k : OpKind) : Bool := s.mayStart && s.work.op == some (k, .waiting)

/-- R121 at the line end. -/
def State.lineEndReady (s : State) : Bool :=
  s.mayStart && s.role == .lineEnd && s.work.state == .done && s.lines.unloadReady

/-- R135: the board and the downstream accept counter of the grant. -/
def State.grantable (s : State) : Option (Board × BitVec 8) :=
  match s.work.board, s.freshDown with
  | some b, some v =>
    if s.mayStart && s.role != .lineEnd && s.work.state == .done && v.free
        && (match s.trav.release with
            | none => true
            | some r => r.2 != v.accept)
        && decide (s.link.tx.length < Config.frameRoom)
    then some (b, v.accept) else none
  | _, _ => none

/-- R175, R179: a station without an address hands nothing on. -/
def State.handingReady (s : State) : Bool := !s.link.rx.isEmpty && !s.link.handing && s.ownAddr.isSome

/-- R170, with the idle count given. -/
def State.sendReady (s : State) (idle : Nat) : Bool :=
  s.ownAddr.isSome && s.link.sending.isNone && s.link.assembly == .between && !s.link.inCharacter
    && decide (Config.idleToSend ≤ idle) && (s.link.due || !s.link.tx.isEmpty)

/-! ## Outputs -/

/-- R158: driving the stop line only while in ALARM with the option STOPLINE set. -/
def State.drivesStopline (s : State) : Bool := s.alarm.run == .alarm && s.options.stopline

/-- STOPLINE reads asserted: another station pulls it, or this one does (R148). -/
def State.stoplineReads (s : State) : Bool := s.lines.stopline || s.drivesStopline

/-- R158: an alarm-list entry holds its stop bit. -/
def Alarm.stopListed (a : Alarm) : Bool := a.list.any AlarmEntry.stop

/-- The lowest code of a list of entries (R160, R174). -/
def lowestOf : List AlarmEntry → Option AlarmCode
  | [] => none
  | e :: es =>
    match lowestOf es with
    | none => some e.code
    | some c => if e.code.code ≤ c.code then some e.code else some c

/-- The lowest code in the alarm list. -/
def Alarm.lowest (a : Alarm) : Option AlarmCode := lowestOf a.list

/-- R107. -/
def State.entryState (s : State) : EntryState :=
  if s.work.state = .empty ∧ s.lines.bin = false ∧ s.lines.bwk = false ∧ s.alarm.run = .running then .free else .busy

/-- The lowest peer address whose entry is fresh and whose last STATUS carries the stop-drive flag (R160). -/
def State.holder (s : State) : Option Nat :=
  (s.link.peers.zipIdx 1).findSome? fun p =>
    if p.1.fresh s.link.period && (statusView p.1.bytes).stopDrive then some p.2 else none

/-- R160, the first that applies. -/
def State.displayed (s : State) : Display :=
  if s.alarm.run = .configFault then .config s.reader.reason
  else match s.alarm.lowest with
    | some c => .alarm c
    | none =>
      if s.alarm.run = .holding then
        match s.holder with
        | some a => .held a
        | none => .heldUnknown
      else if s.alarm.rowHold then .rowHold
      else .blank

/-- LAMP_RUN (R159). -/
def State.lampRunMode (s : State) : Lamp :=
  match s.alarm.run with
  | .homing | .running | .stepping => .on
  | .holding => .flashing
  | _ => .off

/-- LAMP_STOP (R159). -/
def State.lampStopMode (s : State) : Lamp :=
  match s.alarm.run with
  | .stopped => .on
  | .stopping => .flashing
  | _ => .off

/-- LAMP_ALARM (R159). -/
def State.lampAlarmMode (s : State) : Lamp :=
  match s.alarm.run with
  | .configFault => if s.reader.reason = .c00 then .off else .on
  | .alarm => .on
  | _ => if s.alarm.list.isEmpty then .off else .flashing

/-- A lamp's line level: a flashing lamp follows the flash period (R159). -/
def Lamp.lit (lit : Bool) : Lamp → Bool
  | .off => false | .on => true | .flashing => lit

/-- The drive of an axis runs: it is still seeking home, or its own time in the move has not run out (R66, R73). -/
def State.driveRuns (s : State) (axis : Axis) (time : DriveTimes → Nat) : Bool :=
  match s.table.activity, s.table.slot with
  | .homing, _ => s.table.seeking.contains axis
  | .moving, some m => decide (s.now - m.startedAt < time m.times)
  | _, _ => false

/-- Every output line of `Outputs`, from the rest of the state. -/
def State.outputs (s : State) : Outputs :=
  { feed := s.tape.feeding,
    xdrv := s.driveRuns .x DriveTimes.x, ydrv := s.driveRuns .y DriveTimes.y,
    turretDrv := s.driveRuns .turret DriveTimes.turret, formerDrv := s.driveRuns .former DriveTimes.former,
    lampRun := s.lampRunMode.lit s.alarm.flashLit, lampStop := s.lampStopMode.lit s.alarm.flashLit,
    lampAlarm := s.lampAlarmMode.lit s.alarm.flashLit,
    display := s.displayed, stopOut := s.alarm.stopListed, stopDrive := s.drivesStopline, entry := s.entryState }

end Sys2Proof.Machine
end

