-- ==== Sys2Proof/Machine/Ops.lean ====
section
/-! DEFINITION. The shared operations: changes of run state, alarms, monitors, the bookkeeping that several events
bring about (decision, board start, row hold, outcomes, follow-on), and what every command ends with. -/

namespace Sys2Proof.Machine

/-! ## Run state and the status slot -/

/-- The status slot becomes DUE; a change reported while a STATUS is on the line makes it DUE again (R174). -/
def Link.markDue (l : Link) : Link :=
  match l.sending with
  | some ⟨true, _⟩ => { l with again := true }
  | _ => { l with due := true }

/-- A change of run state: announced at the event at which it happens (R142), so the status slot becomes DUE (R174),
and the last cycle start becomes none when RUNNING is left (R100). -/
def State.setRun (s : State) (r : RunState) : State :=
  if s.alarm.run = r then s
  else
    let t := (s.modAlarm fun a => { a with run := r }).modLink Link.markDue
    if s.alarm.run = .running then t.modHead fun h => { h with lastCycle := none } else t

/-- STOPPING, or STEPPING with its execution used, becomes STOPPED once nothing is in flight (R144). -/
def State.endIfQuiet (s : State) : State :=
  if !s.inFlight && (s.alarm.run == .stopping || (s.alarm.run == .stepping && s.alarm.stepUsed)) then
    s.setRun .stopped
  else s

/-- The STEP's one execution is used, when the run state is STEPPING (R147). -/
def State.useStep (s : State) : State :=
  if s.alarm.run = .stepping then s.modAlarm fun a => { a with stepUsed := true } else s

/-! ## Alarms (R150 to R152) -/

/-- What a unit names when it raises an alarm (R150). -/
structure Raise where
  code : AlarmCode
  serial : Option Serial
  ordinal : Option Nat
  active : Bool
  deriving DecidableEq, Repr, Inhabited

/-- The stop bit of a code (R151). -/
def State.stopBit (s : State) : AlarmCode → Bool
  | .homeFail | .tableLimit | .downJam | .clinchJam | .upJam | .tapeJam | .tapeBreak | .clampJam | .outJam => true
  | .tapeLow | .arrivalFull => false
  | .leadMiss => s.options.stopLeadMiss
  | .arriveTimeout => s.options.stopArrive
  | .handoffTimeout => s.options.stopHandoff
  | .boardLost => s.options.stopLost
  | .addressClash => s.options.stopClash
  | .cycleTime => (s.header.monitors.getD 0 default).stopEnable
  | .verifyFails => (s.header.monitors.getD 1 default).stopEnable
  | .boardMisses => (s.header.monitors.getD 2 default).stopEnable
  | .feedTime => (s.header.monitors.getD 3 default).stopEnable
  | .strokeTime => (s.header.monitors.getD 4 default).stopEnable
  | .linkErrors => (s.header.monitors.getD 5 default).stopEnable

/-- The code is in the list. -/
def Alarm.listed (a : Alarm) (c : AlarmCode) : Bool := a.list.any fun e => e.code == c

/-- The entry a raise makes when its code is not listed (R150 step 2). -/
def Raise.entry (r : Raise) (stop : Bool) : AlarmEntry :=
  { code := r.code, count := 1, serial := r.serial, ordinal := r.ordinal, stop := stop, persists := r.active }

/-- The list after a raise, with MORE (R150 steps 1 to 4). -/
def Alarm.take (a : Alarm) (r : Raise) (stop : Bool) : Alarm :=
  if a.listed r.code then
    { a with list := a.list.map fun e =>
        if e.code = r.code then { e with count := min 255 (e.count + 1), persists := e.persists || r.active } else e }
  else if a.list.length < Config.alarmRoom then { a with list := a.list ++ [r.entry stop] }
  else if stop then
    match a.list.findIdx? fun e => !e.stop with
    | some i => { a with list := a.list.eraseIdx i ++ [r.entry stop], more := true }
    | none => { a with more := true }
  else { a with more := true }

/-- A raise (R150). No alarm is raised in CONFIG_FAULT (R143). A raise with its stop bit in any other run state but
ALARM sets the run state ALARM and clears the hold reason and the homing target. -/
def State.raise (s : State) (r : Raise) : State :=
  if s.live then
    let t := s.modAlarm fun a => a.take r (s.stopBit r.code)
    if s.stopBit r.code && t.alarm.run != .alarm then
      (t.modAlarm fun a => { a with rowHold := false, homingTarget := none }).setRun .alarm
    else t
  else s

/-- A report that a listed code's condition is active or is no longer active (R152). -/
def State.reportCondition (s : State) (c : AlarmCode) (active : Bool) : State :=
  s.modAlarm fun a =>
    { a with list := a.list.map fun e => if e.code = c then { e with persists := active } else e }

/-! ## Monitors (R156, R157) -/

def MonitorId.index : MonitorId → Nat
  | .m0 => 0 | .m1 => 1 | .m2 => 2 | .m3 => 3 | .m4 => 4 | .m5 => 5

/-- The alarm code 70 + n of monitor Mn. -/
def MonitorId.code : MonitorId → AlarmCode
  | .m0 => .cycleTime | .m1 => .verifyFails | .m2 => .boardMisses | .m3 => .feedTime | .m4 => .strokeTime
  | .m5 => .linkErrors

def Alarm.monitor (a : Alarm) : MonitorId → Monitor
  | .m0 => a.m0 | .m1 => a.m1 | .m2 => a.m2 | .m3 => a.m3 | .m4 => a.m4 | .m5 => a.m5

def Alarm.setMonitor (a : Alarm) (id : MonitorId) (m : Monitor) : Alarm :=
  match id with
  | .m0 => { a with m0 := m } | .m1 => { a with m1 := m } | .m2 => { a with m2 := m }
  | .m3 => { a with m3 := m } | .m4 => { a with m4 := m } | .m5 => { a with m5 := m }

/-- The settings of a monitor (R4, R156). -/
def State.settings (s : State) (id : MonitorId) : MonitorSettings := s.header.monitors.getD id.index default

/-- At or above the alarm threshold (R157 step 3). -/
def MonitorSettings.over (c : MonitorSettings) (v : Nat) : Bool := decide (0 < c.a) && decide (c.a ≤ v)

/-- The WARN flag after an evaluation (R157 step 2). -/
def MonitorSettings.warns (c : MonitorSettings) (v : Nat) (before : Bool) : Bool :=
  if 0 < c.w ∧ c.w ≤ v then true else c.warnLatch && before

/-- A monitor's record after an evaluation with value `v` (R157). -/
def Monitor.after (m : Monitor) (c : MonitorSettings) (v : Nat) : Monitor :=
  if c.over v then
    let count := min c.p (m.count + 1)
    { value := v, warn := c.warns v m.warn, alarm := m.alarm || count == c.p, count := count }
  else { value := v, warn := c.warns v m.warn, alarm := m.alarm && c.alarmLatch, count := 0 }

/-- An evaluation of a monitor (R156, R157). A value above 65535 is given as 65535; none is evaluated in
CONFIG_FAULT (R143). An ALARM that stands latched with its entry gone and its count below P raises the code again when the
count is P, as step 3 has it, where the sentence after the steps of R157 says at the next evaluation at or above A (DESIGN
CHOICE, log entry 31). -/
def State.evaluate (s : State) (id : MonitorId) (value : Nat) : State :=
  if s.live then
    let v := min 65535 value
    let c := s.settings id
    let m := s.alarm.monitor id
    let t := s.modAlarm fun a => a.setMonitor id (m.after c v)
    if c.over v then
      if (m.after c v).count = c.p ∧ (m.alarm = false ∨ s.alarm.listed id.code = false) then
        t.raise { code := id.code, serial := s.boardSerial, ordinal := none, active := false }
      else t
    else if m.alarm && !c.alarmLatch then
      t.modAlarm fun a => { a with list := a.list.filter fun e => e.code != id.code || e.stop }
    else t
  else s

/-! ## Program reader (R18, R20) -/

/-- In WALKING, issue a read when the buffer has room and no read is in flight; the cursor then advances (R15, R18). -/
def State.issueRead (s : State) : State :=
  if s.reader.phase == .walking && decide (s.reader.buffer.length < Config.bufferRoom) && s.reader.read.isNone then
    s.modReader fun r =>
      { r with read := some ⟨stepAddr r.rows r.cursor, 4, some r.cursor, false⟩, cursor := r.cursor.next r.rows }
  else s

/-- A rewind request that names a point (R20). -/
def State.rewind (s : State) (lap : Lap) (k : Nat) : State :=
  (s.modReader fun r =>
    { r with buffer := [], read := r.read.map fun d => { d with discarded := true }, cursor := cursorAt r.rows lap k
    }).issueRead

/-! ## Verifier requests (R32) -/

/-- The abandon request (R32). -/
def State.abandon (s : State) : State :=
  if s.verifier.phase = .idle then s
  else s.modVerifier fun v =>
    { v with phase := .idle, measured := none, forward := none, backward := none, jawsClosed := false,
             conversion := v.conversion.map fun c => { c with abandoned := true } }

/-! ## Decisions, board start, row hold (R46, R117, R118) -/

/-- Decide the oldest entry if R46 allows it, under R47. -/
def State.decideOldest (s : State) : State :=
  match s.tape.queue with
  | [] => s
  | e :: es =>
    if s.mayDecide e then
      let d := decisionOf s.options (s.tape.flush == some e.record.lap) ((s.workingBoard.map Board.mask).getD 0) e
      s.modTape fun t => { t with queue := { e with decision := some d } :: es }
    else s

/-- A READY board starts work on an oldest entry of ordinal 0 with no flush armed (R117). -/
def State.startBoard (s : State) : State :=
  match s.work.state, s.tape.queue, s.tape.flush, s.work.board with
  | .ready, e :: _, none, some b =>
    if e.record.ordinal = 0 then
      ((s.modWork fun w => { w with state := .working, board := some { b with lap := some e.record.lap } }).modAlarm
        fun a => { a with m2 := { a.m2 with value := 0 } }).modHead fun h => { h with lastCycle := none }
    else s
  | _, _, _, _ => s

/-- The row hold is to be taken for this entry of this board (R118 conditions 1 to 5). -/
def State.holdDue (s : State) (e : Entry) (b : Board) : Bool :=
  b.lap == some e.record.lap && s.armsRowHold e && !b.holdTaken e.record.row && e.verdict != .pending
    && e.decision.isNone && !e.attempted && s.tape.flush != some e.record.lap && s.mayStart

/-- Take the row hold when it is due: the row joins the holds taken, and the run state goes through STOPPING with hold
reason ROW (R118, R149). -/
def State.takeRowHold (s : State) : State :=
  match s.oldest, s.workingBoard with
  | some e, some b =>
    if s.holdDue e b then
      (((s.modWork fun w => { w with board := some { b with holds := b.holds ||| BitVec.ofNat 8 (2 ^ e.record.row) }
          }).modAlarm fun a => { a with rowHold := true }).setRun .stopping).endIfQuiet
    else s
  | _, _ => s

/-- The bookkeeping on the oldest entry: board start, row hold, decision. -/
def State.bookkeep (s : State) : State := s.startBoard.takeRowHold.decideOldest

/-! ## Feeds, removals and the flush marker (R42, R51, R53) -/

/-- Start a feed (R42). -/
def State.startFeed (s : State) : State :=
  s.modTape fun t => { t with feeding := true, timer := some s.header.feedTimeout, startedAt := s.now }

/-- Start a feed if all of R42 hold. -/
def State.tryFeed (s : State) : State := if s.feedReady then s.startFeed else s

/-- The check of the flush marker: cleared when the oldest entry's lap differs from it (R53). -/
def State.checkFlush (s : State) : State :=
  match s.tape.flush, s.tape.queue with
  | some l, e :: _ => if e.record.lap = l then s else s.modTape fun t => { t with flush := none }
  | _, _ => s

/-- The oldest entry leaves the queue. -/
def State.removeOldest (s : State) : State := s.modTape fun t => { t with queue := t.queue.tail }

/-- The follow-on steps of a removal (R51); the check of the marker may let a READY board start (R117). -/
def State.followOn (s : State) : State := s.checkFlush.bookkeep.tryFeed

/-- Arm the lap flush for lap `l` (R52). -/
def State.armFlush (s : State) (l : Lap) : State :=
  ((s.modTape fun t =>
    { t with
      flush := some l
      queue := t.queue.map fun e =>
        if e.record.lap = l ∧ e.attempted = false then { e with decision := none } else e }).checkFlush).decideOldest

/-! ## Outcomes and board completion (R119, R120) -/

/-- The outcome of an executed step (R119). -/
inductive StepOutcome where
  | inserted | passed | missed (reason : MissReason)
  deriving DecidableEq, Repr

/-- The board record with an outcome counted (R119). -/
def Board.count (b : Board) (ordinal : Nat) : StepOutcome → Board
  | .inserted => { b with inserted := b.inserted + 1 }
  | .passed => { b with passed := b.passed + 1 }
  | .missed r =>
    if b.missList.length < Config.missRoom then
      { b with missed := b.missed + 1, missList := b.missList ++ [(ordinal, r)] }
    else { b with missed := b.missed + 1, overflow := b.overflow + 1 }

/-- The board record at board completion: the own stage, and the reject flag for MISSES (R120). -/
def Board.complete (b : Board) (addr : Nat) (rejectMisses : Nat) : Board :=
  { b with
    ownStage := some ⟨addr, b.inserted, b.missed, b.missList⟩
    reject :=
      if b.reject = none ∧ 0 < rejectMisses ∧ rejectMisses ≤ b.missed then some .misses else b.reject }

/-- The work-position unit takes an outcome of the WORKING board's lap, and completes the board at ordinal N_PANEL−1
(R119, R120). Any other outcome is ignored. -/
def State.takeOutcome (s : State) (lap : Lap) (ordinal : Nat) (o : StepOutcome) : State :=
  match s.workingBoard with
  | none => s
  | some b =>
    if b.lap = some lap then
      let c := b.count ordinal o
      let t := s.modWork fun w => { w with board := some c }
      let u := match o with
        | .missed _ => t.evaluate .m2 c.missed
        | _ => t
      if ordinal + 1 = panelSteps s.reader.rows then
        u.modWork fun w =>
          { w with state := .done, board := some (c.complete (s.ownAddr.getD 0) s.header.rejectMisses) }
      else u
    else s

/-! ## The end of every command -/

/-- What the alarm unit and the work-position unit report to the link unit, the run state apart: the lowest code, the
stop-drive flag, the entry state and the accept counter (R107, R162, R174). -/
def State.announced (s : State) : Option AlarmCode × Bool × EntryState × BitVec 8 :=
  (s.alarm.lowest, s.drivesStopline, s.entryState, s.work.accept)

/-- The end of a command that began in `s` and has come to `t`: the status slot becomes DUE when something announced
has changed, and the output lines are driven. -/
def State.settle (s t : State) : State :=
  let u := if s.announced = t.announced then t else t.modLink Link.markDue
  { u with out := u.outputs }

/-- The answer of a command that began in `s` and came to `t`. -/
def State.finish (s t : State) : Host.Outcome State Fault Refusal := .next (s.settle t)

end Sys2Proof.Machine
end

