-- ==== Sys2Proof/Machine/Handling.lean ====
section
/-! DEFINITION. Shared operations on the board at the work position: matching, board-handling operations, mark scan,
release (R108 to R116, R121). -/

namespace Sys2Proof.Machine

/-! ## Mark scan (R115, R116) -/

/-- The next image to visit, at `start` or above: its row carries the mark-check flag and it is not in the bad mask
(R115). -/
def nextMarkImage (rows : List Row) (mask : Mask) (start : Nat) : Option Nat :=
  (List.range (imageTotal rows)).find? fun g =>
    decide (start ≤ g) && ((rowOfImage rows g).map fun r => r.entry.markCheck).getD false && !mask.getLsbD g

/-- The scan goes on at image `start`: ask for the MARK move to the next image, or become READY (R115). -/
def State.scanFrom (s : State) (start : Nat) : State :=
  match nextMarkImage s.reader.rows ((s.work.board.map Board.mask).getD 0) start with
  | some g => (s.modWork fun w => { w with scan := some g }).modTable fun t => { t with markRequest := some g }
  | none => (s.modWork fun w => { w with scan := none, state := .ready }).bookkeep

/-- An arrival at the mark point of image `g`: MARK is sampled, in STEPPING the execution is used, and the scan goes on.
An arrival that is not for the scan cursor's image of a SCANNING board is ignored (R116). -/
def State.markArrival (s : State) (g : Nat) (mark : Bool) : State :=
  match s.work.board with
  | none => s
  | some b =>
    if s.work.state = .scanning ∧ s.work.scan = some g then
      ((s.modWork fun w =>
        { w with board := some { b with mask := if mark then b.mask ||| BitVec.ofNat 32 (2 ^ g) else b.mask } }
        ).useStep).scanFrom (g + 1)
    else s

/-! ## Board-handling operations (R108) -/

/-- The timer an operation runs under (R108). -/
def opTimeout (h : Header) : OpKind → Nat
  | .conveyorIn => h.arriveTimeout
  | .clamp | .unclamp => h.clampTimeout
  | .conveyorOut => h.outTimeout

/-- The alarm of an operation's expiry (R108). -/
def opAlarm : OpKind → AlarmCode
  | .conveyorIn => .arriveTimeout
  | .clamp | .unclamp => .clampJam
  | .conveyorOut => .outJam

/-- The completing sensor reads as the completion requires (R108). -/
def State.opDone (s : State) : OpKind → Bool
  | .conveyorIn => s.lines.bwk
  | .clamp => s.lines.clamped
  | .unclamp => !s.lines.clamped
  | .conveyorOut => !s.lines.bout && s.work.exitSeen

/-- The drive an operation sets (R108). Starting UNCLAMP clears the clamped flag, and a conveyor out that starts with
BOUT active has the exit seen (R121). -/
def Work.driveFor (w : Work) (bout : Bool) : OpKind → Work
  | .conveyorIn => { w with convIn := true }
  | .clamp => { w with clampOn := true }
  | .unclamp => { w with clampOn := false, clamped := false }
  | .conveyorOut => { w with convOut := true, exitSeen := w.exitSeen || bout }

/-- Set an operation's drive, its condition DRIVING and its timer (R108). -/
def State.drive (s : State) (k : OpKind) : State :=
  s.modWork fun w =>
    { w.driveFor s.lines.bout k with op := some (k, .driving), opTimer := some (opTimeout s.header k) }

/-- The board has cleared BOUT: in SENT the hand-off timer starts (R136). -/
def State.boardCleared (s : State) : State :=
  if s.trav.phase = .sent then
    s.modTrav fun t => { t with phase := .timing, timer := some (1000 * s.header.handoffTimeout) }
  else s

/-- The completion of CONVEYOR_OUT (R121). -/
def State.conveyorOutDone (s : State) : State :=
  let t := if s.role = .lineEnd then s else s.boardCleared
  t.modWork fun w => { w with convOut := false, op := none, opTimer := none, board := none, state := .empty }

/-- Start CONVEYOR_OUT, or restart it (R108, R121). -/
def State.startConveyorOut (s : State) : State :=
  let t := s.drive .conveyorOut
  if t.opDone .conveyorOut then t.conveyorOutDone else t

/-- CONVEYOR_OUT is next: it starts when the run state allows it, and waits otherwise (R121). -/
def State.toConveyorOut (s : State) : State :=
  let t := s.modWork fun w => { w with op := some (.conveyorOut, .waiting), opTimer := none }
  if t.mayStart then t.startConveyorOut else t

/-- Start UNCLAMP, or restart it; at its completion CONVEYOR_OUT follows (R108, R121). -/
def State.startUnclamp (s : State) : State :=
  let t := s.drive .unclamp
  if t.opDone .unclamp then t.toConveyorOut else t

/-- The completion of CLAMP: the clamped flag is set and the CLAMP drive is on; mark scan or READY (R114, R115). -/
def State.clampDone (s : State) : State :=
  let t := s.modWork fun w => { w with clamped := true, clampOn := true, op := none, opTimer := none }
  if s.options.markScan then (t.modWork fun w => { w with state := .scanning }).scanFrom 0
  else (t.modWork fun w => { w with state := .ready }).bookkeep

/-- Start CLAMP, or restart it (R108). -/
def State.startClamp (s : State) : State :=
  let t := s.drive .clamp
  if t.opDone .clamp then t.clampDone else t

/-! ## Matching (R110 to R113) -/

/-- The next serial of the own board counter: incremented, and once more if the result is 0xFFFF (R111). -/
def nextSerial (counter : Serial) : Serial := if counter + 1 = 0xFFFF then counter + 2 else counter + 1

/-- A board record with empty counts, missed list and holds taken (R111, R112). -/
def newBoard (serial : Serial) (mask : Mask) (reject : Option RejectReason) (stages : List Stage) (dropped : Nat) : Board :=
  { serial := serial, lap := none, mask := mask, reject := reject, stages := stages, dropped := dropped, inserted := 0,
    missed := 0, passed := 0, missList := [], overflow := 0, holds := 0, ownStage := none }

/-- A board record has been made: bypassed to DONE, or on to CLAMPING, whose operation starts when the run state
allows it (R113). -/
def State.boardMade (s : State) (b : Board) : State :=
  let t := s.modWork fun w => { w with board := some b, matchTimer := none, op := none, opTimer := none }
  if b.reject.isSome && s.options.bypass then t.modWork fun w => { w with state := .done }
  else
    let u := t.modWork fun w => { w with state := .clamping, op := some (.clamp, .waiting) }
    if u.mayStart then u.startClamp else u

/-- A board record with a serial of the own board counter (R111, R112). -/
def State.makeOwnBoard (s : State) (reject : Option RejectReason) : State :=
  (s.modWork fun w => { w with ownCounter := nextSerial w.ownCounter }).boardMade
    (newBoard (nextSerial s.work.ownCounter) 0 reject [] 0)

/-- An UNTRACKED board (R110, R112). -/
def State.makeUntracked (s : State) : State := s.makeOwnBoard (some .untracked)

/-- A board matched with a traveller; a set reject flag takes the reason UPSTREAM (R112). -/
def State.makeMatched (s : State) (t : Traveller) : State :=
  s.boardMade (newBoard t.serial t.mask (if t.reject.isSome then some .upstream else none) t.stages t.dropped)

/-- Matching begins (R111, R112, R131). -/
def State.beginMatching (s : State) : State :=
  if s.role = .lineHead then s.makeOwnBoard none
  else match s.trav.arrivals with
    | a :: rest => (s.modTrav fun t => { t with arrivals := rest }).makeMatched a.traveller
    | [] =>
      if s.header.travWait = 0 then s.makeUntracked
      else (s.modWork fun w => { w with matchTimer := some s.header.travWait }).modTrav fun t => { t with takeOpen := true }

/-- The completion of CONVEYOR_IN: the arrival of a board at BWK (R109). -/
def State.arrive (s : State) : State :=
  (s.modWork fun w =>
    { w with convIn := false, op := none, opTimer := none, accept := w.accept + 1, state := .matching }).beginMatching

/-- Start CONVEYOR_IN, or restart it (R108, R109). -/
def State.startConveyorIn (s : State) : State :=
  let t := s.drive .conveyorIn
  if t.opDone .conveyorIn then t.arrive else t

/-- The restart of an operation of either start rule (R108). -/
def State.startOp (s : State) : OpKind → State
  | .conveyorIn => s.startConveyorIn
  | .clamp => s.startClamp
  | .unclamp => s.startUnclamp
  | .conveyorOut => s.startConveyorOut

/-- A STALLED operation restarts when RUNNING or STEPPING is entered (R108). -/
def State.restartOp (s : State) : State :=
  match s.work.op with
  | some (k, .stalled) => if s.mayStart then s.startOp k else s
  | _ => s

/-! ## Release (R121) -/

/-- The release of a board in DONE: UNCLAMP when it is clamped or the CLAMP drive is on, else CONVEYOR_OUT. -/
def State.releaseBoard (s : State) : State :=
  let t := s.modWork fun w => { w with state := .releasing, exitSeen := false }
  if s.work.clamped || s.work.clampOn then t.startUnclamp else t.toConveyorOut

end Sys2Proof.Machine
end

