-- ==== Sys2Proof/Machine/BoardUnit.lean ====
section
/-! DEFINITION. The work-position unit (chapter 6): conveyors, clamp, matching timeout, release at the line end, PURGE. -/

namespace Sys2Proof.Machine

/-- The operation of a kind is DRIVING or STALLED: its sensor completes it (R108). -/
def Work.under (w : Work) (k : OpKind) : Bool := w.op == some (k, .driving) || w.op == some (k, .stalled)

/-- CONVEYOR_IN_START (R109): BIN reads active. -/
def execConveyorInStart (s : State) : Host.Outcome State Fault Refusal :=
  let t := s.modLines fun l => { l with bin := true }
  if t.conveyorInReady then s.finish (t.modWork fun w => { w with state := .entering }).startConveyorIn
  else s.finish t

/-- BWK_ACTIVE: the arrival of an entering board (R109), or a board found with the work position EMPTY, which is
UNTRACKED (R110). In other states it is ignored (R105); in CONFIG_FAULT no sensor is acted on (R124). -/
def execBwkActive (s : State) : Host.Outcome State Fault Refusal :=
  let t := s.modLines fun l => { l with bwk := true }
  if s.live = false then s.finish t
  else match s.work.state with
    | .entering => s.finish t.arrive.endIfQuiet
    | .empty => s.finish t.makeUntracked
    | _ => s.finish t

/-- BWK_INACTIVE (R107): the entry state may become FREE, and a conveyor in may start. -/
def execBwkInactive (bin : Bool) (s : State) : Host.Outcome State Fault Refusal :=
  s.finish (s.modLines fun l => { l with bwk := false, bin := bin })

/-- MATCH_TIMEOUT (R112): the pending take is closed (R131) and the board is UNTRACKED. -/
def execMatchTimeout (s : State) : Host.Outcome State Fault Refusal :=
  if s.work.state = .matching ∧ s.work.matchTimer.isSome = true then
    s.finish (s.modTrav fun t => { t with takeOpen := false }).makeUntracked
  else .next s

/-- CLAMP_START (R108, R113). -/
def execClampStart (s : State) : Host.Outcome State Fault Refusal :=
  if s.opReady .clamp then s.finish s.startClamp else .next s

/-- CLAMPED_ACTIVE: the CLAMP operation completes, or the clamped flag is set again with the CLAMP drive on (R114). -/
def execClampedActive (s : State) : Host.Outcome State Fault Refusal :=
  let t := s.modLines fun l => { l with clamped := true }
  if s.work.under .clamp then s.finish t.clampDone.endIfQuiet
  else if s.work.clampOn then s.finish (t.modWork fun w => { w with clamped := true })
  else s.finish t

/-- CLAMPED_INACTIVE: the UNCLAMP operation completes (R121), or the board is no longer held and alarm 52 is raised
(R114). -/
def execClampedInactive (s : State) : Host.Outcome State Fault Refusal :=
  let t := s.modLines fun l => { l with clamped := false }
  if s.work.under .unclamp then s.finish t.toConveyorOut.endIfQuiet
  else if s.work.clamped then
    s.finish ((t.modWork fun w => { w with clamped := false }).raise
      { code := .clampJam, serial := s.boardSerial, ordinal := none, active := false })
  else s.finish t

/-- LINE_END_RELEASE (R121): UNLOAD_READY reads active; the gate is set first. -/
def execLineEndRelease (s : State) : Host.Outcome State Fault Refusal :=
  let t := s.modLines fun l => { l with unloadReady := true }
  if t.lineEndReady then
    s.finish (t.modWork fun w => { w with gateReject := (w.board.map fun b => b.reject.isSome).getD false }).releaseBoard
  else s.finish t

/-- CONVEYOR_OUT_START (R121): a conveyor out that waited for the run state. -/
def execConveyorOutStart (s : State) : Host.Outcome State Fault Refusal :=
  if s.opReady .conveyorOut then s.finish s.startConveyorOut else .next s

/-- BOUT_ACTIVE (R121): exit seen is set under CONVEYOR_OUT; elsewhere the change is ignored (R105). -/
def execBoutActive (s : State) : Host.Outcome State Fault Refusal :=
  let t := s.modLines fun l => { l with bout := true }
  if s.work.under .conveyorOut then s.finish (t.modWork fun w => { w with exitSeen := true }) else s.finish t

/-- BOUT_INACTIVE (R121): with exit seen set, the completion of CONVEYOR_OUT. -/
def execBoutInactive (bin : Bool) (s : State) : Host.Outcome State Fault Refusal :=
  let t := s.modLines fun l => { l with bout := false, bin := bin }
  if s.work.under .conveyorOut && s.work.exitSeen then s.finish t.conveyorOutDone.endIfQuiet else s.finish t

/-- The drive an operation's expiry turns off (R108). -/
def Work.driveOff (w : Work) : OpKind → Work
  | .conveyorIn => { w with convIn := false }
  | .clamp => { w with clampOn := false }
  | .unclamp => w
  | .conveyorOut => { w with convOut := false }

/-- OPERATION_TIMEOUT (R108): acts while an operation is DRIVING. -/
def execOperationTimeout (s : State) : Host.Outcome State Fault Refusal :=
  match s.work.op with
  | some (k, .driving) =>
    s.finish ((s.modWork fun w => { w.driveOff k with op := some (k, .stalled), opTimer := none }).raise
      { code := opAlarm k, serial := s.boardSerial, ordinal := none, active := false }).endIfQuiet
  | _ => .next s

/-- What a PURGE does to the work position (R122 steps 1 and 3 to 5 on its own state). -/
def Work.purged (w : Work) : Work :=
  { w with convIn := false, convOut := false, clampOn := false, opTimer := none, matchTimer := none, op := none,
           clamped := false, exitSeen := false, board := none, scan := none, state := .empty }

/-- PURGE with a board or an entering board to remove (R122); it clears the hold reason (R154). -/
def State.purgeBoard (s : State) : State :=
  let t := if s.work.state = .scanning then s.modTable fun x => { x with markRequest := none } else s
  let u := match s.workingBoard.bind Board.lap with
    | some l => t.armFlush l
    | none => t
  let v := if s.work.state = .matching then u.modTrav fun x => { x with takeOpen := false } else u
  (v.modWork Work.purged).modAlarm fun a => { a with rowHold := false }

/-- PURGE (R122, R154): in STOPPED and ALARM, with the work position not EMPTY. -/
def execPurge (s : State) : Host.Outcome State Fault Refusal :=
  if (s.alarm.run = .stopped ∨ s.alarm.run = .alarm) ∧ s.work.state ≠ .empty then s.finish s.purgeBoard else .next s

end Sys2Proof.Machine
end

