-- ==== Sys2Proof/Machine/Entry.lean ====
section
/-! DEFINITION. What entering a run state brings about (R65, R96, R108, R142, R145 to R149), the recovery return of the
head (R96, R97), and the completion of homing (R66). -/

namespace Sys2Proof.Machine

/-- The completion of the recovery return (R97). -/
def State.returnDone (s : State) : State :=
  let t := s.modHead fun h => { h with timer := none, drive := .off, phase := .top }
  match s.oldest with
  | some e =>
    if e.attempted then
      let u := t.removeOldest
      let v := if e.toInsert then u.takeOutcome e.record.lap e.record.ordinal (.missed .headJam) else u
      v.useStep.followOn
    else t
  | none => t

/-- The recovery return starts at the entry to RUNNING, STEPPING or HOMING with the head HALTED; it completes at once
when TOP reads active (R96). -/
def State.recoveryReturn (s : State) : State :=
  if s.head.phase = .halted then
    let t := s.modHead fun h =>
      { h with phase := .returning, drive := .up, clinchOn := false, timer := some s.header.upTimeout }
    if s.lines.top then t.returnDone else t
  else s

/-- The head drops from TOP with no command (R86): the HEAD drive off, the phase HALTED, and alarm 33. -/
def State.dropHead (s : State) : State :=
  (s.modHead fun h => { h with drive := .off, phase := .halted }).raise
    { code := .upJam, serial := s.boardSerial, ordinal := none, active := false }

/-- TOP as sampled at an event. In RETURN, reading active, it completes the recovery return (R97). In the phase TOP,
reading inactive, it has gone inactive, and the head has dropped (R86); in CONFIG_FAULT the head unit acts on no sensor
(R103). -/
def State.seeTop (s : State) : State :=
  if s.head.phase = .returning ∧ s.lines.top = true then s.returnDone.endIfQuiet
  else if s.live ∧ s.head.phase = .top ∧ s.lines.top = false then s.dropHead
  else s

/-- In RUNNING with STOPLINE asserted, HOLDING follows at the same event (R148). -/
def State.followStopline (s : State) : State :=
  if s.alarm.run = .running ∧ s.stoplineReads = true then s.setRun .holding else s

/-- Enter RUNNING or STEPPING, with all that its entry brings about: HOLDING under an asserted line, the recovery
return, the restart of a STALLED operation, the bookkeeping that waited for the run state, and the end of a STEP whose
execution the return used (log entry 11). -/
def State.enterWork (s : State) (r : RunState) : State :=
  (s.setRun r).followStopline.recoveryReturn.restartOp.bookkeep.endIfQuiet

/-- The homing request of the alarm unit: the homing timer starts, unless homing is in flight (R65). -/
def State.requestHoming (s : State) : State :=
  if s.table.activity = .homing then s
  else s.modTable fun t => { t with homingTimer := some (1000 * s.header.homeTimeout) }

/-- Enter HOMING with a homing target (R145, R147). -/
def State.enterHoming (s : State) (target : RunState) : State :=
  ((s.modAlarm fun a => { a with homingTarget := some target }).setRun .homing).requestHoming.recoveryReturn

/-- Homing done, as the alarm unit takes it: in HOMING the run state becomes the homing target (R149). -/
def State.homingReported (s : State) : State :=
  match s.alarm.run, s.alarm.homingTarget with
  | .homing, some r =>
    ((s.modAlarm fun a => { a with homingTarget := none, stepUsed := if r = .stepping then false else a.stepUsed }
      ).enterWork r)
  | _, _ => s.endIfQuiet

/-- The completion of homing (R66). -/
def State.homingDone (s : State) : State :=
  (s.modTable fun t =>
    { t with homingTimer := none, seeking := [], activity := .idle, homed := true,
             commanded := ⟨0, 0, 0, s.header.spanMin⟩ }).homingReported

/-- RUN in STOPPED (R145), with TOP and BIN as they read. -/
def State.pressRun (s : State) : State :=
  let t := s.modAlarm fun a => { a with rowHold := false }
  if s.table.homed then t.enterWork .running else t.enterHoming .running

/-- STEP in STOPPED (R147). -/
def State.pressStep (s : State) : State :=
  let t := s.modAlarm fun a => { a with rowHold := false, stepUsed := false }
  if s.table.homed then t.enterWork .stepping else t.enterHoming .stepping

/-- STOP (R146) acts in this run state. -/
def RunState.stops : RunState → Bool
  | .running | .stepping | .holding | .homing => true
  | _ => false

/-- STOP in a run state it acts in (R146); STOPPING then ends under R144. -/
def State.pressStop (s : State) : State :=
  ((s.modAlarm fun a => { a with homingTarget := none, rowHold := false }).setRun .stopping).endIfQuiet

end Sys2Proof.Machine
end

