-- ==== Sys2Proof/Machine/HeadUnit.lean ====
section
/-! DEFINITION. The head unit (chapter 5): the stroke and its phases, outcomes, head jams, the recovery return. -/

namespace Sys2Proof.Machine

/-- STROKE_START (R87, R88). The last cycle start is looked at, then replaced (R101), before the evaluation of M0 can
change the run state (R100). -/
def execStrokeStart (s : State) : Host.Outcome State Fault Refusal :=
  match s.strokeEntry with
  | none => .next s
  | some e =>
    let t := s.modHead fun h =>
      { h with served := some (e.record.lap, e.record.ordinal), strokeStart := some s.now,
               lastCycle := if s.alarm.run = .running then some s.now else h.lastCycle }
    let u := match s.head.lastCycle with
      | some c => t.evaluate .m0 (s.now - c)
      | none => t
    s.finish (u.useStep.modHead fun h => { h with drive := .down, phase := .down, timer := some s.header.downTimeout })

/-- BOTTOM_EDGE (R89). Outside DOWN it is ignored (R86). -/
def execBottomEdge (s : State) : Host.Outcome State Fault Refusal :=
  if s.head.phase = .down then
    s.finish (s.modHead fun h => { h with phase := .clinch, clinchOn := true, timer := some s.header.clinchTimeout })
  else .next s

/-- CLINCH_DONE_EDGE (R90, R91): the first sample. Outside CLINCH it is ignored (R86). -/
def execClinchDoneEdge (cla clb : Bool) (s : State) : Host.Outcome State Fault Refusal :=
  if s.head.phase = .clinch then
    s.finish ((s.modLines fun l => { l with cla := cla, clb := clb }).modHead fun h =>
      { h with phase := .sense, timer := none, first := some ⟨cla, clb⟩, confirm := some Config.confirmTime })
  else .next s

/-- CONFIRM_SAMPLE (R91): a lead is found when its line read active at both samples. -/
def execConfirmSample (cla clb : Bool) (s : State) : Host.Outcome State Fault Refusal :=
  match s.head.phase, s.head.first with
  | .sense, some f =>
    s.finish ((s.modLines fun l => { l with cla := cla, clb := clb }).modHead fun h =>
      { h with lead := some ⟨f.a && cla, f.b && clb⟩, lastLead := some ⟨f.a && cla, f.b && clb⟩, first := none,
               confirm := none, clinchOn := false, drive := .up, phase := .up, timer := some s.header.upTimeout })
  | _, _ => .next s

/-- The outcome of a completed stroke on the oldest entry: INSERTED (R93), or a lead miss with alarm 34 (R94). -/
def State.strokeOutcome (s : State) (e : Entry) (l : Leads) : State :=
  let t := s.removeOldest
  if l.a && l.b then
    (if e.toInsert then t.takeOutcome e.record.lap e.record.ordinal .inserted else t).followOn
  else
    let u := if e.toInsert then t.takeOutcome e.record.lap e.record.ordinal (.missed .leadMiss) else t
    (u.raise { code := .leadMiss, serial := u.workingSerial, ordinal := some e.record.ordinal, active := false }).followOn

/-- The completion of a stroke (R92): M4, then the outcome. -/
def State.strokeDone (s : State) : State :=
  let t := (s.modHead fun h => { h with timer := none, drive := .off, phase := .top }).evaluate .m4
    (s.now - s.head.strokeStart.getD s.now)
  let u := match s.oldest, s.head.lead with
    | some e, some l => t.strokeOutcome e l
    | _, _ => t
  u.modHead fun h => { h with served := none, strokeStart := none, lead := none }

/-- TOP_EDGE: the end of a stroke in UP (R92), of the recovery return in RETURN (R97); in any other phase the edge is
ignored (R86). -/
def execTopEdge (s : State) : Host.Outcome State Fault Refusal :=
  let t := s.modLines fun l => { l with top := true }
  match s.head.phase with
  | .up => s.finish t.strokeDone.endIfQuiet
  | .returning => s.finish t.returnDone.endIfQuiet
  | _ => s.finish t

/-- Mark the oldest entry attempted (R95). -/
def State.markAttempted (s : State) : State :=
  s.modTape fun t =>
    { t with queue := match t.queue with
        | e :: es => { e with attempted := true } :: es
        | [] => [] }

/-- The alarm of a phase that times out (R95). -/
def jamCode : HeadPhase → AlarmCode
  | .down => .downJam
  | .clinch => .clinchJam
  | _ => .upJam

/-- The phase timer guards the phase (R85). -/
def HeadPhase.guarded : HeadPhase → Bool
  | .down | .clinch | .up => true
  | _ => false

/-- The ordinal of the oldest entry when it carries the attempted mark (R97). -/
def State.attemptedOrdinal (s : State) : Option Nat :=
  s.oldest.bind fun e => if e.attempted then some e.record.ordinal else none

/-- HEAD_JAM: in DOWN, CLINCH or UP the stroke ends as a jam and the entry is marked (R95); in RETURN the return ends as
a jam (R97). No timer runs in any other phase. -/
def execHeadJam (s : State) : Host.Outcome State Fault Refusal :=
  if s.head.phase.guarded then
    let t := (s.modHead fun h =>
      { h with drive := .off, clinchOn := false, timer := none, phase := .halted, strokeStart := none, first := none,
               lead := none, served := none }).markAttempted
    s.finish (t.raise { code := jamCode s.head.phase, serial := s.workingSerial, ordinal := t.attemptedOrdinal, active := false })
  else if s.head.phase = .returning then
    s.finish ((s.modHead fun h => { h with drive := .off, timer := none, phase := .halted }).raise
      { code := .upJam, serial := s.workingSerial, ordinal := s.attemptedOrdinal, active := false })
  else .next s

/-- HEAD_DROP (R86): acts in the phase TOP. In CONFIG_FAULT the head unit acts on no sensor (R103). -/
def execHeadDrop (s : State) : Host.Outcome State Fault Refusal :=
  let t := s.modLines fun l => { l with top := false }
  s.finish (if s.live ∧ s.head.phase = .top then t.dropHead else t)

end Sys2Proof.Machine
end

