-- ==== Sys2Proof/Machine/Reports.lean ====
section
/-! DEFINITION. What the station says of itself: the STATUS payload (R174, chapter 10 "STATUS") and the six answers to a
QUERY (R184, R185, chapter 10 "Report items"), each as one run of bytes built from the present state. -/

namespace Sys2Proof.Machine

/-- `n` zero bytes. -/
def zeros (n : Nat) : List Byte := List.replicate n 0

/-- A run of bytes brought to `n` bytes with 0s: the unused slots of a table (R184). -/
def padTo (n : Nat) (bs : List Byte) : List Byte := bs ++ zeros (n - bs.length)

/-- A coordinate in two bytes. A commanded position is in travel, so it is not negative (R12). -/
def coordBytes (v : Int) : List Byte := le16 v.toNat

/-- A serial in two bytes, 0xFFFF for none (chapter 10 "STATUS", "STATION"). -/
def serialOrNone (s : Option Serial) : List Byte := le16 (s.getD 0xFFFF).toNat

/-! ## STATUS -/

/-- The ten payload bytes of a STATUS built now (R174). -/
def State.statusPayload (s : State) : List Byte :=
  [byte s.alarm.run.code, byte s.entryState.code, s.work.accept, byte ((s.alarm.lowest.map AlarmCode.code).getD 0),
   byte s.alarm.list.length, flagByte s.drivesStopline]
  ++ serialOrNone s.boardSerial ++ le16 ((s.work.board.map Board.inserted).getD 0)

/-! ## STATION -/

/-- Bytes 5 and 6 of STATION: 0 for C00 and C01. A C04 detail past word 65535 does not fit them (log entry 6). -/
def Reader.detailBytes (r : Reader) : List Byte :=
  if r.reason = .c00 ∨ r.reason = .c01 then [0, 0]
  else if r.detail ≤ 65535 then le16 r.detail
  else le16 (Config.detailPastMemory r.detail).toNat

/-- Bytes 18 to 23 of STATION: the move's purpose, its entry or image, and its plan. -/
def Table.moveBytes (t : Table) : List Byte :=
  match t.slot with
  | none => zeros 6
  | some m =>
    match m.purpose with
    | .insert lap k => byte 1 :: byte lap.toNat :: (le16 k ++ le16 m.plan)
    | .mark g => byte 2 :: byte 0 :: (le16 g ++ le16 m.plan)

/-- Bytes 25 to 27 of STATION: the served entry. -/
def Head.servedBytes (h : Head) : List Byte :=
  match h.served with
  | none => byte 0 :: le16 allOnes
  | some (lap, k) => byte lap.toNat :: le16 k

/-- Byte 28 of STATION: the last lead result. Bit 7 stays set until the first confirm sample, which is where R85 and R91
set the last lead result, although the table of R184 speaks of the first stroke that has reached SENSE, 2 ms before
(DEDUCED, log entry 30). -/
def Head.leadByte (h : Head) : Byte :=
  match h.lastLead with
  | none => 0x80
  | some l => byte ((if l.a then 1 else 0) + (if l.b then 2 else 0))

/-- Byte 32 of STATION: the operation condition. R105 gives no condition before an operation's first start (log
entry 13). -/
def State.conditionByte (s : State) : Byte :=
  match s.work.op with
  | none => 0
  | some (_, .driving) => 0
  | some (_, .stalled) => 1
  | some (_, .waiting) => flagByte (Config.waitingReadsStalled s.now)

/-- The STATION answer, 41 bytes (R8, R84, R104, R125, R162). -/
def State.stationAnswer (s : State) : List Byte :=
  [byte ((s.reader.straps.map fun p => p.addr.toNat).getD 0), byte (Role.code s.role), flagByte s.localStrap,
   byte s.alarm.run.code, byte s.reader.reason.code]
  ++ s.reader.detailBytes
  ++ [flagByte s.alarm.rowHold, byte ((s.alarm.homingTarget.map RunState.code).getD 0), flagByte s.alarm.stepUsed]
  ++ coordBytes s.table.commanded.x ++ coordBytes s.table.commanded.y
  ++ [byte s.table.commanded.turret.toNat, byte s.table.commanded.span, flagByte s.table.homed,
      byte s.table.activity.code]
  ++ s.table.moveBytes
  ++ byte s.head.phase.code :: s.head.servedBytes
  ++ [s.head.leadByte, flagByte ((s.oldest.map Entry.attempted).getD false), byte s.work.state.code,
      byte ((s.work.op.map fun o => o.1.code).getD 0), s.conditionByte, flagByte s.work.clamped, s.work.accept,
      byte s.entryState.code, flagByte s.work.gateReject]
  ++ serialOrNone s.boardSerial
  ++ [flagByte (s.work.board.bind Board.lap).isSome, byte (((s.work.board.bind Board.lap).map BitVec.toNat).getD 0)]

/-! ## BOARD -/

/-- One slot of the arrival queue. -/
def Arrival.bytes (a : Arrival) : List Byte :=
  le16 a.traveller.serial.toNat ++ rejectByte a.traveller.reject :: le16 a.left

/-- Bytes 17 to 20 of BOARD: the release record. -/
def Trav.releaseBytes (t : Trav) : List Byte :=
  match t.release with
  | none => zeros 4
  | some r => byte 1 :: (le16 r.1.toNat ++ [r.2])

/-- Bytes 24 to 35 of BOARD: the six counters. -/
def Trav.counterBytes (t : Trav) : List Byte :=
  le16 t.duplicate ++ le16 t.foreign ++ le16 t.malformed ++ le16 t.overflow ++ le16 t.expiry ++ le16 t.lostNotSent

/-- Bytes 36 on of BOARD for a board record. -/
def Board.bytes (b : Board) : List Byte :=
  byte 1 :: le16 b.serial.toNat ++ [flagByte b.lap.isSome, byte ((b.lap.map BitVec.toNat).getD 0)]
  ++ maskBytes b.mask ++ rejectByte b.reject :: le16 b.inserted ++ le16 b.missed ++ le16 b.passed ++ le16 b.overflow
  ++ [b.holds, flagByte b.ownStage.isSome, byte b.missList.length]
  ++ padTo 24 (b.missList.flatMap missBytes)
  ++ byte b.dropped :: byte b.stages.length :: b.stages.flatMap stageBytes

/-- The BOARD answer, 83 bytes and the received stages (R125, R141). -/
def State.boardAnswer (s : State) : List Byte :=
  byte s.trav.arrivals.length :: padTo 15 (s.trav.arrivals.flatMap Arrival.bytes)
  ++ flagByte s.trav.takeOpen :: s.trav.releaseBytes
  ++ byte s.trav.phase.code :: le16 (s.trav.timer.getD 0) ++ s.trav.counterBytes
  ++ match s.work.board with
    | none => zeros 47
    | some b => b.bytes

/-! ## QUEUE -/

/-- One entry of the QUEUE answer, 17 bytes. -/
def Entry.bytes (e : Entry) : List Byte :=
  byte e.record.lap.toNat :: le16 e.record.ordinal
  ++ [byte e.record.row, byte e.record.image, byte e.record.step, byte e.record.kind.code, byte e.verdict.code,
      byte e.codes.length]
  ++ le16 (e.codes.getD 0 0) ++ le16 (e.codes.getD 1 0)
  ++ [byte (Decision.code e.decision),
      byte (match e.decision with
        | some (.passMiss r) => r.code
        | _ => 0),
      flagByte e.attempted, 0]

/-- Lap and ordinal of the reader's next step: the oldest buffered record, else the step of a read in flight without the
discard mark, else the cursor (R62). -/
def Reader.nextStep (r : Reader) : Lap × Nat :=
  match r.buffer with
  | b :: _ => (b.lap, b.ordinal)
  | [] =>
    match r.read with
    | some d =>
      match d.cursor with
      | some c => if d.discarded then (r.cursor.lap, r.cursor.ordinal) else (c.lap, c.ordinal)
      | none => (r.cursor.lap, r.cursor.ordinal)
    | none => (r.cursor.lap, r.cursor.ordinal)

/-- Byte 7 of QUEUE: D, a free value while none is held (R61, log entry 29). -/
def State.depthByte (s : State) : Byte :=
  match s.hdr with
  | some h => byte h.depth
  | none => Config.byteNotHeld s.now 3 7

/-- The QUEUE answer (R62). -/
def State.queueAnswer (s : State) : List Byte :=
  [flagByte s.tape.feeding, byte s.tape.fault.code, flagByte s.tape.flush.isSome,
   byte ((s.tape.flush.map BitVec.toNat).getD 0), byte s.reader.nextStep.1.toNat]
  ++ le16 s.reader.nextStep.2 ++ [s.depthByte, byte s.tape.queue.length]
  ++ s.tape.queue.flatMap Entry.bytes

/-! ## ALARMS and MONITORS -/

/-- A number whose bits 0, 1, 2 and 3 are four flags. -/
def fourFlags (a b c d : Bool) : Nat :=
  (if a then 1 else 0) + (if b then 2 else 0) + (if c then 4 else 0) + (if d then 8 else 0)

/-- One entry of the ALARMS answer, 7 bytes. -/
def AlarmEntry.bytes (e : AlarmEntry) : List Byte :=
  [byte e.code.code, byte e.count, byte (fourFlags e.serial.isSome e.ordinal.isSome e.stop e.persists)]
  ++ le16 ((e.serial.map BitVec.toNat).getD 0) ++ le16 (e.ordinal.getD 0)

/-- The ALARMS answer (R162). -/
def State.alarmsAnswer (s : State) : List Byte :=
  byte s.alarm.list.length :: flagByte s.alarm.more :: s.alarm.list.flatMap AlarmEntry.bytes

/-- The settings in a record of the MONITORS answer, 6 bytes; the options stand in bits 4 to 6 of their byte. -/
def MonitorSettings.bytes (c : MonitorSettings) : List Byte :=
  le16 c.w ++ le16 c.a ++ [byte c.p, byte (16 * fourFlags c.warnLatch c.alarmLatch c.stopEnable false)]

/-- The rest of a record of the MONITORS answer, 4 bytes. -/
def Monitor.bytes (m : Monitor) : List Byte :=
  le16 m.value ++ [byte (fourFlags m.warn m.alarm false false), byte m.count]

/-- The settings bytes of monitor `n`, free values while none are held (R161, log entry 29). -/
def State.settingsBytes (s : State) (n : Nat) : List Byte :=
  match s.hdr with
  | some h => (h.monitors.getD n default).bytes
  | none => (List.range 6).map fun k => Config.byteNotHeld s.now 5 (10 * n + k)

/-- The MONITORS answer, 60 bytes (R38, R162). -/
def State.monitorsAnswer (s : State) : List Byte :=
  s.settingsBytes 0 ++ s.alarm.m0.bytes ++ s.settingsBytes 1 ++ s.alarm.m1.bytes
  ++ s.settingsBytes 2 ++ s.alarm.m2.bytes ++ s.settingsBytes 3 ++ s.alarm.m3.bytes
  ++ s.settingsBytes 4 ++ s.alarm.m4.bytes ++ s.settingsBytes 5 ++ s.alarm.m5.bytes

/-! ## PEERS -/

/-- One entry of the PEERS answer, 13 bytes. -/
def Peer.report (p : Peer) : List Byte :=
  flagByte p.heard :: le16 p.age ++ (if p.heard then p.bytes else zeros 10)

/-- The eleven link counters, in the order of R169's table. -/
def LinkCounters.bytes (c : LinkCounters) : List Byte :=
  le16 c.characterErrors ++ le16 c.lengthErrors ++ le16 c.gapAbandons ++ le16 c.checkErrors ++ le16 c.structureErrors
  ++ le16 c.clashFrames ++ le16 c.receiveOverruns ++ le16 c.arbitrationLosses ++ le16 c.collisions
  ++ le16 c.droppedFrames ++ le16 c.unanswered

/-- The PEERS answer, 417 bytes (R177). -/
def State.peersAnswer (s : State) : List Byte :=
  s.link.peers.flatMap Peer.report ++ s.link.counters.bytes ++ le16 s.link.errors ++ byte s.link.divisor ::
    le16 s.link.period

/-! ## Parts (R177, R184) -/

/-- The number of parts of an answer. -/
def partsOf (answer : List Byte) : Nat := (answer.length + (Config.partSize - 1)) / Config.partSize

/-- The payload of the REPORT that answers a QUERY for part `p` of an item whose answer is known. -/
def answerPayload (item : Byte) (answer : List Byte) (p : Byte) : List Byte :=
  if p.toNat < partsOf answer then
    [1, item, p, byte (partsOf answer), 0] ++ (answer.drop (Config.partSize * p.toNat)).take Config.partSize
  else [1, item, p, byte (partsOf answer), 2]

/-- The payload of the REPORT with refusal NO_ITEM. -/
def noItemPayload (item p : Byte) : List Byte := [1, item, p, 0, 1]

/-- The payload of the REPORT that carries the result of a REMOTE. -/
def resultPayload (command result : Byte) : List Byte := [2, command, result]

end Sys2Proof.Machine
end

