-- ==== Sys2Proof/Machine/Frames.lean ====
section
/-! DEFINITION. The frame queues of the link unit (R173, R175) and the counting of link errors (R169), as the traveller
unit, the link unit and the service answers use them. -/

namespace Sys2Proof.Machine

/-- A counter one higher, saturating at 65535 (R128, R169). -/
def bump (n : Nat) : Nat := min Config.counterMax (n + 1)

/-- A link error of a cause: the error count and the cause's own total (R169). -/
def Link.fail (l : Link) (cause : LinkCounters → LinkCounters) : Link :=
  { l with errors := bump l.errors, counters := cause l.counters }

/-- This station's address as the sender byte of its frames (R170). -/
def State.ownByte (s : State) : Byte := byte (s.ownAddr.getD 0)

/-- The transmit queue has room (R173). -/
def Link.hasRoom (l : Link) : Bool := decide (l.tx.length < Config.frameRoom)

/-- A frame of this station joins the transmit queue as the newest (R173). -/
def State.queueFrame (s : State) (kind dest : Byte) (payload : List Byte) : State :=
  s.modLink fun l => { l with tx := l.tx ++ [⟨s.ownByte, kind, dest, payload⟩] }

/-- The frame whose handing on completes, when it is of the named kind (R175). -/
def State.handed (s : State) (kind : Byte) : Option Frame :=
  if s.link.handing then s.link.rx.head?.filter fun f => f.kind == kind else none

/-- The frame leaves the receive queue, and the next handing on begins if a frame waits (R175). -/
def State.handDone (s : State) : State :=
  s.modLink fun l => { l with rx := l.rx.tail, handing := !l.rx.tail.isEmpty }

end Sys2Proof.Machine
end

