-- ==== Sys2Proof/Machine/TravellerUnit.lean ====
section
/-! DEFINITION. The traveller unit (chapter 7): the outgoing traveller and the release grant, arriving travellers, expiry,
the hand-off watch, LOST. -/

namespace Sys2Proof.Machine

/-! ## The outgoing traveller (R127, R133) -/

/-- A stage list and dropped-stage count with a stage added (R127). -/
def addStage (stages : List Stage) (dropped : Nat) (g : Stage) : List Stage × Nat :=
  if stages.length < Config.stageRoom then (stages ++ [g], dropped)
  else (stages.tail ++ [g], min 255 (dropped + 1))

/-- The traveller that goes out beside a board (R133). -/
def Board.outgoing (b : Board) : Traveller :=
  match b.ownStage with
  | none => ⟨b.serial, b.reject, b.mask, b.stages, b.dropped⟩
  | some g => ⟨b.serial, b.reject, b.mask, (addStage b.stages b.dropped g).1, (addStage b.stages b.dropped g).2⟩

/-! ## The release grant (R135) -/

/-- The grant of a board against the downstream accept counter, with the release it brings (R135 steps 1 to 5, R121). -/
def State.grant (s : State) (b : Board) (accept : BitVec 8) : State :=
  ((s.queueFrame kindTraveller (byte (s.downAddr.getD 0)) (travellerBytes b.outgoing)).modTrav fun t =>
    { t with release := some (b.serial, accept), phase := .sent, timer := none }).releaseBoard

/-- Grant the release if all of R135 hold. -/
def State.tryGrant (s : State) : State :=
  match s.grantable with
  | some (b, accept) => s.grant b accept
  | none => s

/-- RELEASE_GRANT (R135). -/
def execReleaseGrant (s : State) : Host.Outcome State Fault Refusal :=
  match s.grantable with
  | some _ => s.finish s.tryGrant
  | none => .next s

/-! ## The hand-off watch (R134, R136 to R138) -/

/-- The phases that a confirmation acts in (R134 step 2). -/
def HandPhase.awaits : HandPhase → Bool
  | .sent | .timing | .expired => true
  | _ => false

/-- The release record that a downstream STATUS confirms (R134 step 2). -/
def Trav.confirmedBy (t : Trav) (accept : BitVec 8) : Bool :=
  t.phase.awaits && match t.release with
    | some r => r.2 != accept
    | none => false

/-- A downstream STATUS as the traveller unit takes it (R134 steps 1 and 2, R136). -/
def Trav.hear (t : Trav) (fresh : Bool) (v : StatusView) : Trav :=
  let u := if !fresh || v.configFault then { t with release := none } else t
  if u.confirmedBy v.accept then { u with phase := .none, timer := none } else u

/-- A downstream STATUS: the traveller unit's steps, the grant tried last (R134). -/
def State.hearDownstream (s : State) (fresh : Bool) (v : StatusView) : State :=
  (s.modTrav fun t => t.hear fresh v).tryGrant

/-- HANDOFF_TIMEOUT (R137): acts in TIMING. -/
def execHandoffTimeout (s : State) : Host.Outcome State Fault Refusal :=
  if s.trav.phase = .timing then
    s.finish ((s.modTrav fun t => { t with phase := .expired, timer := none }).raise
      { code := .handoffTimeout, serial := s.trav.release.map Prod.fst, ordinal := none, active := false })
  else .next s

/-- A LOST frame's serial. -/
def Frame.lostSerial (f : Frame) : Serial := BitVec.ofNat 16 (ofLe16 (f.payload.getD 0 0) (f.payload.getD 1 0))

/-- The LOST frame names this station's last release (R138). -/
def State.lostHere (s : State) (f : Frame) : Bool :=
  s.live && s.downAddr == some f.sender.toNat && s.trav.release.map Prod.fst == some f.lostSerial

/-- LOST_RECEIVE (R138): the completion of handing on a LOST frame. -/
def execLostReceive (s : State) : Host.Outcome State Fault Refusal :=
  match s.handed kindLost with
  | none => .next s
  | some f =>
    if s.lostHere f then
      s.finish ((s.handDone.modTrav fun t => { t with phase := .lost, timer := none }).raise
        { code := .boardLost, serial := some f.lostSerial, ordinal := none, active := false })
    else s.finish s.handDone

/-! ## Arriving travellers (R129 to R132) -/

/-- A well-formed traveller from upstream meets the arrival queue and the pending take (R130, R131). -/
def State.arriveTraveller (s : State) (t : Traveller) : State :=
  if s.trav.arrivals.any fun a => a.traveller.serial == t.serial then
    s.modTrav fun u => { u with duplicate := bump u.duplicate }
  else if Config.arrivalRoom ≤ s.trav.arrivals.length then
    (s.modTrav fun u => { u with overflow := bump u.overflow }).raise
      { code := .arrivalFull, serial := some t.serial, ordinal := none, active := false }
  else if s.trav.takeOpen then (s.modTrav fun u => { u with takeOpen := false }).makeMatched t
  else s.modTrav fun u => { u with arrivals := u.arrivals ++ [⟨t, 1000 * s.header.travExpiry⟩] }

/-- The frame is foreign: the station is strapped LINE HEAD, or the sender is not the upstream address (R129 test 1). -/
def State.foreign (s : State) (f : Frame) : Bool :=
  s.role == .lineHead || s.ownAddr != some (f.sender.toNat + 1)

/-- TRAVELLER_RECEIVE (R129): the completion of handing on a TRAVELLER. In CONFIG_FAULT the frame is not taken. -/
def execTravellerReceive (s : State) : Host.Outcome State Fault Refusal :=
  match s.handed kindTraveller with
  | none => .next s
  | some f =>
    if s.live = false then s.finish s.handDone
    else if s.foreign f then s.finish (s.handDone.modTrav fun u => { u with foreign := bump u.foreign })
    else match travellerOfBytes f.payload with
      | none => s.finish (s.handDone.modTrav fun u => { u with malformed := bump u.malformed })
      | some t => s.finish (s.handDone.arriveTraveller t)

/-- A traveller leaves the arrival queue by expiry, and LOST is queued to all stations or counted (R132). -/
def State.expire (s : State) (serial : Serial) : State :=
  let t := s.modTrav fun u =>
    { u with arrivals := u.arrivals.filter fun a => a.traveller.serial != serial, expiry := bump u.expiry }
  if s.link.hasRoom then t.queueFrame kindLost 0 (le16 serial.toNat)
  else t.modTrav fun u => { u with lostNotSent := bump u.lostNotSent }

/-- TRAVELLER_EXPIRY (R132): acts on the queued traveller of the serial. -/
def execTravellerExpiry (serial : Serial) (s : State) : Host.Outcome State Fault Refusal :=
  if s.trav.arrivals.any fun a => a.traveller.serial == serial then s.finish (s.expire serial) else .next s

/-! ## CLEAR -/

/-- CLEAR as it reaches the traveller unit (R139). -/
def Trav.cleared (t : Trav) : Trav :=
  match t.phase with
  | .expired | .lost => { t with release := none, phase := .none }
  | _ => t

end Sys2Proof.Machine
end

