-- ==== Sys2Proof/Machine/Link.lean ====
section
/-! DEFINITION. The link unit (chapter 9): characters, frame assembly, frame tests, sending, the status slot, handing on
and the peer table. -/

namespace Sys2Proof.Machine

/-! ## Receiving (R165, R167, R168) -/

/-- A frame in assembly is discarded with a link error of a cause, and assembly becomes SKIPPING (R167). -/
def Link.discard (l : Link) (cause : LinkCounters → LinkCounters) : Link :=
  { l.fail cause with assembly := .skipping, own := false }

/-- The payload of a frame this station's link unit uses (R168 test 5). -/
def State.uses (s : State) (f : Frame) : Bool :=
  if f.kind = kindStatus then f.dest == 0 && within 1 30 f.sender.toNat
  else if f.kind = kindLost then f.dest == 0
  else if f.kind = kindTraveller then s.ownAddr == some f.dest.toNat
  else if f.kind = kindQuery ∨ f.kind = kindRemote then f.sender == toolAddr && s.ownAddr == some f.dest.toNat
  else false

/-- A good frame joins the receive queue, or is dropped at a full one (R175). -/
def Link.join (l : Link) (f : Frame) : Link :=
  if l.rx.length < Config.frameRoom then { l with rx := l.rx ++ [f] }
  else l.fail fun c => { c with receiveOverruns := bump c.receiveOverruns }

/-- R168 tests 3 to 5 on a frame whose bytes sum to 0. -/
def State.testContents (s : State) (f : Frame) : State :=
  if f.sender = 0 ∨ lengthAllowed f.kind f.payload.length = false then
    s.modLink fun l => l.fail fun c => { c with structureErrors := bump c.structureErrors }
  else if s.ownAddr = some f.sender.toNat then
    (s.modLink fun l => { l with counters := { l.counters with clashFrames := bump l.counters.clashFrames } }).raise
      { code := .addressClash, serial := none, ordinal := none, active := false }
  else if s.uses f then s.modLink fun l => l.join f
  else s

/-- The tests of a complete frame, in order (R168). `own` says that this station sent it whole. -/
def State.testFrame (s : State) (own : Bool) (bytes : List Byte) : State :=
  if own then s
  else if sumsToZero bytes = false then
    s.modLink fun l => l.fail fun c => { c with checkErrors := bump c.checkErrors }
  else match frameOfBytes bytes with
    | some f => s.testContents f
    | none => s

/-- The bytes so far are a whole frame: n + 5 of them (R166, R167). -/
def frameComplete (bytes : List Byte) : Bool :=
  match bytes with
  | _ :: _ :: _ :: n :: _ => bytes.length == n.toNat + 5
  | _ => false

/-- A good character as frame assembly takes it (R167). -/
def State.takeByte (s : State) (b : Byte) : State :=
  match s.link.assembly with
  | .between => s.modLink fun l => { l with assembly := .assembling [b], own := l.sending.isSome }
  | .skipping => s
  | .assembling bytes =>
    if bytes.length = 3 ∧ Config.maxPayload < b.toNat then
      s.modLink fun l => l.discard fun c => { c with lengthErrors := bump c.lengthErrors }
    else if frameComplete (bytes ++ [b]) then
      (s.modLink fun l => { l with assembly := .between, own := false }).testFrame s.link.own (bytes ++ [b])
    else s.modLink fun l => { l with assembly := .assembling (bytes ++ [b]) }

/-- A character with an error as frame assembly takes it (R167). -/
def State.takeBroken (s : State) : State :=
  match s.link.assembly with
  | .skipping => s
  | _ => s.modLink fun l => l.discard fun c => { c with characterErrors := bump c.characterErrors }

/-- The end of a character at its stop-bit sample (R165): the receiver returns to HUNT, the idle count starts again, and
frame assembly takes the character. No row reports the line going high again after a stop bit that reads 0: the model
keeps it low until another row shows it high (DESIGN CHOICE, log entry 8). -/
def State.characterEnds (s : State) (ch : Character) : State :=
  let t := (s.modLines fun l => { l with link := ch.stop }).modLink
    fun l => { l with inCharacter := false, idle := 0, idlePart := 0 }
  match characterEnd ch with
  | .good => t.takeByte ch.data
  | _ => t.takeBroken

/-- The receiver is sampling a character (R165). Under RESET it stands in HUNT (R180). -/
def State.sampling (s : State) : Bool := s.released && s.link.inCharacter

/-- VALID_START (R165). -/
def execValidStart (s : State) : Host.Outcome State Fault Refusal :=
  if s.released && !s.link.inCharacter then
    s.finish ((s.modLines fun l => { l with link := false }).modLink fun l =>
      { l with inCharacter := true, idle := 0, idlePart := 0 })
  else .next s

/-- GOOD_CHARACTER (R167): a character ends. What becomes of it is told by the character and the frame in assembly. -/
def execGoodCharacter (ch : Character) (s : State) : Host.Outcome State Fault Refusal :=
  if s.sampling then s.finish (s.characterEnds ch) else .next s

/-- FRAME_BROKEN (R167): the character that spoils a frame ends. -/
def execFrameBroken (ch : Character) (s : State) : Host.Outcome State Fault Refusal :=
  if s.sampling then s.finish (s.characterEnds ch) else .next s

/-- FRAME_RECEIVED (R168): the check character of a frame ends. -/
def execFrameReceived (ch : Character) (s : State) : Host.Outcome State Fault Refusal :=
  if s.sampling then s.finish (s.characterEnds ch) else .next s

/-- Frame assembly when the idle count passes 20 bit times (R167). -/
def Link.gap (l : Link) : Link :=
  match l.assembly with
  | .between => l
  | .assembling _ =>
    { (l.fail fun c => { c with gapAbandons := bump c.gapAbandons }) with assembly := .between, own := false }
  | .skipping => { l with assembly := .between }

/-- GAP_ABANDON (R167): the line has stayed high for more than 20 bit times. -/
def execGapAbandon (s : State) : Host.Outcome State Fault Refusal :=
  if s.released && !s.link.inCharacter then
    s.finish ((s.modLines fun l => { l with link := true }).modLink fun l =>
      { l with idle := max l.idle (Config.gapLimit + 1) }.gap)
  else .next s

/-! ## Sending (R170 to R174) -/

/-- The STATUS that a send starting now puts on the line (R174). -/
def State.statusFrame (s : State) : Frame := ⟨s.ownByte, kindStatus, 0, s.statusPayload⟩

/-- The frame a send starting now takes: the STATUS when the slot is DUE, else the oldest of the transmit queue (R170). -/
def State.chosen (s : State) : Option Sending :=
  if s.link.due then some ⟨true, s.statusFrame⟩ else s.link.tx.head?.map fun f => ⟨false, f⟩

/-- FRAME_SEND_START (R170), with the idle count the line has reached at the event. -/
def execFrameSendStart (idle : Nat) (s : State) : Host.Outcome State Fault Refusal :=
  if s.sendReady (max s.link.idle idle) then
    s.finish ((s.modLines fun l => { l with link := true }).modLink fun l =>
      { l with sending := s.chosen, again := false, idle := max l.idle idle })
  else .next s

/-- The sender goes QUIET after a frame was on the line: its start bit has been a valid start, so the idle count is 0
(R165, R171). -/
def Link.quiet (l : Link) : Link := { l with sending := none, again := false, idle := 0, idlePart := 0 }

/-- ARBITRATION_LOST (R171): the frame keeps its place and its retry count. -/
def execArbitrationLost (s : State) : Host.Outcome State Fault Refusal :=
  if s.link.sending.isSome then
    s.finish (s.modLink fun l =>
      { (l.fail fun c => { c with arbitrationLosses := bump c.arbitrationLosses }).quiet with own := false })
  else .next s

/-- The dropped-frames counter one higher (R172). -/
def Link.countDropped (l : Link) : Link :=
  { l with counters := { l.counters with droppedFrames := bump l.counters.droppedFrames } }

/-- The retry count after a collision, and the drop when it would pass 3 (R172). -/
def Link.retry (l : Link) (status : Bool) : Link :=
  if status then
    if l.statusRetry + 1 ≤ Config.maxRetries then { l with statusRetry := l.statusRetry + 1 }
    else { l.countDropped with due := false, statusRetry := 0, statusTimer := some l.period }
  else if l.queueRetry + 1 ≤ Config.maxRetries then { l with queueRetry := l.queueRetry + 1 }
  else { l.countDropped with tx := l.tx.tail, queueRetry := 0 }

/-- COLLISION (R172). -/
def execCollision (s : State) : Host.Outcome State Fault Refusal :=
  match s.link.sending with
  | some x =>
    s.finish (s.modLink fun l =>
      { ((l.fail fun c => { c with collisions := bump c.collisions }).quiet.retry x.status) with own := false })
  | none => .next s

/-- The frame on the line has been sent (R171): a queued frame leaves its queue; the slot goes IDLE and the status timer
starts again, unless the slot became DUE again meanwhile (R174). -/
def Link.sent (l : Link) (status : Bool) : Link :=
  if status then
    { l.quiet with due := l.again, statusRetry := 0, statusTimer := if l.again then l.statusTimer else some l.period }
  else { l.quiet with tx := l.tx.tail, queueRetry := 0 }

/-- FRAME_SENT (R171). -/
def execFrameSent (s : State) : Host.Outcome State Fault Refusal :=
  match s.link.sending with
  | some x => s.finish (s.modLink fun l => l.sent x.status)
  | none => .next s

/-- STATUS_TIMER_EXPIRY (R174): acts while the status timer runs. -/
def execStatusTimerExpiry (s : State) : Host.Outcome State Fault Refusal :=
  if s.link.statusTimer.isSome then s.finish (s.modLink fun l => { l with statusTimer := none }.markDue) else .next s

/-! ## Handing on and the peer table (R175, R176) -/

/-- HANDING_ON_START (R175). -/
def execHandingOnStart (s : State) : Host.Outcome State Fault Refusal :=
  if s.handingReady then s.finish (s.modLink fun l => { l with handing := true }) else .next s

/-- The entry of an address is fresh (R176). -/
def Link.isFresh (l : Link) (a : Nat) : Bool := ((l.peer a).map (Peer.fresh l.period)).getD false

/-- The peer table with a STATUS stored: heard, as received, of age 0 (R176 step 2). -/
def Link.store (l : Link) (a : Nat) (payload : List Byte) : Link :=
  { l with peers := l.peers.set (a - 1) ⟨true, 0, payload⟩ }

/-- STATUS_RECEIVE (R176): the completion of handing on a STATUS. In CONFIG_FAULT the traveller unit watches nothing
(R139). -/
def execStatusReceive (s : State) : Host.Outcome State Fault Refusal :=
  match s.handed kindStatus with
  | none => .next s
  | some f =>
    let t := s.handDone.modLink fun l => l.store f.sender.toNat f.payload
    if s.live ∧ s.downAddr = some f.sender.toNat then
      s.finish (t.hearDownstream (s.link.isFresh f.sender.toNat) (statusView f.payload))
    else s.finish t

/-- The entry of an address has passed three status periods (R176). -/
def Link.stale (l : Link) (a : Nat) : Link :=
  { l with peers := l.peers.modify (a - 1) fun p => { p with age := max p.age (3 * l.period + 1) } }

/-- PEER_STALE (R176): the entry of the address is no longer fresh. -/
def execPeerStale (addr : BitVec 5) (s : State) : Host.Outcome State Fault Refusal :=
  if within 1 30 addr.toNat then s.finish (s.modLink fun l => l.stale addr.toNat) else .next s

end Sys2Proof.Machine
end

