-- ==== Sys2Proof/Machine/Verifier.lean ====
section
/-! DEFINITION. Component verification (chapter 2): the start of a measurement, the verdict, CONVERSION_COMPLETION. -/

namespace Sys2Proof.Machine

/-- Give a verdict to the entry of a lap and ordinal, with its codes (R30), and count it in monitor M1 (R31). -/
def State.giveVerdict (s : State) (lap : Lap) (ordinal : Nat) (v : Verdict) (codes : List Nat) : State :=
  let t := (s.modTape fun t =>
    { t with queue := t.queue.map fun e =>
        if e.record.lap = lap ∧ e.record.ordinal = ordinal then { e with verdict := v, codes := codes } else e
    }).modVerifier fun w =>
      { w with phase := .idle, measured := none, forward := none, backward := none, jawsClosed := false }
  t.evaluate .m1 (if countsAsPass s.options v then 0 else s.alarm.m1.value + 1)

/-- The measurement of the entry just appended, with the PRES sample (R24). A measurement that finds an abandoned
conversion in flight waits for its completion. -/
def State.measure (s : State) (pres : Bool) (r : Record) : State :=
  if pres = false then s.giveVerdict r.lap r.ordinal .absent []
  else if r.kind = .none then s.giveVerdict r.lap r.ordinal .pass []
  else s.modVerifier fun v =>
    { v with
      phase := .converting1
      measured := some (r.lap, r.ordinal)
      setup := some ⟨r.kind, converterRange r, windowOf s.header r⟩
      jawsClosed := true
      conversion := v.conversion.or (some ⟨converterRange r, .ab, false, Config.conversionTime⟩) }

/-- CONVERSION_COMPLETION (R23, R26 to R30, R33). A code that completes no conversion reaches nothing. -/
def execConversionCompletion (code : BitVec 12) (s : State) : Host.Outcome State Fault Refusal :=
  match s.verifier.conversion with
  | none => .next s
  | some c =>
    let free := s.modVerifier fun v => { v with conversion := none }
    if c.abandoned then
      match s.verifier.phase, s.verifier.setup with
      | .converting1, some u =>
        s.finish (free.modVerifier fun v => { v with conversion := some ⟨u.range, .ab, false, Config.conversionTime⟩ })
      | _, _ => s.finish free
    else
      match s.verifier.phase, s.verifier.setup, s.verifier.measured with
      | .converting1, some u, some (lap, k) =>
        if u.kind = .diode then
          s.finish (free.modVerifier fun v =>
            { v with forward := some code.toNat, phase := .converting2,
                     conversion := some ⟨u.range, .ba, false, Config.conversionTime⟩ })
        else
          s.finish (free.giveVerdict lap k (classifySingle u code.toNat) [code.toNat]).takeRowHold.decideOldest
      | .converting2, some _, some (lap, k) =>
        let f := s.verifier.forward.getD 0
        s.finish (free.giveVerdict lap k (classifyDiode s.header.diodeLo s.header.diodeHi f code.toNat)
          [f, code.toNat]).takeRowHold.decideOldest
      | _, _, _ => s.finish free

end Sys2Proof.Machine
end

