-- ==== Sys2Proof/Machine/Tape.lean ====
section
/-! DEFINITION. The tape unit (chapter 3): feeds, passes, tape jam, tape break and tape low. -/

namespace Sys2Proof.Machine

/-- FEED_START (R42). -/
def execFeedStart (s : State) : Host.Outcome State Fault Refusal :=
  if s.feedReady then s.finish s.startFeed else .next s

/-- The entry an index event appends (R43 step 2). -/
def newEntry (r : Record) : Entry := { record := r, verdict := .pending, codes := [], decision := none, attempted := false }

/-- The end of a feed at its index event with the buffer's oldest record (R43 steps 1 to 5), then the bookkeeping the
append and the verdict may complete. -/
def State.feedEnds (s : State) (pres : Bool) (r : Record) (rest : List Record) : State :=
  let t := ((s.modTape fun t => { t with feeding := false, timer := none, queue := t.queue ++ [newEntry r] }).modReader
    fun d => { d with buffer := rest }).issueRead
  let u := (t.measure pres r).evaluate .m3 (s.now - s.tape.startedAt)
  (if s.tape.queue.isEmpty then u.checkFlush else u).bookkeep.endIfQuiet

/-- INDEX_EVENT (R43). An edge while the feed is IDLE is ignored (R44). The buffer holds a record from a feed's start to
its index event (R19); were it empty, the feed would end with no entry. -/
def execIndexEvent (pres : Bool) (s : State) : Host.Outcome State Fault Refusal :=
  let t := s.modLines fun l => { l with pres := pres }
  if s.tape.feeding then
    match s.reader.buffer with
    | r :: rest => s.finish (t.feedEnds pres r rest)
    | [] => s.finish (t.modTape fun t => { t with feeding := false, timer := none }).endIfQuiet
  else s.finish t

/-- PASS_EXECUTION (R49). R49 gives its bullets no order: the model hands the outcome on first, so that a stop alarm of
the M2 evaluation ends STEPPING before the execution is reported used, and the step-used flag then stays clear (DESIGN
CHOICE, log entry 12). -/
def execPassExecution (s : State) : Host.Outcome State Fault Refusal :=
  match s.passReady, s.oldest with
  | true, some e =>
    let t := s.removeOldest
    let u := match e.decision with
      | some .passBad => t.takeOutcome e.record.lap e.record.ordinal .passed
      | some (.passMiss r) => t.takeOutcome e.record.lap e.record.ordinal (.missed r)
      | _ => t
    s.finish u.useStep.followOn.endIfQuiet
  | _, _ => .next s

/-- Resynchronise the queue (R55). -/
def State.resync (s : State) : State :=
  (s.modTape fun t =>
    { t with queue := t.queue.map fun e =>
        { e with verdict := .unchecked, codes := [], decision := if e.attempted then e.decision else none } }).decideOldest

/-- TAPE_JAM (R54): acts when a feed is in flight. -/
def execTapeJam (s : State) : Host.Outcome State Fault Refusal :=
  if s.tape.feeding then
    s.finish <| ((s.modTape fun t => { t with feeding := false, timer := none, fault := .jammed }).abandon.resync).raise
      { code := .tapeJam, serial := s.workingSerial, ordinal := s.reader.buffer.head?.map Record.ordinal, active := false }
  else .next s

/-- A tape break as the tape unit acts on it (R56). -/
def State.breakTape (s : State) : State :=
  (s.modTape fun t => { t with feeding := false, timer := none, fault := .broken }).raise
    { code := .tapeBreak, serial := s.workingSerial, ordinal := none, active := true }

/-- TAPE_BREAK (R56). In CONFIG_FAULT the unit ignores TBRK (R61). -/
def execTapeBreak (s : State) : Host.Outcome State Fault Refusal :=
  let t := s.modLines fun l => { l with tbrk := true }
  s.finish (if s.live then t.breakTape else t)

/-- TBRK_INACTIVE (R56, R152). -/
def execTbrkInactive (s : State) : Host.Outcome State Fault Refusal :=
  s.finish ((s.modLines fun l => { l with tbrk := false }).reportCondition .tapeBreak false)

/-- Tape low as the tape unit raises it (R59). -/
def State.raiseTapeLow (s : State) : State :=
  s.raise { code := .tapeLow, serial := none, ordinal := none, active := true }

/-- TAPE_LOW (R59). In CONFIG_FAULT no alarm is raised (R143). -/
def execTapeLow (s : State) : Host.Outcome State Fault Refusal :=
  s.finish (s.modLines fun l => { l with tend := true }).raiseTapeLow

/-- TEND_INACTIVE (R59, R152). -/
def execTendInactive (s : State) : Host.Outcome State Fault Refusal :=
  s.finish ((s.modLines fun l => { l with tend := false }).reportCondition .tapeLow false)

/-- Tape-break recovery (R58): the entries discarded are all but one under a stroke. -/
def State.recoverTape (s : State) : State :=
  let kept := if s.head.phase.stroking then s.tape.queue.take 1 else []
  let gone := if s.head.phase.stroking then s.tape.queue.drop 1 else s.tape.queue
  let t := s.abandon.modTape fun t => { t with queue := kept }
  let u := match gone, s.reader.buffer with
    | e :: _, _ => t.rewind e.record.lap e.record.ordinal
    | [], r :: _ => t.rewind r.lap r.ordinal
    | [], [] => t
  (u.modTape fun t => { t with fault := .none }).checkFlush

/-- CLEAR as it reaches the tape unit (R57). -/
def State.clearTape (s : State) : State :=
  if s.lines.tbrk then s
  else match s.tape.fault with
    | .none => s
    | .jammed => s.modTape fun t => { t with fault := .none }
    | .broken => s.recoverTape

end Sys2Proof.Machine
end

