-- ==== Sys2Proof/Machine/Operator.lean ====
section
/-! DEFINITION. The operator lines, the stop line, the window timer and the flash period (chapter 8). -/

namespace Sys2Proof.Machine

/-- TOP and BIN as they read at an event. -/
def Lines.sampled (l : Lines) (top bin : Bool) : Lines := { l with top := top, bin := bin }

/-- TOP and BIN are sampled at an event: the lines hold them, and the head unit acts on TOP as it reads, before the event
itself acts: a recovery return in flight takes an active TOP (R97), and a head at TOP has dropped where it reads inactive
(R86). That a level so sampled counts as the line's change, and that TOP is taken before the press, is the model's (DESIGN
CHOICE, log entry 7). -/
def State.sample (s : State) (top bin : Bool) : State := (s.modLines fun l => l.sampled top bin).seeTop

/-- RUN (R145): acts in STOPPED. -/
def execRun (top bin : Bool) (s : State) : Host.Outcome State Fault Refusal :=
  let t := s.sample top bin
  if s.alarm.run = .stopped ∧ t.alarm.run = .stopped then s.finish t.pressRun else s.finish t

/-- STEP (R147): acts in STOPPED. BIN is sampled too, since a conveyor in may start in STEPPING (R109). -/
def execStep (levels : PressLevels) (s : State) : Host.Outcome State Fault Refusal :=
  let t := s.sample levels.top levels.bin
  if s.alarm.run = .stopped ∧ t.alarm.run = .stopped then s.finish t.pressStep else s.finish t

/-- STOP (R146). -/
def execStop (s : State) : Host.Outcome State Fault Refusal :=
  if s.alarm.run.stops then s.finish s.pressStop else .next s

/-- A monitor at a CLEAR: latched WARN and ALARM flags go, and with the ALARM flag's latch the persistence count
(R153 step 1). -/
def Monitor.cleared (m : Monitor) (c : MonitorSettings) : Monitor :=
  { m with warn := m.warn && !c.warnLatch, alarm := m.alarm && !c.alarmLatch,
           count := if c.alarmLatch then 0 else m.count }

/-- The alarm unit's own state after a CLEAR (R153 steps 1 to 3). -/
def Alarm.cleared (a : Alarm) (settings : MonitorId → MonitorSettings) : Alarm :=
  { a with
    m0 := a.m0.cleared (settings .m0), m1 := a.m1.cleared (settings .m1), m2 := a.m2.cleared (settings .m2),
    m3 := a.m3.cleared (settings .m3), m4 := a.m4.cleared (settings .m4), m5 := a.m5.cleared (settings .m5),
    list := a.list.filter AlarmEntry.persists, more := false }

/-- The alarm unit's part of a CLEAR (R153): in ALARM with no stop entry left, STOPPING follows. -/
def State.clearAlarms (s : State) : State :=
  let t := s.modAlarm fun a => a.cleared s.settings
  if t.alarm.run = .alarm ∧ t.alarm.stopListed = false then (t.setRun .stopping).endIfQuiet else t

/-- CLEAR as it acts after a valid start-up: the alarm unit (R153), the tape unit (R57), the traveller unit (R139). -/
def State.pressClear (s : State) : State := s.clearAlarms.clearTape.modTrav Trav.cleared

/-- CLEAR (R153). -/
def execClear (s : State) : Host.Outcome State Fault Refusal :=
  if s.live then s.finish s.pressClear else .next s

/-- STOPLINE_ASSERTED (R148): another station pulls the line; RUNNING becomes HOLDING. -/
def execStoplineAsserted (s : State) : Host.Outcome State Fault Refusal :=
  s.finish (s.modLines fun l => { l with stopline := true }).followStopline

/-- STOPLINE_RELEASED (R148): no other station pulls the line; HOLDING becomes RUNNING. -/
def execStoplineReleased (bin : Bool) (s : State) : Host.Outcome State Fault Refusal :=
  let t := s.modLines fun l => { l with stopline := false, bin := bin }
  if s.alarm.run = .holding then s.finish (t.enterWork .running) else s.finish t

/-- WINDOW_END (R156): the link errors of the window are the value of M5, and the window starts again. -/
def execWindowEnd (s : State) : Host.Outcome State Fault Refusal :=
  if s.alarm.windowTimer.isSome then
    s.finish (((s.modLink fun l => { l with errors := 0 }).modAlarm fun a =>
      { a with windowTimer := some Config.windowTime }).evaluate .m5 s.link.errors)
  else .next s

/-- LAMP_FLASH (R159): a half of the flash period ends. R159 does not say in which half a lamp begins to flash: one
free-running period serves all lamps, so a lamp may begin dark or with a short half (DESIGN CHOICE, log entry 10). -/
def execLampFlash (s : State) : Host.Outcome State Fault Refusal :=
  s.finish (s.modAlarm fun a => { a with flashLit := !a.flashLit, flashLeft := Config.flashTime })

end Sys2Proof.Machine
end

