-- ==== Sys2Proof/Machine/Program.lean ====
section
/-! DEFINITION. Reset, start-up reading and the program reader's reads (chapter 1). The port's reads in start-up
reading are one for the header, one for word 0 and one for words 1 to 7 of a row entry, one for a record (log entry 5). -/

namespace Sys2Proof.Machine

/-- RESET: every unit at its reset values (R21, R37, R61, R83, R103, R124, R140, R161, R180). The commands that wait,
the levels of the input lines and the model's clock are not the station's to reset. -/
def execReset (s : State) : Host.Outcome State Fault Refusal :=
  .next { State.reset with pending := s.pending, lines := s.lines, now := s.now }

/-- A check fails: the reader phase becomes FAULT with the reason and its detail, held until reset (R8). -/
def State.failStart (s : State) (reason : ConfigReason) (detail : Nat) : State :=
  s.modReader fun r =>
    { r with phase := .fault, reason := reason, detail := detail, scan := .idle, draft := none, read := none }

/-- Name the words that start-up reading needs next (R1). -/
def State.readNext (s : State) (addr count : Nat) (scan : Scan) : State :=
  s.modReader fun r => { r with read := some ⟨addr, count, none, false⟩, scan := scan }

/-- RESET_RELEASE (R7): the straps are sampled and start-up reading begins; the status timer starts and the slot
becomes DUE (R174). A strapped address 0 or 31 fails as C07 before any word is read (R9). -/
def execResetRelease (addr : BitVec 5) (role : Role) (localStrap : Bool) (s : State) : Host.Outcome State Fault Refusal :=
  if s.released then .next s
  else
    let t := (s.modReader fun r => { r with straps := some ⟨addr, role, localStrap⟩ }).modLink
      fun l => { l with due := true, statusTimer := some l.period }
    s.finish (if within 1 30 addr.toNat then t.readNext 0 Config.headerWords .header else t.failStart .c07 addr.toNat)

/-- The change to the header's rate and status period, and the error count, at the end of a valid start-up (R164, R174,
R179). -/
def Link.toHeader (l : Link) (h : Header) : Link :=
  { l with divisor := h.divisor, inCharacter := false, assembly := .skipping, own := false, idle := 0, idlePart := 0,
           sending := none, again := false, period := h.statusPeriod, errors := 0 }

/-- The end of a valid start-up (R14): the values are handed on, the walk begins, the run state becomes STOPPED, and the
units make their start-up reads of TBRK, TEND, TOP and BWK (R56, R59, R103, R124). -/
def State.startUpEnds (s : State) : State :=
  let h := s.reader.draft.getD default
  let a := ((s.setHdr h).modReader fun r =>
      { r with phase := .walking, scan := .idle, draft := none, cursor := .first, read := none }).modTable
    fun t => { t with commanded := { t.commanded with span := h.spanMin } }
  let b := ((a.modLink fun l => l.toHeader h).modAlarm fun x => { x with windowTimer := some Config.windowTime }).setRun
    .stopped
  let c := b.issueRead
  let d := if c.lines.tbrk then c.breakTape else c
  let e := if d.lines.tend then d.raiseTapeLow else d
  let f := if e.lines.top then e.modHead fun x => { x with phase := .top } else e
  if f.lines.bwk then f.makeUntracked else f

/-- The next row entry stands at an address (R10). -/
def State.nextRowEntry (s : State) (addr : Nat) : State :=
  if addr ≤ Config.lastWord then s.readNext addr 1 (.rowHead addr) else s.failStart .c03 s.reader.rows.length

/-- The next record of a row's step list stands at an address (R11). -/
def State.nextStepRecord (s : State) (e : RowEntry) (rowAddr addr : Nat) (seen : List StepRecord) : State :=
  if addr + 3 ≤ Config.lastWord then s.readNext addr 4 (.steps e rowAddr addr seen) else s.failStart .c04 addr

/-- The END record of a row's step list has been reached: targets, mark points and totals, then the next row entry
(R12, R13). -/
def State.rowRead (s : State) (h : Header) (e : RowEntry) (rowAddr : Nat) (steps : List StepRecord) : State :=
  match firstTargetOut h.xmax h.ymax e steps with
  | some i => s.failStart .c05 (e.listAddr + 4 * i)
  | none =>
    if markPointOut h.xmax h.ymax e then s.failStart .c05 rowAddr
    else if Config.maxImages < imageTotal s.reader.rows + e.images
        ∨ Config.maxPanel < panelSteps s.reader.rows + e.images * steps.length then
      s.failStart .c06 s.reader.rows.length
    else
      (s.modReader fun r => { r with rows := addRow r.rows e steps.length }).nextRowEntry (rowAddr + 8)

/-- The header's words (R9). -/
def State.takeHeader (s : State) (ws : List Word) : State :=
  if wordAt ws 0 ≠ 0xC3A5 then s.failStart .c01 0
  else match headerFault (wordAt ws) with
    | some i => s.failStart .c02 i
    | none => (s.modReader fun r => { r with draft := some (headerOf (wordAt ws)) }).nextRowEntry (wordAt ws 78)

/-- Word 0 of a row entry (R10, R181). -/
def State.takeRowHead (s : State) (addr : Nat) (w0 : Word) : State :=
  if rowImages w0 = 0 then if s.reader.rows = [] then s.failStart .c03 0 else s.startUpEnds
  else if Config.maxRows ≤ s.reader.rows.length then s.failStart .c06 Config.maxRows
  else if addr + 7 ≤ Config.lastWord then s.readNext (addr + 1) 7 (.rowBody addr w0)
  else s.failStart .c03 s.reader.rows.length

/-- Words 1 to 7 of a row entry (R10). -/
def State.takeRowBody (s : State) (addr : Nat) (w0 : Word) (ws : List Word) : State :=
  match rowEntryOf w0 ws with
  | some e => s.nextStepRecord e addr e.listAddr []
  | none => s.failStart .c03 s.reader.rows.length

/-- A record of a row's step list (R11). -/
def State.takeStepRecord (s : State) (e : RowEntry) (rowAddr addr : Nat) (seen : List StepRecord) (ws : List Word) : State :=
  let h := s.reader.draft.getD default
  if wordAt ws 0 = allOnes then
    if seen = [] then s.failStart .c04 addr else s.rowRead h e rowAddr seen
  else if seen.length = Config.maxSteps then s.failStart .c04 addr
  else match checkedStep h.spanMin h.spanMax ws with
    | some r => s.nextStepRecord e rowAddr (addr + 4) (seen ++ [r])
    | none => s.failStart .c04 addr

/-- The words of a start-up read, as start-up reading stands (R8). -/
def State.takeStartUp (s : State) (ws : List Word) : State :=
  match s.reader.scan with
  | .idle => s
  | .header => s.takeHeader ws
  | .rowHead addr => s.takeRowHead addr (ws.getD 0 0)
  | .rowBody addr w0 => s.takeRowBody addr w0 ws
  | .steps e rowAddr addr seen => s.takeStepRecord e rowAddr addr seen ws

/-- The words of a walking read: the resolved record joins the buffer, or is dropped when the read was marked discarded;
the next read is issued if the buffer has room (R18, R20). -/
def State.takeWalk (s : State) (d : Read) (c : Cursor) (ws : List Word) : State :=
  (s.modReader fun r =>
    { r with read := none, buffer := if d.discarded then r.buffer else r.buffer ++ [resolve r.rows c ws] }).issueRead

/-- PMEM_READ_COMPLETION (R1). A completion delivers as many words as its read named: any other delivery faults. -/
def execPmemReadCompletion (words : List Word) (s : State) : Host.Outcome State Fault Refusal :=
  match s.reader.read with
  | none => .next s
  | some d =>
    if words.length ≠ d.count then .fault .wordsNotAsNamed
    else match d.cursor with
      | some c => s.finish (s.takeWalk d c words)
      | none => s.finish ((s.modReader fun r => { r with read := none }).takeStartUp words)

end Sys2Proof.Machine
end

