-- ==== Sys2Proof/Machine/Service.lean ====
section
/-! DEFINITION. The service tool's frames: QUERY and REMOTE and their REPORTs (R155, R177, R178, R184). -/

namespace Sys2Proof.Machine

/-- A REPORT to the service tool joins the transmit queue, or the query is counted unanswered (R177, R178). -/
def State.report (s : State) (payload : List Byte) : State :=
  if s.link.hasRoom then s.queueFrame kindReport toolAddr payload
  else s.modLink fun l => { l with counters := { l.counters with unanswered := bump l.counters.unanswered } }

/-! ## QUERY (R177) -/

/-- Item codes (chapter 10, "LOST, QUERY and REMOTE"). -/
def itemStation : Byte := 1
def itemBoard : Byte := 2
def itemQueue : Byte := 3
def itemAlarms : Byte := 4
def itemMonitors : Byte := 5
def itemPeers : Byte := 6

/-- The QUERY whose handing on completes, when it names the item; the part asked for. -/
def State.asked (s : State) (item : Byte) : Option Byte :=
  (s.handed kindQuery).bind fun f => if f.payload.getD 0 0 = item then some (f.payload.getD 1 0) else none

/-- The QUERY leaves the queue and is answered from the present state (R177, R184). -/
def State.answer (s : State) (item part : Byte) (run : List Byte) : State :=
  s.handDone.report (answerPayload item run part)

/-- QUERY_STATION (R177). -/
def execQueryStation (s : State) : Host.Outcome State Fault Refusal :=
  match s.asked itemStation with
  | some p => s.finish (s.answer itemStation p s.stationAnswer)
  | none => .next s

/-- QUERY_BOARD (R177). -/
def execQueryBoard (s : State) : Host.Outcome State Fault Refusal :=
  match s.asked itemBoard with
  | some p => s.finish (s.answer itemBoard p s.boardAnswer)
  | none => .next s

/-- QUERY_QUEUE (R177). -/
def execQueryQueue (s : State) : Host.Outcome State Fault Refusal :=
  match s.asked itemQueue with
  | some p => s.finish (s.answer itemQueue p s.queueAnswer)
  | none => .next s

/-- QUERY_ALARMS (R177). -/
def execQueryAlarms (s : State) : Host.Outcome State Fault Refusal :=
  match s.asked itemAlarms with
  | some p => s.finish (s.answer itemAlarms p s.alarmsAnswer)
  | none => .next s

/-- QUERY_MONITORS (R177). -/
def execQueryMonitors (s : State) : Host.Outcome State Fault Refusal :=
  match s.asked itemMonitors with
  | some p => s.finish (s.answer itemMonitors p s.monitorsAnswer)
  | none => .next s

/-- QUERY_PEERS (R177). -/
def execQueryPeers (s : State) : Host.Outcome State Fault Refusal :=
  match s.asked itemPeers with
  | some p => s.finish (s.answer itemPeers p s.peersAnswer)
  | none => .next s

/-- The item is one of the six. -/
def knownItem (item : Byte) : Bool := within 1 6 item.toNat

/-- QUERY_NO_ITEM (R177): the item is none of the six. -/
def execQueryNoItem (s : State) : Host.Outcome State Fault Refusal :=
  match s.handed kindQuery with
  | some f =>
    if knownItem (f.payload.getD 0 0) then .next s
    else s.finish (s.handDone.report (noItemPayload (f.payload.getD 0 0) (f.payload.getD 1 0)))
  | none => .next s

/-! ## REMOTE (R155, R178) -/

/-- Command codes (chapter 10, "LOST, QUERY and REMOTE"). -/
def commandRun : Byte := 1
def commandStop : Byte := 2
def commandClear : Byte := 3

/-- Results of a REMOTE (R155) and their codes (chapter 10, "REPORT"). -/
inductive RemoteResult where
  | taken | local | alarmListed | notNow
  deriving DecidableEq, Repr

def RemoteResult.code : RemoteResult → Byte
  | .taken => 1 | .local => 2 | .alarmListed => 3 | .notNow => 4

/-- The REMOTE whose handing on completes names the command. -/
def State.commanded (s : State) (command : Byte) : Bool :=
  match s.handed kindRemote with
  | some f => f.payload.getD 0 0 == command
  | none => false

/-- The command acts, then the REPORT of its result is queued (R178). -/
def State.remote (s : State) (command : Byte) (result : RemoteResult) (act : State → State) : State :=
  (if result = .taken then act s else s).report (resultPayload command result.code)

/-- The result of a REMOTE RUN (R155). -/
def State.runResult (s : State) : RemoteResult :=
  if s.localStrap then .local
  else match s.alarm.run with
    | .stopped => .taken
    | .alarm => .alarmListed
    | _ => .notNow

/-- The result of a REMOTE STOP (R155). -/
def State.stopResult (s : State) : RemoteResult :=
  if s.localStrap then .local else if s.alarm.run.stops then .taken else .notNow

/-- The result of a REMOTE CLEAR (R155). -/
def State.clearResult (s : State) : RemoteResult :=
  if s.localStrap then .local else if s.live then .taken else .notNow

/-- REMOTE_RUN (R178): TOP and BIN as they read at the event, as at RUN. -/
def execRemoteRun (top bin : Bool) (s : State) : Host.Outcome State Fault Refusal :=
  if s.commanded commandRun then
    let t := s.handDone.sample top bin
    s.finish (t.remote commandRun (if s.alarm.run = .stopped then t.runResult else s.runResult) State.pressRun)
  else .next s

/-- REMOTE_STOP (R178). -/
def execRemoteStop (s : State) : Host.Outcome State Fault Refusal :=
  if s.commanded commandStop then s.finish (s.handDone.remote commandStop s.stopResult State.pressStop) else .next s

/-- REMOTE_CLEAR (R178). -/
def execRemoteClear (s : State) : Host.Outcome State Fault Refusal :=
  if s.commanded commandClear then s.finish (s.handDone.remote commandClear s.clearResult State.pressClear) else .next s

/-- The command is one of the three. -/
def knownCommand (command : Byte) : Bool := within 1 3 command.toNat

/-- REMOTE_OTHER (R178): the command is none of the three; the answer is NOT_NOW. -/
def execRemoteOther (s : State) : Host.Outcome State Fault Refusal :=
  match s.handed kindRemote with
  | some f =>
    if knownCommand (f.payload.getD 0 0) then .next s
    else s.finish (s.handDone.report (resultPayload (f.payload.getD 0 0) RemoteResult.notNow.code))
  | none => .next s

end Sys2Proof.Machine
end

