-- ==== Sys2Proof/Machine/TableUnit.lean ====
section
/-! DEFINITION. The table unit (chapter 4): homing, moves and limits. -/

namespace Sys2Proof.Machine

/-- A raise of alarm 22 TABLE_LIMIT: its condition is active (R80). -/
def State.raiseLimit (s : State) (ordinal : Option Nat) : State :=
  s.raise { code := .tableLimit, serial := s.boardSerial, ordinal := ordinal, active := true }

/-- The drives that homing must run: those whose home sensor does not read active (R66). -/
def homeSeek (h : HomeLevels) : List Axis :=
  (if h.x then [] else [.x]) ++ (if h.y then [] else [.y]) ++ (if h.turret then [] else [.turret])
    ++ (if h.former then [] else [.former])

/-- A home sensor goes active. -/
def homeReach (h : HomeLevels) : Axis → HomeLevels
  | .x => { h with x := true } | .y => { h with y := true } | .turret => { h with turret := true }
  | .former => { h with former := true }

/-- HOMING_BEGIN (R65): with a limit active homing does not begin; otherwise the drives that are not home start, and
with all four home homing completes at once (R66). -/
def execHomingBegin (home : HomeLevels) (bin : Bool) (s : State) : Host.Outcome State Fault Refusal :=
  let t := s.modLines fun l => { l with home := home, bin := bin }
  if s.homingReady then
    if s.lines.onLimit then
      s.finish ((t.modTable fun x => { x with homingTimer := none }).raiseLimit none)
    else
      let u := t.modTable fun x => { x with activity := .homing, seeking := homeSeek home }
      s.finish (if homeSeek home = [] then u.homingDone else u)
  else s.finish t

/-- HOME_SENSOR (R66): its drive stops, and at the last one homing completes. -/
def execHomeSensor (axis : Axis) (bin : Bool) (s : State) : Host.Outcome State Fault Refusal :=
  let t := s.modLines fun l => { l with home := homeReach l.home axis, bin := bin }
  if s.table.activity = .homing then
    let left := s.table.seeking.filter fun a => a != axis
    let u := t.modTable fun x => { x with seeking := left }
    s.finish (if left = [] then u.homingDone else u)
  else s.finish t

/-- HOME_FAIL (R67): acts while the homing timer runs. -/
def execHomeFail (s : State) : Host.Outcome State Fault Refusal :=
  if s.table.homingTimer.isSome then
    s.finish <| (s.modTable fun x =>
      { x with homingTimer := none, seeking := [], homed := false,
               activity := if x.activity = .homing then .idle else x.activity }).raise
        { code := .homeFail, serial := s.boardSerial, ordinal := none, active := false }
  else .next s

/-- A limit sensor goes active. -/
def Lines.limit (l : Lines) : LimitAxis → Lines
  | .x => { l with xlim := true } | .y => { l with ylim := true }

/-- The entry ordinal a move serves (R79). -/
def Purpose.ordinal : Purpose → Option Nat
  | .insert _ k => some k
  | .mark _ => none

/-- After a MARK move that ended without arrival, the work-position unit asks for the same move again (R116). -/
def State.askAgain (s : State) (p : Purpose) : State :=
  match p, s.work.state, s.work.scan with
  | .mark _, .scanning, some g => s.modTable fun t => { t with markRequest := some g }
  | _, _, _ => s

/-- A limit edge as the table unit acts on it: in HOMING (R68), in MOVING (R79), and while IDLE, when only the condition
of a listed alarm 22 is reported active again (R80). -/
def State.hitLimit (s : State) : State :=
  match s.table.activity, s.table.slot with
  | .homing, _ =>
    (s.modTable fun x => { x with activity := .idle, homingTimer := none, seeking := [], homed := false }).raiseLimit none
  | .moving, some m =>
    ((s.modTable fun x => { x with activity := .idle, slot := none, homed := false }).raiseLimit m.purpose.ordinal).askAgain
      m.purpose
  | _, _ => s.reportCondition .tableLimit true

/-- TABLE_LIMIT (R79, R68, R80). In CONFIG_FAULT the unit does not act on the limit sensors (R83). -/
def execTableLimit (axis : LimitAxis) (s : State) : Host.Outcome State Fault Refusal :=
  let t := s.modLines fun l => l.limit axis
  s.finish (if s.live then t.hitLimit else t)

/-- LIMIT_INACTIVE (R80, R152): both sensors read inactive. -/
def execLimitInactive (s : State) : Host.Outcome State Fault Refusal :=
  s.finish ((s.modLines fun l => { l with xlim := false, ylim := false }).reportCondition .tableLimit false)

/-- The start of a move (R75). -/
def State.startMove (s : State) (p : Purpose) (goal : Target) : State :=
  s.modTable fun t =>
    { t with
      activity := .moving
      slot := some ⟨p, goal, driveTimes s.header t.commanded goal, turretUp t.commanded.turret goal.turret,
        planOf s.header (driveTimes s.header t.commanded goal), s.now⟩
      commanded := goal }

/-- A move that would start while a limit sensor reads active does not: the homed flag is cleared and alarm 22 raised
(R80). -/
def State.refuseMove (s : State) (ordinal : Option Nat) : State :=
  (s.modTable fun t => { t with homed := false }).raiseLimit ordinal

/-- R74 tried against the oldest entry as it is (R74, R80, R82). -/
def State.tryInsertMove (s : State) : State :=
  match s.insertMove with
  | none => s
  | some (e, goal) =>
    if s.lines.onLimit then s.refuseMove (some e.record.ordinal)
    else s.startMove (.insert e.record.lap e.record.ordinal) goal

/-- INSERT_MOVE_START (R74). -/
def execInsertMoveStart (s : State) : Host.Outcome State Fault Refusal :=
  match s.insertMove with
  | none => .next s
  | some _ => s.finish s.tryInsertMove

/-- The target of a MARK move: the mark point, with the commanded turret and span (R77). -/
def State.markTarget (s : State) (g : Nat) : Target :=
  let p := (markPointOf s.reader.rows g).getD (0, 0)
  ⟨p.1, p.2, s.table.commanded.turret, s.table.commanded.span⟩

/-- MARK_MOVE_START (R77); a plan of 0 reports the arrival at once (R78). -/
def execMarkMoveStart (mark : Bool) (s : State) : Host.Outcome State Fault Refusal :=
  let t := s.modLines fun l => { l with mark := mark }
  match s.markMove with
  | none => s.finish t
  | some g =>
    let taken := t.modTable fun x => { x with markRequest := none }
    if s.markTarget g = s.table.commanded then s.finish (taken.markArrival g mark).endIfQuiet
    else if s.lines.onLimit then s.finish (t.refuseMove none)
    else s.finish (taken.startMove (.mark g) (s.markTarget g))

/-- MOVE_COMPLETE (R76); at the completion R74 is tried again (R82). -/
def execMoveComplete (mark : Bool) (s : State) : Host.Outcome State Fault Refusal :=
  let t := s.modLines fun l => { l with mark := mark }
  match s.table.activity, s.table.slot with
  | .moving, some m =>
    let u := t.modTable fun x => { x with activity := .idle, slot := none }
    let v := match m.purpose with
      | .mark g => u.markArrival g mark
      | .insert _ _ => u
    s.finish v.tryInsertMove.endIfQuiet
  | _, _ => s.finish t

end Sys2Proof.Machine
end

