-- ==== Sys2Proof/Machine/Dispatch.lean ====
section
/-! DEFINITION. One arm per command of the opcode table, each one call of its meaning. -/

namespace Sys2Proof.Machine

def exec (i : Instr) (s : State) : Host.Outcome State Fault Refusal :=
  match i with
  | .reset => Sys2Proof.Machine.execReset s
  | .resetRelease addr role localStrap => Sys2Proof.Machine.execResetRelease addr role localStrap s
  | .pmemReadCompletion words => Sys2Proof.Machine.execPmemReadCompletion words s
  | .feedStart => Sys2Proof.Machine.execFeedStart s
  | .indexEvent pres => Sys2Proof.Machine.execIndexEvent pres s
  | .conversionCompletion code => Sys2Proof.Machine.execConversionCompletion code s
  | .passExecution => Sys2Proof.Machine.execPassExecution s
  | .tapeJam => Sys2Proof.Machine.execTapeJam s
  | .tapeBreak => Sys2Proof.Machine.execTapeBreak s
  | .tbrkInactive => Sys2Proof.Machine.execTbrkInactive s
  | .tapeLow => Sys2Proof.Machine.execTapeLow s
  | .tendInactive => Sys2Proof.Machine.execTendInactive s
  | .homingBegin home bin => Sys2Proof.Machine.execHomingBegin home bin s
  | .homeSensor axis bin => Sys2Proof.Machine.execHomeSensor axis bin s
  | .homeFail => Sys2Proof.Machine.execHomeFail s
  | .tableLimit axis => Sys2Proof.Machine.execTableLimit axis s
  | .limitInactive => Sys2Proof.Machine.execLimitInactive s
  | .insertMoveStart => Sys2Proof.Machine.execInsertMoveStart s
  | .markMoveStart mark => Sys2Proof.Machine.execMarkMoveStart mark s
  | .moveComplete mark => Sys2Proof.Machine.execMoveComplete mark s
  | .strokeStart => Sys2Proof.Machine.execStrokeStart s
  | .bottomEdge => Sys2Proof.Machine.execBottomEdge s
  | .clinchDoneEdge cla clb => Sys2Proof.Machine.execClinchDoneEdge cla clb s
  | .confirmSample cla clb => Sys2Proof.Machine.execConfirmSample cla clb s
  | .topEdge => Sys2Proof.Machine.execTopEdge s
  | .headJam => Sys2Proof.Machine.execHeadJam s
  | .headDrop => Sys2Proof.Machine.execHeadDrop s
  | .conveyorInStart => Sys2Proof.Machine.execConveyorInStart s
  | .bwkActive => Sys2Proof.Machine.execBwkActive s
  | .matchTimeout => Sys2Proof.Machine.execMatchTimeout s
  | .clampStart => Sys2Proof.Machine.execClampStart s
  | .clampedActive => Sys2Proof.Machine.execClampedActive s
  | .clampedInactive => Sys2Proof.Machine.execClampedInactive s
  | .lineEndRelease => Sys2Proof.Machine.execLineEndRelease s
  | .conveyorOutStart => Sys2Proof.Machine.execConveyorOutStart s
  | .boutActive => Sys2Proof.Machine.execBoutActive s
  | .boutInactive bin => Sys2Proof.Machine.execBoutInactive bin s
  | .operationTimeout => Sys2Proof.Machine.execOperationTimeout s
  | .releaseGrant => Sys2Proof.Machine.execReleaseGrant s
  | .travellerExpiry serial => Sys2Proof.Machine.execTravellerExpiry serial s
  | .handoffTimeout => Sys2Proof.Machine.execHandoffTimeout s
  | .run top bin => Sys2Proof.Machine.execRun top bin s
  | .stop => Sys2Proof.Machine.execStop s
  | .clear => Sys2Proof.Machine.execClear s
  | .step levels => Sys2Proof.Machine.execStep levels s
  | .purge => Sys2Proof.Machine.execPurge s
  | .stoplineAsserted => Sys2Proof.Machine.execStoplineAsserted s
  | .stoplineReleased bin => Sys2Proof.Machine.execStoplineReleased bin s
  | .windowEnd => Sys2Proof.Machine.execWindowEnd s
  | .lampFlash => Sys2Proof.Machine.execLampFlash s
  | .frameBroken ch => Sys2Proof.Machine.execFrameBroken ch s
  | .gapAbandon => Sys2Proof.Machine.execGapAbandon s
  | .frameReceived ch => Sys2Proof.Machine.execFrameReceived ch s
  | .handingOnStart => Sys2Proof.Machine.execHandingOnStart s
  | .statusReceive => Sys2Proof.Machine.execStatusReceive s
  | .travellerReceive => Sys2Proof.Machine.execTravellerReceive s
  | .lostReceive => Sys2Proof.Machine.execLostReceive s
  | .queryStation => Sys2Proof.Machine.execQueryStation s
  | .queryBoard => Sys2Proof.Machine.execQueryBoard s
  | .queryQueue => Sys2Proof.Machine.execQueryQueue s
  | .queryAlarms => Sys2Proof.Machine.execQueryAlarms s
  | .queryMonitors => Sys2Proof.Machine.execQueryMonitors s
  | .queryPeers => Sys2Proof.Machine.execQueryPeers s
  | .queryNoItem => Sys2Proof.Machine.execQueryNoItem s
  | .remoteRun top bin => Sys2Proof.Machine.execRemoteRun top bin s
  | .remoteStop => Sys2Proof.Machine.execRemoteStop s
  | .remoteClear => Sys2Proof.Machine.execRemoteClear s
  | .remoteOther => Sys2Proof.Machine.execRemoteOther s
  | .peerStale addr => Sys2Proof.Machine.execPeerStale addr s
  | .statusTimerExpiry => Sys2Proof.Machine.execStatusTimerExpiry s
  | .frameSendStart idle => Sys2Proof.Machine.execFrameSendStart idle s
  | .arbitrationLost => Sys2Proof.Machine.execArbitrationLost s
  | .collision => Sys2Proof.Machine.execCollision s
  | .frameSent => Sys2Proof.Machine.execFrameSent s
  | .validStart => Sys2Proof.Machine.execValidStart s
  | .goodCharacter ch => Sys2Proof.Machine.execGoodCharacter ch s
  | .bwkInactive bin => Sys2Proof.Machine.execBwkInactive bin s

end Sys2Proof.Machine
end

