-- ==== Sys2Proof/Machine/Time.lean ====
section
/-! DEFINITION. What the station does by itself when no command waits (log entries 3 and 20): the row whose event has
come about, in a fixed order, or else one ms of time. -/

namespace Sys2Proof.Machine

/-- The first of the alternatives that holds. -/
def firstDue : List (Bool × Instr) → Option Instr
  | [] => none
  | (d, c) :: rest => if d then some c else firstDue rest

/-- The rows that start work when their conditions hold, with the lines as last read. -/
def State.starts (s : State) : List (Bool × Instr) :=
  [(s.passReady, .passExecution), (s.feedReady, .feedStart),
   (s.homingReady, .homingBegin s.lines.home s.lines.bin),
   (s.insertMove.isSome, .insertMoveStart), (s.markMove.isSome, .markMoveStart s.lines.mark),
   (s.strokeEntry.isSome, .strokeStart), (s.conveyorInReady, .conveyorInStart), (s.opReady .clamp, .clampStart),
   (s.opReady .conveyorOut, .conveyorOutStart), (s.grantable.isSome, .releaseGrant),
   (s.handingReady, .handingOnStart), (s.sendReady s.link.idle, .frameSendStart s.link.idle)]

/-- The move in flight has run its plan (R76). -/
def State.planOver (s : State) : Bool :=
  match s.table.slot with
  | some m => decide (m.plan ≤ s.now - m.startedAt) && s.table.activity == .moving
  | none => false

/-- The serial of the first traveller whose expiry timer has run out (R132). -/
def State.expiredSerial (s : State) : Option Serial :=
  (s.trav.arrivals.find? fun a => a.left == 0).map fun a => a.traveller.serial

/-- The rows of timers that have run out, and of the idle count past the gap limit. -/
def State.expiries (s : State) : List (Bool × Instr) :=
  [(s.tape.feeding && s.tape.timer == some 0, .tapeJam), (s.table.homingTimer == some 0, .homeFail),
   ((s.head.phase.guarded || s.head.phase == .returning) && s.head.timer == some 0, .headJam),
   (s.work.driving && s.work.opTimer == some 0, .operationTimeout),
   (s.work.state == .matching && s.work.matchTimer == some 0, .matchTimeout),
   (s.expiredSerial.isSome, .travellerExpiry (s.expiredSerial.getD 0)),
   (s.trav.phase == .timing && s.trav.timer == some 0, .handoffTimeout),
   (s.alarm.windowTimer == some 0, .windowEnd), (s.alarm.flashLeft == 0, .lampFlash),
   (s.link.statusTimer == some 0, .statusTimerExpiry), (s.planOver, .moveComplete s.lines.mark),
   (s.head.phase == .sense && s.head.first.isSome && s.head.confirm == some 0,
    .confirmSample s.lines.cla s.lines.clb),
   (decide (Config.gapLimit < s.link.idle) && s.link.assembly != .between && !s.link.inCharacter, .gapAbandon)]

/-- The row whose event has come about, if there is one. -/
def State.dueCommand (s : State) : Option Instr := firstDue (s.starts ++ s.expiries)

/-- A timer one ms on. -/
def tickTimer (t : Option Nat) : Option Nat := t.map (· - 1)

/-- A peer entry one ms older (R176). -/
def Peer.older (p : Peer) : Peer := { p with age := bump p.age }

/-- The idle count after one ms of high line: 2304 parts in a bit time of 10·(divisor + 1) parts (R164, R165). The line
counts as high as it was last reported, so the count stands at 0 after a stop bit that read 0, and after a character
dropped at the rate change or at RESET while its line was low (DESIGN CHOICE, log entry 8). -/
def Link.idleTick (l : Link) (lineHigh : Bool) : Link :=
  if l.inCharacter = false ∧ l.sending = none ∧ lineHigh = true then
    { l with idle := l.idle + (l.idlePart + 2304) / (10 * (l.divisor + 1))
             idlePart := (l.idlePart + 2304) % (10 * (l.divisor + 1)) }
  else l

/-- One ms passes: every running timer has one ms less left, every age is one ms more. -/
def State.passTime (s : State) : State :=
  s.settle
    { s with
      now := s.now + 1
      verifier := { s.verifier with conversion := s.verifier.conversion.map fun c => { c with left := c.left - 1 } }
      tape := { s.tape with timer := tickTimer s.tape.timer }
      table := { s.table with homingTimer := tickTimer s.table.homingTimer }
      head := { s.head with timer := tickTimer s.head.timer, confirm := tickTimer s.head.confirm }
      work := { s.work with opTimer := tickTimer s.work.opTimer, matchTimer := tickTimer s.work.matchTimer }
      trav := { s.trav with
        timer := tickTimer s.trav.timer, arrivals := s.trav.arrivals.map fun a => { a with left := a.left - 1 } }
      alarm := { s.alarm with windowTimer := tickTimer s.alarm.windowTimer, flashLeft := s.alarm.flashLeft - 1 }
      link := { s.link.idleTick s.lines.link with
        statusTimer := tickTimer s.link.statusTimer, peers := s.link.peers.map Peer.older } }

end Sys2Proof.Machine
end

