-- ==== Sys2Proof/Machine/Step.lean ====
section
/-! DEFINITION. One step of the station. -/

namespace Sys2Proof.Machine

/-- Take the command at the front of the queue and run it with the queue's rest. With no command waiting, run the row
whose event has come about, or let one ms pass; under RESET nothing goes on (log entry 3). -/
def step (s : State) : Host.Outcome State Fault Refusal :=
  match s.pending with
  | c :: rest => exec c { s with pending := rest }
  | [] =>
    if s.released then
      match s.dueCommand with
      | some c => exec c s
      | none => .next s.passTime
    else .next s

/-- The command that a word spells, put at the front of the queue; no word spells one, so `s` unchanged. -/
def State.withFetchWord (s : State) (nbits w : Nat) : State :=
  match decodeTableWord nbits w with
  | some c => { s with pending := c :: s.pending }
  | none => s

end Sys2Proof.Machine
end

