-- ==== Sys2Proof/Safety.lean ====
section
/-! DEFINITION. The terms that claims about the station use: which parts a command leaves as they were, the run-state
condition of every start, and the invariants that every step keeps. -/

namespace Sys2Proof.Machine

/-- The parts of the station that a frame speaks of. -/
inductive Part where
  | lines | reader | verifier | tape | table | head | work | trav | alarm | link
  deriving DecidableEq, Repr

/-- The link unit but for its status slot, which any announced change makes DUE (R174). -/
def Link.butSlot (l : Link) : Link := { l with due := false, again := false }

/-- The head unit of `s` after an event that leaves it alone and comes to run state `r`: the last cycle start becomes none
when RUNNING is left (R100). -/
def State.headAfter (s : State) (r : RunState) : Head :=
  if s.alarm.run = .running ∧ r ≠ .running then { s.head with lastCycle := none } else s.head

/-- From `s` to `t`, nothing has changed but the named parts: the commands that wait, the clock, the header values and
every other part are as before, the link unit but for its status slot, the head unit but for what a change of run state
does to it (`State.headAfter`). The output lines follow from the rest (`State.OutputsRight`). -/
def State.KeepsBut (s t : State) (ps : List Part) : Prop :=
  t.pending = s.pending ∧ t.now = s.now ∧ t.hdr = s.hdr ∧
  (.lines ∈ ps ∨ t.lines = s.lines) ∧ (.reader ∈ ps ∨ t.reader = s.reader) ∧
  (.verifier ∈ ps ∨ t.verifier = s.verifier) ∧ (.tape ∈ ps ∨ t.tape = s.tape) ∧
  (.table ∈ ps ∨ t.table = s.table) ∧ (.head ∈ ps ∨ t.head = s.headAfter t.alarm.run) ∧ (.work ∈ ps ∨ t.work = s.work) ∧
  (.trav ∈ ps ∨ t.trav = s.trav) ∧ (.alarm ∈ ps ∨ t.alarm = s.alarm) ∧
  (.link ∈ ps ∨ t.link.butSlot = s.link.butSlot)

/-- The run state lets work start: RUNNING, or STEPPING with the STEP's one execution not yet used (R143). -/
def State.MayStart (s : State) : Prop :=
  s.alarm.run = .running ∨ (s.alarm.run = .stepping ∧ s.alarm.stepUsed = false)

/-- The drive of an axis runs: homing still seeks its home sensor, or the move in flight is younger than the drive's own
time (R66, R73). -/
def State.Driven (s : State) (axis : Axis) (time : DriveTimes → Nat) : Prop :=
  (s.table.activity = .homing ∧ axis ∈ s.table.seeking) ∨
    (s.table.activity = .moving ∧ ∃ m, s.table.slot = some m ∧ s.now - m.startedAt < time m.times)

/-- A peer at the address holds the line: heard, no older than 3 status periods, with the stop-drive flag in byte 5 of its
last STATUS (R160, R182). -/
def State.HeldBy (s : State) (a : Nat) : Prop :=
  1 ≤ a ∧ ∃ p, s.link.peers[a - 1]? = some p ∧ p.heard = true ∧ p.age ≤ 3 * s.link.period ∧ p.bytes.getD 5 0 ≠ 0

/-- What the display shows: the first that applies (R160). -/
def State.DisplayRight (s : State) : Prop :=
  (s.alarm.run = .configFault → s.out.display = .config s.reader.reason) ∧
  (s.alarm.run ≠ .configFault →
    (∀ e ∈ s.alarm.list, (∀ f ∈ s.alarm.list, e.code.code ≤ f.code.code) → s.out.display = .alarm e.code) ∧
    (s.alarm.list = [] →
      (s.alarm.run = .holding →
        (∀ a, s.HeldBy a → (∀ b, s.HeldBy b → a ≤ b) → s.out.display = .held a) ∧
        ((∀ a, ¬s.HeldBy a) → s.out.display = .heldUnknown)) ∧
      (s.alarm.run ≠ .holding → s.out.display = if s.alarm.rowHold then .rowHold else .blank)))

/-- The output lines are those that the rules give for the rest of the state: the drives, the entry state (R107), the stop
output and the stop-line drive (R158), the lamps (R159; a flashing lamp follows the half of the flash period) and the
display (R160). -/
def State.OutputsRight (s : State) : Prop :=
  s.out.feed = s.tape.feeding ∧
  (s.out.xdrv = true ↔ s.Driven .x DriveTimes.x) ∧ (s.out.ydrv = true ↔ s.Driven .y DriveTimes.y) ∧
  (s.out.turretDrv = true ↔ s.Driven .turret DriveTimes.turret) ∧
  (s.out.formerDrv = true ↔ s.Driven .former DriveTimes.former) ∧
  (s.out.entry = .free ↔
    s.work.state = .empty ∧ s.lines.bin = false ∧ s.lines.bwk = false ∧ s.alarm.run = .running) ∧
  (s.out.stopOut = true ↔ ∃ e ∈ s.alarm.list, e.stop = true) ∧
  (s.out.stopDrive = true ↔ s.alarm.run = .alarm ∧ s.options.stopline = true) ∧
  s.out.lampRun = (if s.alarm.run ∈ [.homing, .running, .stepping] then true
    else if s.alarm.run = .holding then s.alarm.flashLit else false) ∧
  s.out.lampStop = (if s.alarm.run = .stopped then true
    else if s.alarm.run = .stopping then s.alarm.flashLit else false) ∧
  s.out.lampAlarm = (if s.alarm.run = .configFault then decide (s.reader.reason ≠ .c00)
    else if s.alarm.run = .alarm then true
    else if s.alarm.list = [] then false else s.alarm.flashLit) ∧
  s.DisplayRight

/-- The conditions of a feed start (R42). -/
def State.CanFeed (s : State) : Prop :=
  s.MayStart ∧ s.tape.fault = .none ∧ s.tape.feeding = false ∧ s.head.phase = .top ∧
    (∀ e, s.tape.queue.getLast? = some e → e.verdict ≠ .pending) ∧ s.reader.buffer ≠ [] ∧
    s.tape.queue.length < s.header.depth

/-- The decision is one of PASS_BAD, PASS_MISS and PASS_FLUSH. -/
def Decision.IsPass (d : Decision) : Prop := d = .passBad ∨ (∃ r, d = .passMiss r) ∨ d = .passFlush

/-- The conditions of a pass of the entry (R49). -/
def State.CanPass (s : State) (e : Entry) : Prop :=
  s.tape.queue.head? = some e ∧ (∃ d, e.decision = some d ∧ d.IsPass) ∧ s.tape.queue.length = s.header.depth ∧
    s.tape.feeding = false ∧ s.head.phase = .top ∧ s.MayStart

/-- After a removal from `s` to `t` the feed of R51 step 3 has started where its conditions hold, and none is left to start:
said where no feed was in flight. -/
def State.FeedFollows (s t : State) : Prop :=
  (t.tape.feeding = true ∧ t.tape.timer = some s.header.feedTimeout ∧ t.tape.startedAt = s.now ∧
      { t with tape := { t.tape with feeding := false } }.CanFeed) ∨
    (t.tape.feeding = false ∧ t.tape.timer = s.tape.timer ∧ t.tape.startedAt = s.tape.startedAt ∧ ¬t.CanFeed)

/-- What of a tape-queue entry no bookkeeping changes. -/
def Entry.held (e : Entry) : Record × Verdict × List Nat × Bool := (e.record, e.verdict, e.codes, e.attempted)

/-- The conditions of a decision on the entry, where it is the oldest (R46). -/
def State.CanDecide (s : State) (e : Entry) : Prop :=
  e.decision = none ∧ e.verdict ≠ .pending ∧ e.attempted = false ∧
    (s.tape.flush = some e.record.lap ∨
      ∃ b, s.work.state = .working ∧ s.work.board = some b ∧ b.lap = some e.record.lap ∧
        (e.record.rowFirst = true → (s.reader.rows.getD e.record.row default).entry.rowHold = true →
          b.holds.getLsbD e.record.row = true))

/-- The lines of the decision table below the flush (R47): image marked bad, PASS, UNCHECKED without STRICT, REVERSED with
POLARITY, any other verdict. -/
def Entry.TableGives (e : Entry) (o : Options) (mask : Mask) (d : Decision) : Prop :=
  (mask.getLsbD e.record.image = true → d = .passBad) ∧
  (mask.getLsbD e.record.image = false →
    (e.verdict = .pass → d = .insert) ∧
    (e.verdict = .unchecked → o.strict = false → d = .insert) ∧
    (e.verdict = .reversed → o.polarity = true → d = .insertCorrected) ∧
    (e.verdict ≠ .pass → (e.verdict = .unchecked → o.strict = true) → (e.verdict = .reversed → o.polarity = false) →
      ∃ r, d = .passMiss r ∧ r.code = e.verdict.code))

/-- In `t` the entry may be decided (R46) and the decision is the one that R47 gives it. -/
def State.DecisionFits (t : State) (e : Entry) (d : Decision) : Prop :=
  e.verdict ≠ .pending ∧ (t.tape.flush = some e.record.lap → d = .passFlush) ∧
  (t.tape.flush ≠ some e.record.lap → ∃ b, t.work.state = .working ∧ t.work.board = some b ∧
    b.lap = some e.record.lap ∧
    (e.record.rowFirst = true → (t.reader.rows.getD e.record.row default).entry.rowHold = true →
      b.holds.getLsbD e.record.row = true) ∧
    e.TableGives t.options b.mask d)

/-- From `s` to `t` the oldest entry has a decision that it had before, or the one that R46 and R47 give it, or none. -/
def State.DecidedIn (s t : State) : Prop :=
  ∀ e d, t.tape.queue.head? = some e → e.decision = some d →
    (∃ e' ∈ s.tape.queue, e'.record = e.record ∧ e'.decision = some d) ∨ t.DecisionFits e d

/-- The tape lets a READY board start: the oldest entry is ordinal 0 and no flush is armed (R117). -/
def State.TapeLetsStart (s : State) : Prop := ∃ e, s.tape.queue.head? = some e ∧ e.record.ordinal = 0 ∧ s.tape.flush = none

/-- A board has started work in `t` (R117): WORKING on the lap of the oldest entry, M2's value 0 and no last cycle
start. -/
def State.BoardStarted (t : State) : Prop :=
  ∃ b e, t.work.state = .working ∧ t.work.board = some b ∧ t.tape.queue.head? = some e ∧ e.record.ordinal = 0 ∧
    t.tape.flush = none ∧ b.lap = some e.record.lap ∧ t.alarm.m2.value = 0 ∧ t.head.lastCycle = none

/-- From `s` to `t` a board has become READY, and has started work at once where the tape of `s` lets it (R115, R117). -/
def State.ReadyOrStarted (s t : State) : Prop :=
  (s.TapeLetsStart ∧ s.work.board.isSome = true → t.BoardStarted) ∧
    (¬(s.TapeLetsStart ∧ s.work.board.isSome = true) → t.work.state = .ready)

/-- The row hold is to be taken for the entry of the board (R118). -/
def State.HoldDue (s : State) (e : Entry) (b : Board) : Prop :=
  s.work.state = .working ∧ s.work.board = some b ∧ s.tape.queue.head? = some e ∧ b.lap = some e.record.lap ∧
    e.record.rowFirst = true ∧ (s.reader.rows.getD e.record.row default).entry.rowHold = true ∧
    b.holds.getLsbD e.record.row = false ∧ e.verdict ≠ .pending ∧ e.decision = none ∧ e.attempted = false ∧
    s.tape.flush ≠ some e.record.lap ∧ s.MayStart

/-- The row hold has been taken in `t` for the oldest entry, on the WORKING board of its lap that had the holds `before`
(R118, R149): the hold reason is ROW, and the run state is STOPPING or already STOPPED. -/
def State.HoldTaken (t : State) (before : BitVec 8) : Prop :=
  ∃ b e, t.work.state = .working ∧ t.work.board = some b ∧ t.tape.queue.head? = some e ∧ b.lap = some e.record.lap ∧
    e.record.rowFirst = true ∧ (t.reader.rows.getD e.record.row default).entry.rowHold = true ∧
    b.holds = before ||| BitVec.ofNat 8 (2 ^ e.record.row) ∧ t.alarm.rowHold = true ∧
    (t.alarm.run = .stopping ∨ t.alarm.run = .stopped)

/-- An alarm-list entry of the code, its condition reported active or not (R152). -/
def AlarmEntry.withPersists (c : AlarmCode) (active : Bool) (e : AlarmEntry) : AlarmEntry :=
  if e.code = c then { e with persists := active } else e

/-- The conditions of the beginning of homing (R65). -/
def State.CanHome (s : State) : Prop :=
  s.table.homingTimer ≠ none ∧ s.table.activity = .idle ∧ s.head.phase = .top

/-- The conditions of an INSERT move of the entry to its target set (R74). -/
def State.CanMove (s : State) (e : Entry) (goal : Target) : Prop :=
  s.MayStart ∧ s.table.homed = true ∧ s.table.activity = .idle ∧ s.tape.queue.head? = some e ∧ e.target = some goal ∧
    e.attempted = false ∧ goal ≠ s.table.commanded ∧ s.head.phase = .top

/-- The conditions of the MARK move to an image (R77). -/
def State.CanMarkMove (s : State) (g : Nat) : Prop :=
  s.MayStart ∧ s.table.homed = true ∧ s.table.activity = .idle ∧ s.head.phase = .top ∧ s.table.markRequest = some g

/-- The station with no move in flight. -/
def State.freeTable (s : State) : State := { s with table := { s.table with activity := .idle, slot := none } }

/-- The table unit right after a move has started (R75). -/
def Table.moved (t : Table) (h : Header) (now : Nat) (p : Purpose) (goal : Target) : Table :=
  { t with
    activity := .moving
    slot := some ⟨p, goal, driveTimes h t.commanded goal, turretUp t.commanded.turret goal.turret,
      planOf h (driveTimes h t.commanded goal), now⟩
    commanded := goal }

/-- A move-time table that does not fall and starts at 1 or more, and rates of 1 or more (R3, R69 to R72). -/
def Header.MovesFit (h : Header) : Prop :=
  h.times.length = 32 ∧ (∀ i j, i ≤ j → j < 32 → h.times.getD i 0 ≤ h.times.getD j 0) ∧ 1 ≤ h.times.getD 0 0 ∧
    1 ≤ h.vEnd ∧ 1 ≤ h.tq ∧ 1 ≤ h.fs

/-- The image is to be visited by a mark scan: its row flags it and the bad mask does not hold it (R115). -/
def MarkImage (rows : List Row) (mask : Mask) (g : Nat) : Prop :=
  g < imageTotal rows ∧ mask.getLsbD g = false ∧ ∃ r, rowOfImage rows g = some r ∧ r.entry.markCheck = true

/-- MARK is sampled at image `g` (R116): for the scan cursor's image of a SCANNING board it joins the bad mask when MARK
reads active, and the scan goes to the next image or ends (R115). -/
def State.SawMark (s t : State) (g : Nat) (mark : Bool) : Prop :=
  ∀ b, s.work.board = some b → s.work.state = .scanning → s.work.scan = some g →
    ∃ b', t.work.board = some b' ∧
      b'.mask = (if mark then b.mask ||| BitVec.ofNat 32 (2 ^ g) else b.mask) ∧
      (∀ n, nextMarkImage s.reader.rows b'.mask (g + 1) = some n →
        t.work.state = .scanning ∧ t.work.scan = some n ∧ t.table.markRequest = some n) ∧
      (nextMarkImage s.reader.rows b'.mask (g + 1) = none →
        t.work.scan = none ∧ s.ReadyOrStarted t) ∧
      (s.alarm.run = .stepping → t.alarm.stepUsed = true)

/-- The cycle gate (R87) is open for the entry. -/
def State.GateOpen (s : State) (e : Entry) : Prop :=
  s.MayStart ∧ s.head.phase = .top ∧ s.tape.queue.head? = some e ∧ e.attempted = false ∧
    s.tape.queue.length = s.header.depth ∧ s.tape.feeding = false ∧ s.table.activity = .idle ∧ s.table.homed = true ∧
    e.target = some s.table.commanded ∧
    ∃ b, s.work.state = .working ∧ s.work.board = some b ∧ s.work.clamped = true ∧ b.lap = some e.record.lap

/-- The counts and the missed list of a board after an outcome at an ordinal, or after none (R119). -/
def Board.CountsAs (b c : Board) (k : Nat) (o : Option StepOutcome) : Prop :=
  c.serial = b.serial ∧ c.mask = b.mask ∧
  c.inserted = (if o = some .inserted then b.inserted + 1 else b.inserted) ∧
  c.passed = (if o = some .passed then b.passed + 1 else b.passed) ∧
  (∀ r, o = some (.missed r) → c.missed = b.missed + 1 ∧
    (if b.missList.length < 8 then c.missList = b.missList ++ [(k, r)] ∧ c.overflow = b.overflow
     else c.missList = b.missList ∧ c.overflow = b.overflow + 1)) ∧
  ((∀ r, o ≠ some (.missed r)) → c.missed = b.missed ∧ c.missList = b.missList ∧ c.overflow = b.overflow)

/-- From `s` to `t` the outcome of ordinal `k` of a lap, or none, is handed to the work-position unit (R119): a WORKING
board of the lap takes it, and at the panel's last ordinal is DONE with its own stage and, at REJECT_MISSES, its reject
flag (R120); any other board's counts stay as they are. -/
def State.Counts (s t : State) (lap : Lap) (k : Nat) (o : Option StepOutcome) : Prop :=
  ∀ b, s.work.board = some b → ∃ c, t.work.board = some c ∧
    (s.work.state = .working ∧ b.lap = some lap →
      b.CountsAs c k o ∧ c.lap = b.lap ∧
      (o ≠ none → k + 1 = panelSteps s.reader.rows → t.work.state = .done ∧
        c.ownStage = some ⟨s.ownAddr.getD 0, c.inserted, c.missed, c.missList⟩ ∧
        c.reject = if b.reject = none ∧ 0 < s.header.rejectMisses ∧ s.header.rejectMisses ≤ c.missed then some .misses
          else b.reject) ∧
      (o = none ∨ k + 1 ≠ panelSteps s.reader.rows →
        t.work.state = .working ∧ c.ownStage = b.ownStage ∧ c.reject = b.reject)) ∧
    (¬(s.work.state = .working ∧ b.lap = some lap) → b.CountsAs c k none)

/-- The missed count that a miss of the lap brings the WORKING board to; none where no board takes it (R119). -/
def State.missesAfter (s : State) (lap : Lap) : Option Nat :=
  match s.work.board with
  | some b => if s.work.state = .working ∧ b.lap = some lap then some (b.missed + 1) else none
  | none => none

/-- From `s` to `t` monitor M2 has been evaluated with the missed count after a miss that the WORKING board takes, and the
list is as that leaves it (R119); with no miss taken the list is as before. -/
def State.MissEvaluated (s t : State) (lap : Lap) (o : Option StepOutcome) : Prop :=
  (∀ r n, o = some (.missed r) → s.missesAfter lap = some n →
    t.alarm.m2 = (s.evaluate .m2 n).alarm.m2 ∧ t.alarm.list = (s.evaluate .m2 n).alarm.list ∧
    t.alarm.more = (s.evaluate .m2 n).alarm.more) ∧
  ((∀ r, o ≠ some (.missed r)) ∨ s.missesAfter lap = none →
    t.alarm.list = s.alarm.list ∧ t.alarm.more = s.alarm.more)

/-- The alarm list and MORE that a completed stroke on the entry leaves (R92 to R94, log entry 12): M4 with the stroke time,
then M2 with the miss that a board takes, then alarm 34, with the serial of a board still WORKING. -/
def State.StrokeAlarms (s t : State) (e : Entry) (found : Bool) (time : Nat) : Prop :=
  ∀ a b : State, a = s.evaluate .m4 time →
    b = (match found, e.target, s.missesAfter e.record.lap with
      | false, some _, some n => a.evaluate .m2 n
      | _, _, _ => a) →
    (found = true → t.alarm.list = a.alarm.list ∧ t.alarm.more = a.alarm.more) ∧
    (found = false → ∀ serial,
      serial = (if s.work.state = .working ∧ ¬(e.target ≠ none ∧ s.missesAfter e.record.lap ≠ none ∧
        e.record.ordinal + 1 = panelSteps s.reader.rows) then s.boardSerial else none) →
      t.alarm.list = (b.raise ⟨.leadMiss, serial, some e.record.ordinal, false⟩).alarm.list ∧
      t.alarm.more = (b.raise ⟨.leadMiss, serial, some e.record.ordinal, false⟩).alarm.more)

/-- The operation of a kind is DRIVING or STALLED, so that its sensor completes it (R108). -/
def State.Under (s : State) (k : OpKind) : Prop := s.work.op = some (k, .driving) ∨ s.work.op = some (k, .stalled)

/-- CLAMP completes from `s` to `t` (R114): the flag is set and the drive is on; with MARK_SCAN the scan visits its first
image (R115); with none to visit the board is READY, and starts work where the tape lets it (R117). -/
def State.ClampCloses (s t : State) : Prop :=
  t.work.clamped = true ∧ t.work.clampOn = true ∧ t.work.op = none ∧ t.work.opTimer = none ∧
    (∀ n, s.options.markScan = true → nextMarkImage s.reader.rows ((s.work.board.map Board.mask).getD 0) 0 = some n →
      t.work.state = .scanning ∧ t.work.scan = some n ∧ t.table.markRequest = some n) ∧
    (s.options.markScan = false ∨
        nextMarkImage s.reader.rows ((s.work.board.map Board.mask).getD 0) 0 = none →
      s.ReadyOrStarted t ∧ t.table = s.table)

/-- A board record is made from `s` to `t` (R111, R112), with empty counts, and takes its way (R113): bypassed to DONE, or
to CLAMPING, where CLAMP is DRIVING when the run state lets work start and waits otherwise. -/
def State.BoardMade (s t : State) (serial : Serial) (mask : Mask) (reject : Option RejectReason) (stages : List Stage)
    (dropped : Nat) : Prop :=
  ∃ b, t.work.board = some b ∧ b.serial = serial ∧ b.mask = mask ∧ b.reject = reject ∧ b.stages = stages ∧
    b.dropped = dropped ∧ b.inserted = 0 ∧ b.missed = 0 ∧ b.passed = 0 ∧ b.missList = [] ∧ b.overflow = 0 ∧
    b.ownStage = none ∧ t.work.matchTimer = none ∧
    (reject ≠ none → s.options.bypass = true → t.work.state = .done ∧ t.work.op = none ∧ b.lap = none) ∧
    (reject = none ∨ s.options.bypass = false →
      (¬s.MayStart → t.work.state = .clamping ∧ t.work.op = some (.clamp, .waiting)) ∧
      (s.MayStart → s.lines.clamped = false → t.work.state = .clamping ∧ t.work.op = some (.clamp, .driving) ∧
        t.work.clampOn = true ∧ t.work.opTimer = some s.header.clampTimeout) ∧
      (s.MayStart → s.lines.clamped = true → t.work.clamped = true ∧ t.work.clampOn = true ∧ t.work.op = none))

/-- CONVEYOR_OUT is DRIVING in `t`, the board at the work position as in `s` (R108, R121). -/
def State.OutDriving (s t : State) : Prop :=
  t.work.op = some (.conveyorOut, .driving) ∧ t.work.convOut = true ∧ t.work.opTimer = some s.header.outTimeout ∧
    t.work.board = s.work.board

/-- The board has left from `s` to `t` (R121): no record, EMPTY; not at the line end, a hand-off in SENT is timed (R136). -/
def State.BoardGone (s t : State) : Prop :=
  t.work.convOut = false ∧ t.work.op = none ∧ t.work.opTimer = none ∧ t.work.board = none ∧ t.work.state = .empty ∧
    (s.role ≠ .lineEnd ∧ s.trav.phase = .sent →
      t.trav = { s.trav with phase := .timing, timer := some (1000 * s.header.handoffTimeout) }) ∧
    (¬(s.role ≠ .lineEnd ∧ s.trav.phase = .sent) → t.trav = s.trav)

/-- A DONE board is released from `s` to `t` (R121): UNCLAMP when it is clamped or the CLAMP drive is on, and CONVEYOR_OUT
when it is not or CLAMPED already reads inactive. -/
def State.Released (s t : State) : Prop :=
  t.work.state = .releasing ∧ t.work.board = s.work.board ∧
    (s.work.clamped = true ∨ s.work.clampOn = true →
      t.work.clamped = false ∧ t.work.clampOn = false ∧
      (s.lines.clamped = true → t.work.op = some (.unclamp, .driving) ∧
        t.work.opTimer = some s.header.clampTimeout ∧ t.work.exitSeen = false) ∧
      (s.lines.clamped = false → s.OutDriving t ∧ t.work.exitSeen = s.lines.bout)) ∧
    (s.work.clamped = false ∧ s.work.clampOn = false → s.OutDriving t ∧ t.work.exitSeen = s.lines.bout)

/-- The conditions of a release grant for the board, with the downstream STATUS fields last heard (R135). -/
def State.CanGrant (s : State) (b : Board) (v : StatusView) : Prop :=
  s.MayStart ∧ s.role ≠ .lineEnd ∧ s.work.state = .done ∧ s.work.board = some b ∧ s.freshDown = some v ∧ v.free = true ∧
    (∀ r, s.trav.release = some r → r.2 ≠ v.accept) ∧ s.link.tx.length < 4

/-- The oldest frame of the receive queue has been handed on, and the next is handed on where one waits (R175). -/
def State.HandedOn (s t : State) (rest : List Frame) : Prop :=
  t.link.butSlot = { s.link with rx := rest, handing := !rest.isEmpty }.butSlot

/-- With TOP as given no recovery return that ends at the event removes an entry: where TOP reads active and the head is in
one of the phases `ps`, the oldest entry does not carry the attempted mark (R96, R97). -/
def State.NoneRemoved (s : State) (top : Bool) (ps : List HeadPhase) : Prop :=
  top = true → s.head.phase ∈ ps → ∀ e, s.tape.queue.head? = some e → e.attempted = false

/-- The station with a return in flight ended by an active TOP that the event samples, where no entry is removed (R97). -/
def State.returned (s : State) (top : Bool) : State :=
  if s.head.phase = .returning ∧ top = true then
    { s with head := { s.head with phase := .top, drive := .off, timer := none } }
  else s

/-- A STALLED operation of the kind has been restarted from `s` to `t` (R108): its drive is set, it is DRIVING under a fresh
timer, and where its sensor already reads as required it has completed. -/
def State.Restarted (s t : State) (k : OpKind) : Prop :=
  (k = .conveyorIn →
    (s.lines.bwk = false → t.work = { s.work with
      convIn := true, op := some (k, .driving), opTimer := some s.header.arriveTimeout }) ∧
    (s.lines.bwk = true → t.work.accept = s.work.accept + 1 ∧ t.work.convIn = false)) ∧
  (k = .clamp →
    (s.lines.clamped = false → t.work = { s.work with
      clampOn := true, op := some (k, .driving), opTimer := some s.header.clampTimeout }) ∧
    (s.lines.clamped = true → s.ClampCloses t)) ∧
  (k = .unclamp →
    (s.lines.clamped = true → t.work = { s.work with
      clampOn := false, clamped := false, op := some (k, .driving), opTimer := some s.header.clampTimeout }) ∧
    (s.lines.clamped = false → t.work.clampOn = false ∧ t.work.clamped = false ∧
      (s.work.exitSeen = false ∨ s.lines.bout = true → s.OutDriving t) ∧
      (s.work.exitSeen = true → s.lines.bout = false → t.work.state = .empty ∧ t.work.board = none ∧ t.work.op = none))) ∧
  (k = .conveyorOut →
    (s.work.exitSeen = false ∨ s.lines.bout = true → s.OutDriving t ∧ t.work.exitSeen = (s.work.exitSeen || s.lines.bout)) ∧
    (s.work.exitSeen = true → s.lines.bout = false → t.work.state = .empty ∧ t.work.board = none ∧ t.work.op = none))

/-- R105: a board record exists in CLAMPING, SCANNING, READY, WORKING, DONE and RELEASING and in no other state; the operation
is CONVEYOR_IN in ENTERING, CLAMP in CLAMPING, UNCLAMP or CONVEYOR_OUT in RELEASING, and none in the other states. -/
def State.WorkFits (s : State) : Prop :=
  (s.work.board.isSome = true ↔
    s.work.state ∈ [WorkState.clamping, .scanning, .ready, .working, .done, .releasing]) ∧
  (s.work.state = .entering ↔ ∃ c, s.work.op = some (.conveyorIn, c)) ∧
  (s.work.state = .clamping ↔ ∃ c, s.work.op = some (.clamp, c)) ∧
  (s.work.state = .releasing ↔ ∃ c, s.work.op = some (.unclamp, c) ∨ s.work.op = some (.conveyorOut, c))

/-- The head as the entry to RUNNING, STEPPING or HOMING leaves it where no entry is removed: a HALTED head starts its
recovery return, or with TOP active ends it at once (R96, R97). -/
def State.headEntering (s : State) (top : Bool) : Head :=
  if s.head.phase = .halted then
    if top then { s.head with phase := .top, drive := .off, clinchOn := false, timer := none }
    else { s.head with phase := .returning, drive := .up, clinchOn := false, timer := some s.header.upTimeout }
  else s.head

/-- The alarm unit of `t`, where the entry to RUNNING or STEPPING that `a` and `final` tell has been made from `s`: `final` is
the run state, unless the row hold is taken at once (R118, R149); M2 is as it was, unless a board starts (R117). -/
def State.RunsOn (s t : State) (a : Alarm) (final : RunState) : Prop :=
  (t.alarm = { a with run := final, m2 := t.alarm.m2 } ∨
    t.alarm = { a with run := t.alarm.run, rowHold := true, m2 := t.alarm.m2 } ∧
      t.HoldTaken ((s.work.board.map Board.holds).getD 0)) ∧
  (t.alarm.m2 = a.m2 ∨ t.BoardStarted)

/-- The work position of `t` after such an entry with no operation restarted: the board as it was, or started (R117), or with
the row hold taken (R118); a board that the tape lets start has started, and a row hold that is due has been taken. -/
def State.WorkResumes (s t : State) (a : Alarm) (final : RunState) : Prop :=
  (t.work = s.work ∨ t.BoardStarted ∨ t.HoldTaken ((s.work.board.map Board.holds).getD 0)) ∧
  (s.work.state = .ready → s.work.board.isSome = true → s.TapeLetsStart → t.BoardStarted) ∧
  (∀ e b, State.HoldDue { s with alarm := { a with run := final } } e b → t.HoldTaken b.holds)

/-- From `s` to `t` RUNNING or STEPPING is entered, and is `final` once the stop line has been read (R148), with `a` what the
event makes of the alarm unit before, and TOP as given; no return removes an entry. A HALTED head starts its return (R96),
work is taken up, and a STALLED operation restarts where the run state lets work start (R108). -/
def State.Enters (s t : State) (top : Bool) (a : Alarm) (final : RunState) : Prop :=
  t.head = { s.headEntering top with lastCycle := t.head.lastCycle } ∧
  (final = .holding → t.head.lastCycle = none) ∧
  ((∀ k, s.work.op ≠ some (k, .stalled)) ∨ final = .holding →
    s.KeepsBut t [.lines, .tape, .head, .work, .alarm] ∧ s.WorkResumes t a final ∧ s.RunsOn t a final) ∧
  (s.work.state = .empty → s.work.op = none → t.alarm = { a with run := final } ∧ t.work = s.work) ∧
  (∀ k, s.work.op = some (k, .stalled) → s.WorkFits → final ≠ .holding → s.Restarted t k ∧ s.RunsOn t a final)

/-- From `s` to `t` a recovery return has ended (R97) at the event that leaves the alarm unit as `after` where nothing else
happens, and has removed the attempted oldest entry: the head is at TOP, the entry counts as missed for HEAD_JAM, and the
execution of a STEP is used where `uses` says so; the next feed starts where it may (R51). A STALLED operation restarts where
the run state lets work start. M2's stop alarm, a row hold, or the end of a used STEP may have changed the run state. -/
def State.ReturnEnds (s t : State) (after : Alarm) (uses : Prop) : Prop :=
  t.head.phase = .top ∧ t.head.drive = .off ∧ t.head.timer = none ∧
  ∀ e, s.tape.queue.head? = some e → e.attempted = true →
    t.tape.queue.map Entry.held = s.tape.queue.tail.map Entry.held ∧
    ((∀ k, s.work.op ≠ some (k, .stalled)) →
      s.Counts t e.record.lap e.record.ordinal (if e.target = none then none else some (.missed .headJam)) ∧
      (s.head.phase = .halted → s.tape.feeding = false → s.FeedFollows t)) ∧
    (∀ k, s.work.op = some (k, .stalled) → s.WorkFits → (after.run = .running ∨ after.run = .stepping ∧ ¬uses) →
      State.Restarted { s with tape := t.tape } t k) ∧
    (uses → t.alarm.stepUsed = true ∨ t.alarm.run = .alarm) ∧
    (t.alarm.run = after.run ∨ t.alarm.run = .alarm ∨
      t.alarm.rowHold = true ∧ (t.alarm.run = .stopping ∨ t.alarm.run = .stopped) ∨
      uses ∧ t.alarm.stepUsed = true ∧ t.alarm.run = .stopped)

/-- Homing completes from `s` to `t` (R66): the table stands homed at 0, 0, orientation 0 and SPAN_MIN. In HOMING the run
state becomes the homing target (R149), and HOLDING at the same event for RUNNING under an asserted stop line (R148), with
all that the entry to it brings about. -/
def State.Homes (s t : State) : Prop :=
  t.table = { s.table with
    homingTimer := none, seeking := [], activity := .idle, homed := true, commanded := ⟨0, 0, 0, s.header.spanMin⟩,
    markRequest := t.table.markRequest } ∧
  t.pending = s.pending ∧ t.now = s.now ∧ t.hdr = s.hdr ∧ t.reader = s.reader ∧ t.verifier = s.verifier ∧
  (s.alarm.run ≠ .homing → s.KeepsBut t [.lines, .table, .alarm]) ∧
  (∀ r, s.alarm.run = .homing → s.alarm.homingTarget = some r → (r = .running ∨ r = .stepping) →
    t.alarm.homingTarget = none ∧
    (s.work.state = .empty → s.work.op = none → s.head.phase = .top → s.lines.stopline = false →
      t.alarm.run = r ∧ (r = .stepping → t.alarm.stepUsed = false) ∧ s.KeepsBut t [.lines, .table, .tape, .alarm]) ∧
    ∀ (u : State) (a : Alarm) (final : RunState),
      u = { s with table := { t.table with markRequest := s.table.markRequest } } →
      a = { s.alarm with homingTarget := none, stepUsed := if r = .stepping then false else s.alarm.stepUsed } →
      final = (if r = .running ∧ s.lines.stopline = true then .holding else r) →
      (s.NoneRemoved s.lines.top [.halted] → u.Enters t s.lines.top a final) ∧
      (s.lines.top = true → s.head.phase = .halted → u.ReturnEnds t { a with run := final } (r = .stepping)))

/-- RUN or STEP acts in STOPPED (R145, R147), with TOP as it reads: with the table homed the run state `r` is entered, and is
`final` once the stop line has been read (R148), with all that the entry brings about. Unhomed it is HOMING with target `r`,
and homing is requested (R65). A HALTED head starts its return (R96), or with TOP active ends it at once, as one in flight
ends (R97). -/
def State.Starts (s t : State) (top : Bool) (r final : RunState) : Prop :=
  t.pending = s.pending ∧ t.now = s.now ∧ t.hdr = s.hdr ∧ t.reader = s.reader ∧ t.verifier = s.verifier ∧
  (∀ a : Alarm, a = { s.alarm with
      rowHold := false, stepUsed := if r = .stepping then false else s.alarm.stepUsed } →
    (s.table.homed = false → s.NoneRemoved top [.halted, .returning] →
      t.alarm = { a with run := .homing, homingTarget := some r } ∧ t.head = (s.returned top).headEntering top ∧
      t.table = { s.table with
        homingTimer := if s.table.activity = .homing then s.table.homingTimer else some (1000 * s.header.homeTimeout) } ∧
      s.KeepsBut t [.lines, .table, .head, .alarm]) ∧
    (s.table.homed = true → s.NoneRemoved top [.halted, .returning] → (s.returned top).Enters t top a final) ∧
    (top = true → s.head.phase = .halted ∨ s.head.phase = .returning →
      s.ReturnEnds t
        (if s.table.homed = true then { a with run := final } else { a with run := .homing, homingTarget := some r })
        (s.head.phase = .halted ∧ s.table.homed = true ∧ r = .stepping)))

/-- The head unit acts on TOP as an event samples it as it acts on the row `c`: in RETURN an active TOP completes the return
as its edge does (R97); in the phase TOP an inactive TOP means that the head has dropped (R86). -/
def State.TopActs (s : State) (top : Bool) (c : Instr) : Prop :=
  (c = .topEdge ∧ s.head.phase = .returning ∧ top = true) ∨
    (c = .headDrop ∧ s.alarm.run ≠ .configFault ∧ s.head.phase = .top ∧ top = false)

/-- The station hears a run of bytes that another station sends, character by character. -/
def State.hears (s : State) : List Byte → Option State
  | [] => some s
  | b :: bs =>
    match exec .validStart s with
    | .next t =>
      match exec (.goodCharacter (goodCharacterOf b)) t with
      | .next u => u.hears bs
      | _ => none
    | _ => none

/-- The station as the last character of a frame leaves it, before the tests of the frame: the receiver in HUNT, assembly
BETWEEN (R165, R167). -/
def State.atFrameEnd (s : State) (stop : Bool) : State :=
  { s with
    lines := { s.lines with link := stop }
    link := { s.link with inCharacter := false, idle := 0, idlePart := 0, assembly := .between, own := false } }

/-- The conditions of a frame start with the idle count given (R170, R179). -/
def State.CanSend (s : State) (idle : Nat) : Prop :=
  s.ownAddr ≠ none ∧ s.link.sending = none ∧ s.link.assembly = .between ∧ s.link.inCharacter = false ∧ 12 ≤ idle ∧
    (s.link.due = true ∨ s.link.tx ≠ [])

/-- A QUERY or REMOTE that left the receive queue found no room for its REPORT (R177, R178). -/
def State.Unanswered (s t : State) (rest : List Frame) : Prop :=
  t.link.butSlot = { s.link with
    rx := rest, handing := !rest.isEmpty,
    counters := { s.link.counters with unanswered := bump s.link.counters.unanswered } }.butSlot

/-- A QUERY or REMOTE that left the receive queue is answered by a REPORT to the service tool (R177, R178). -/
def State.Answers (s t : State) (rest : List Frame) (payload : List Byte) : Prop :=
  t.link.butSlot = { s.link with
    rx := rest, handing := !rest.isEmpty, tx := s.link.tx ++ [(⟨s.ownByte, 5, 31, payload⟩ : Frame)] }.butSlot

/-- The six items of a QUERY: code, row and answer (R177). -/
def State.queryRows (s : State) : List (Byte × Instr × List Byte) :=
  [(1, .queryStation, s.stationAnswer), (2, .queryBoard, s.boardAnswer), (3, .queryQueue, s.queueAnswer),
   (4, .queryAlarms, s.alarmsAnswer), (5, .queryMonitors, s.monitorsAnswer), (6, .queryPeers, s.peersAnswer)]

/-- The run state ignores the button of a REMOTE command code (R155). -/
def State.Ignores (s : State) (code : Byte) : Prop :=
  (code = 1 ∧ s.alarm.run ≠ .stopped) ∨
    (code = 2 ∧ s.alarm.run ∉ [RunState.running, .stepping, .holding, .homing]) ∨
    (code = 3 ∧ s.alarm.run = .configFault)

/-- A REMOTE RUN samples TOP and the head unit acts on what it reads (R86, R97). -/
def State.TopSeen (s : State) (code : Byte) (top : Bool) : Prop := code = 1 ∧ ∃ c, s.TopActs top c

/-- The reader has been rewound to a point (R20): the buffer is empty, the cursor stands at the point, and a read in flight
carries the discard mark; with none in flight the read of the point's record is issued at once. -/
def Reader.Rewound (r r' : Reader) (lap : Lap) (k : Nat) : Prop :=
  r'.buffer = [] ∧
  (∀ d, r.read = some d → r' = { r with
    buffer := [], read := some { d with discarded := true }, cursor := cursorAt r.rows lap k }) ∧
  (r.read = none → r.phase = .walking → ∀ c, c = cursorAt r.rows lap k → r' = { r with
    buffer := [], read := some ⟨stepAddr r.rows c, 4, some c, false⟩, cursor := c.next r.rows })

/-- The button of a REMOTE command code, with TOP and BIN as they read at the event (R155). -/
def State.buttonOf (code : Byte) (top bin : Bool) : Instr :=
  if code = 1 then .run top bin else if code = 2 then .stop else .clear

/-- Start-up reading has ended with a failed check: its reason and detail are held, and nothing more is read (R8). -/
def Reader.Failed (r : Reader) (reason : ConfigReason) (detail : Nat) : Prop :=
  r.phase = .fault ∧ r.reason = reason ∧ r.detail = detail ∧ r.read = none

/-- The reader reads on in start-up reading: the named words come next, to be taken as `scan` says (R1, R8). -/
def Reader.Reads (r : Reader) (addr count : Nat) (scan : Scan) : Prop :=
  r.read = some ⟨addr, count, none, false⟩ ∧ r.scan = scan

/-- A row table as R13 builds it: every row has an image and a step, and its base image and start ordinal are the totals
of the rows before it. -/
def RowsSound (rows : List Row) : Prop :=
  ∀ i r, rows[i]? = some r →
    0 < r.entry.images ∧ 0 < r.steps ∧ r.base = imageTotal (rows.take i) ∧ r.start = panelSteps (rows.take i)

/-! ## What passes start-up (chapter 1, R181) -/

/-- The header field of an index, at its word, is in its range (R2 to R4, R9; chapter 1, "The header"). -/
def HeaderField (w : Nat → Nat) (i : Nat) : Prop :=
  (i = 1 → 1 ≤ w 1 ∧ w 1 ≤ 23) ∧ (i = 2 → 2 ≤ w 2 ∧ w 2 ≤ 8) ∧
  (i = 3 ∨ i = 4 → 1000 ≤ w i ∧ w i ≤ 24000) ∧ (i = 5 → 50 ≤ w 5 ∧ w 5 ≤ 255) ∧ (i = 6 → w 5 ≤ w 6 ∧ w 6 ≤ 255) ∧
  (i = 7 → 1 ≤ w 7 ∧ w 7 ≤ 50) ∧ (i = 8 → 10 ≤ w 8 ∧ w 8 ≤ 400) ∧ (i = 9 → w 9 ≤ 50) ∧
  (10 ≤ i ∧ i ≤ 41 → 1 ≤ w i ∧ w i ≤ 2000) ∧ (i = 42 → 1 ≤ w 42 ∧ w 42 ≤ 64) ∧ (i = 43 → 20 ≤ w 43 ∧ w 43 ≤ 500) ∧
  (i = 44 → 1 ≤ w 44 ∧ w 44 ≤ 30) ∧ (45 ≤ i ∧ i ≤ 47 → 10 ≤ w i ∧ w i ≤ 300) ∧
  (i = 48 ∨ i = 50 → 100 ≤ w i ∧ w i ≤ 10000) ∧ (i = 49 → 50 ≤ w 49 ∧ w 49 ≤ 2000) ∧ (i = 51 → w 51 ≤ 1000) ∧
  (i = 52 ∨ i = 53 → 1 ≤ w i ∧ w i ≤ 60) ∧
  (∀ n, n < 6 → i = 54 + n → 1 ≤ w (56 + 3 * n) % 16 ∧ w (56 + 3 * n) < 128) ∧
  (i = 60 → w 72 < 1024) ∧ (i = 61 → w 73 ≤ 255) ∧ (i = 62 → 6 ≤ w 74 ∧ w 74 ≤ 4089) ∧
  (i = 63 → w 74 ≤ w 75 ∧ w 75 ≤ 4089) ∧ (i = 64 → w 76 ≤ 200 ∨ w 76 = 0xFFFF) ∧
  (i = 65 → 50 ≤ w 77 ∧ w 77 ≤ 1000 ∨ w 77 = 0xFFFF) ∧ (i = 66 → 79 ≤ w 78 ∧ w 78 ≤ 65535)

/-- The header values are those of the header's words (chapter 10, "Header"; R2, R3). -/
def HeaderReads (w : Nat → Nat) (h : Header) : Prop :=
  [h.divisor, h.depth, h.xmax, h.ymax, h.spanMin, h.spanMax, h.fs, h.tq, h.settle] = (List.range 9).map (fun k => w (1 + k)) ∧
  h.times.length = 32 ∧
  (∀ b, 1 ≤ b → b ≤ 32 → (∀ j, 1 ≤ j → j ≤ b → w (9 + j) ≤ h.times.getD (b - 1) 0) ∧
    ∃ j, 1 ≤ j ∧ j ≤ b ∧ h.times.getD (b - 1) 0 = w (9 + j)) ∧
  [h.vEnd, h.feedTimeout, h.homeTimeout, h.downTimeout, h.clinchTimeout, h.upTimeout, h.arriveTimeout, h.clampTimeout,
    h.outTimeout, h.travWait, h.travExpiry, h.handoffTimeout] = (List.range 12).map (fun k => w (42 + k)) ∧
  (∀ n, n < 6 → h.monitors.getD n default = ⟨w (54 + 3 * n), w (55 + 3 * n), w (56 + 3 * n) % 16,
    (w (56 + 3 * n)).testBit 4, (w (56 + 3 * n)).testBit 5, (w (56 + 3 * n)).testBit 6⟩) ∧
  [h.options.strict, h.options.polarity, h.options.bypass, h.options.markScan, h.options.stopline, h.options.stopLeadMiss,
    h.options.stopArrive, h.options.stopHandoff, h.options.stopLost, h.options.stopClash] =
    (List.range 10).map (fun b => (w 72).testBit b) ∧
  [h.rejectMisses, h.diodeLo, h.diodeHi] = [w 73, w 74, w 75] ∧ h.jumperMax = (if w 76 = 0xFFFF then 40 else w 76) ∧
  h.statusPeriod = (if w 77 = 0xFFFF then 100 else w 77) ∧ h.panelAddr = w 78

/-- The words of a row entry pass its checks and give its fields (R5, R10; chapter 10, "Row entry"): word 0, then the list
of words 1 to 7. -/
def RowEntryReads (w0 : Word) (ws : List Word) (e : RowEntry) : Prop :=
  e.images = w0.toNat % 32 ∧ e.images ≤ 16 ∧ w0.toNat / 32 % 8 = 0 ∧ w0.toNat < 4096 ∧
  (w0.toNat / 256 % 4 = 1 ∧ e.order = .imageMajor ∨ w0.toNat / 256 % 4 = 2 ∧ e.order = .stepMajor) ∧
  e.rowHold = w0.toNat.testBit 10 ∧ e.markCheck = w0.toNat.testBit 11 ∧
  e.listAddr = (ws.getD 0 0).toNat ∧ 79 ≤ e.listAddr ∧
  e.x0 = (ws.getD 1 0).toNat ∧ e.x0 ≤ 24000 ∧ e.y0 = (ws.getD 2 0).toNat ∧ e.y0 ≤ 24000 ∧
  e.px = (ws.getD 3 0).toInt ∧ -24000 ≤ e.px ∧ e.px ≤ 24000 ∧ e.py = (ws.getD 4 0).toInt ∧ -24000 ≤ e.py ∧ e.py ≤ 24000 ∧
  e.mx = (ws.getD 5 0).toNat ∧ e.mx ≤ 16383 ∧ e.my = (ws.getD 6 0).toNat ∧ e.my ≤ 16383

/-- The four words of a step record pass its checks and give its fields (R6, R11; chapter 10, "Step record"). -/
def StepReads (spanMin spanMax : Nat) (ws : List Word) (r : StepRecord) : Prop :=
  r.x = (ws.getD 0 0).toNat ∧ r.x ≤ 16383 ∧ r.y = (ws.getD 1 0).toNat ∧ r.y ≤ 16383 ∧
  r.span = (ws.getD 2 0).toNat % 256 ∧ spanMin ≤ r.span ∧ r.span ≤ spanMax ∧
  r.turret.toNat = (ws.getD 2 0).toNat / 256 % 4 ∧
  r.kind.code = (ws.getD 2 0).toNat / 1024 % 8 ∧ (ws.getD 2 0).toNat < 8192 ∧
  r.m = (ws.getD 3 0).toNat % 128 ∧ r.e = (ws.getD 3 0).toNat / 128 % 8 ∧ r.tol = (ws.getD 3 0).toNat / 1024 % 8 ∧
  (ws.getD 3 0).toNat < 8192 ∧
  (r.kind = .res → 10 ≤ r.m ∧ r.m ≤ 99 ∧ r.e ≤ 6 ∧ r.tol ≤ 5) ∧ (r.kind ≠ .res → r.m = 0 ∧ r.e = 0 ∧ r.tol = 0)

/-- A point measured from the origin of image `i` of a row lies in travel (R5, R12). -/
def RowEntry.InTravel (e : RowEntry) (xmax ymax i x y : Nat) : Prop :=
  0 ≤ (e.x0 : Int) + i * e.px + x ∧ (e.x0 : Int) + i * e.px + x ≤ xmax ∧
  0 ≤ (e.y0 : Int) + i * e.py + y ∧ (e.y0 : Int) + i * e.py + y ≤ ymax

/-! ## Layouts (chapter 10) -/

/-- The value of `n` bytes from a place on, low byte first. -/
def leAt (bs : List Byte) (place : Nat) : Nat → Nat
  | 0 => 0
  | n + 1 => (bs.getD place 0).toNat + 256 * leAt bs (place + 1) n

/-- A run of bytes holds fields, each given by its place, its width in bytes and its value. -/
def Laid (bs : List Byte) (fields : List (Nat × Nat × Nat)) : Prop :=
  ∀ f ∈ fields, leAt bs f.1 f.2.1 = f.2.2 % 256 ^ f.2.1

/-- Byte 2 of the traveller layout as a number: the flag, and the reason in bits 1 and 2. -/
def rejectNumber : Option RejectReason → Nat
  | none => 0 | some .untracked => 3 | some .misses => 5 | some .upstream => 7

/-- The layout of a missed list from a place on: ordinal in two bytes, reason in one. -/
def MissesLaid (bs : List Byte) (place : Nat) (ms : List (Nat × MissReason)) : Prop :=
  ∀ i p, ms[i]? = some p → Laid bs [(place + 3 * i, 2, p.1), (place + 3 * i + 2, 1, p.2.code)]

/-- The layout of a stage. -/
def StageLaid (g : Stage) : Prop :=
  (stageBytes g).length = 6 + 3 * g.missList.length ∧
  Laid (stageBytes g) [(0, 1, g.addr), (1, 2, g.inserted), (3, 2, g.missed), (5, 1, g.missList.length)] ∧
  MissesLaid (stageBytes g) 6 g.missList

/-- The layout of a traveller: nine bytes, then the stages (chapter 10, "TRAVELLER"). -/
def TravellerLaid (t : Traveller) : Prop :=
  Laid (travellerBytes t) [(0, 2, t.serial.toNat), (2, 1, rejectNumber t.reject), (3, 4, t.mask.toNat), (7, 1, t.dropped),
    (8, 1, t.stages.length)] ∧
  (travellerBytes t).length = 9 + (t.stages.map fun g => 6 + 3 * g.missList.length).sum ∧
  (travellerBytes t).drop 9 = t.stages.flatMap stageBytes ∧ ∀ g ∈ t.stages, StageLaid g

/-- The ranges that a well-formed traveller keeps to (R126, R183). -/
def Traveller.Fits (t : Traveller) : Prop :=
  t.serial ≠ 0xFFFF ∧ t.dropped ≤ 255 ∧ t.stages.length ≤ 6 ∧
  ∀ g ∈ t.stages, 1 ≤ g.addr ∧ g.addr ≤ 30 ∧ g.inserted ≤ 4096 ∧ g.missed ≤ 4096 ∧ g.missList.length ≤ 8 ∧
    g.missList.length ≤ g.missed ∧ ∀ p ∈ g.missList, p.1 ≤ 4095

/-- The move that STATION shows: purpose, lap, ordinal or image number, plan. -/
def Table.moveShown (t : Table) : Nat × Nat × Nat × Nat :=
  match t.slot with
  | none => (0, 0, 0, 0)
  | some m =>
    match m.purpose with
    | .insert lap k => (1, lap.toNat, k, m.plan)
    | .mark g => (2, 0, g, m.plan)

/-- The layout of the STATION answer, 41 bytes. While an operation waits for its first start its condition byte is free
(log entry 13), as is a detail that two bytes do not hold (log entry 6). -/
def State.StationLaid (s : State) : Prop :=
  s.stationAnswer.length = 41 ∧
  Laid s.stationAnswer
    [(0, 1, (s.reader.straps.map fun p => p.addr.toNat).getD 0), (1, 1, Role.code s.role), (2, 1, s.localStrap.toNat),
     (3, 1, s.alarm.run.code), (4, 1, s.reader.reason.code), (7, 1, s.alarm.rowHold.toNat),
     (8, 1, (s.alarm.homingTarget.map RunState.code).getD 0), (9, 1, s.alarm.stepUsed.toNat),
     (10, 2, s.table.commanded.x.toNat), (12, 2, s.table.commanded.y.toNat), (14, 1, s.table.commanded.turret.toNat),
     (15, 1, s.table.commanded.span), (16, 1, s.table.homed.toNat), (17, 1, s.table.activity.code),
     (18, 1, s.table.moveShown.1), (19, 1, s.table.moveShown.2.1), (20, 2, s.table.moveShown.2.2.1),
     (22, 2, s.table.moveShown.2.2.2), (24, 1, s.head.phase.code),
     (25, 1, (s.head.served.map fun p => p.1.toNat).getD 0), (26, 2, (s.head.served.map Prod.snd).getD 0xFFFF),
     (28, 1, (s.head.lastLead.map fun l => l.a.toNat + 2 * l.b.toNat).getD 128),
     (29, 1, ((s.tape.queue.head?.map Entry.attempted).getD false).toNat), (30, 1, s.work.state.code),
     (31, 1, (s.work.op.map fun o => o.1.code).getD 0), (33, 1, s.work.clamped.toNat), (34, 1, s.work.accept.toNat),
     (35, 1, s.entryState.code), (36, 1, s.work.gateReject.toNat), (37, 2, (s.boardSerial.getD 0xFFFF).toNat),
     (39, 1, (s.work.board.bind Board.lap).isSome.toNat), (40, 1, ((s.work.board.bind Board.lap).map BitVec.toNat).getD 0)] ∧
  (s.reader.reason = .c00 ∨ s.reader.reason = .c01 → leAt s.stationAnswer 5 2 = 0) ∧
  (s.reader.reason ≠ .c00 → s.reader.reason ≠ .c01 → s.reader.detail ≤ 65535 →
    leAt s.stationAnswer 5 2 = s.reader.detail) ∧
  ((s.work.op = none ∨ ∃ k, s.work.op = some (k, .driving)) → leAt s.stationAnswer 32 1 = 0) ∧
  (∀ k, s.work.op = some (k, .stalled) → leAt s.stationAnswer 32 1 = 1)

/-- The layout of the BOARD answer, with at most 3 travellers queued and at most 8 misses listed. -/
def State.BoardLaid (s : State) : Prop :=
  Laid s.boardAnswer
    [(0, 1, s.trav.arrivals.length), (16, 1, s.trav.takeOpen.toNat), (17, 1, s.trav.release.isSome.toNat),
     (18, 2, (s.trav.release.map fun r => r.1.toNat).getD 0), (20, 1, (s.trav.release.map fun r => r.2.toNat).getD 0),
     (21, 1, s.trav.phase.code), (22, 2, s.trav.timer.getD 0), (24, 2, s.trav.duplicate), (26, 2, s.trav.foreign),
     (28, 2, s.trav.malformed), (30, 2, s.trav.overflow), (32, 2, s.trav.expiry), (34, 2, s.trav.lostNotSent),
     (36, 1, s.work.board.isSome.toNat)] ∧
  (∀ i a, s.trav.arrivals[i]? = some a → Laid s.boardAnswer
    [(1 + 5 * i, 2, a.traveller.serial.toNat), (3 + 5 * i, 1, rejectNumber a.traveller.reject), (4 + 5 * i, 2, a.left)]) ∧
  (∀ i, s.trav.arrivals.length ≤ i → i < 3 → leAt s.boardAnswer (1 + 5 * i) 5 = 0) ∧
  (s.work.board = none → s.boardAnswer.length = 83 ∧ s.boardAnswer.drop 37 = List.replicate 46 0) ∧
  (∀ b, s.work.board = some b →
    Laid s.boardAnswer
      [(37, 2, b.serial.toNat), (39, 1, b.lap.isSome.toNat), (40, 1, (b.lap.map BitVec.toNat).getD 0),
       (41, 4, b.mask.toNat), (45, 1, rejectNumber b.reject), (46, 2, b.inserted), (48, 2, b.missed), (50, 2, b.passed),
       (52, 2, b.overflow), (54, 1, b.holds.toNat), (55, 1, b.ownStage.isSome.toNat), (56, 1, b.missList.length),
       (81, 1, b.dropped), (82, 1, b.stages.length)] ∧
    MissesLaid s.boardAnswer 57 b.missList ∧
    (∀ i, b.missList.length ≤ i → i < 8 → leAt s.boardAnswer (57 + 3 * i) 3 = 0) ∧
    s.boardAnswer.drop 83 = b.stages.flatMap stageBytes)

/-- The layout of the QUEUE answer. Byte 7 is free while no D is held (log entry 29). -/
def State.QueueLaid (s : State) : Prop :=
  s.queueAnswer.length = 9 + 17 * s.tape.queue.length ∧
  Laid s.queueAnswer
    [(0, 1, s.tape.feeding.toNat), (1, 1, s.tape.fault.code), (2, 1, s.tape.flush.isSome.toNat),
     (3, 1, (s.tape.flush.map BitVec.toNat).getD 0), (8, 1, s.tape.queue.length)] ∧
  (∀ h, s.hdr = some h → leAt s.queueAnswer 7 1 = h.depth % 256) ∧
  (∀ lap k, ((∃ r rest, s.reader.buffer = r :: rest ∧ lap = r.lap ∧ k = r.ordinal) ∨
      (s.reader.buffer = [] ∧ ∃ d c, s.reader.read = some d ∧ d.cursor = some c ∧ d.discarded = false ∧
        lap = c.lap ∧ k = c.ordinal) ∨
      (s.reader.buffer = [] ∧ (∀ d c, s.reader.read = some d → d.cursor = some c → d.discarded = true) ∧
        lap = s.reader.cursor.lap ∧ k = s.reader.cursor.ordinal)) →
    Laid s.queueAnswer [(4, 1, lap.toNat), (5, 2, k)]) ∧
  (∀ i e, s.tape.queue[i]? = some e → Laid s.queueAnswer
    [(9 + 17 * i, 1, e.record.lap.toNat), (10 + 17 * i, 2, e.record.ordinal), (12 + 17 * i, 1, e.record.row),
     (13 + 17 * i, 1, e.record.image), (14 + 17 * i, 1, e.record.step), (15 + 17 * i, 1, e.record.kind.code),
     (16 + 17 * i, 1, e.verdict.code), (17 + 17 * i, 1, e.codes.length), (18 + 17 * i, 2, e.codes.getD 0 0),
     (20 + 17 * i, 2, e.codes.getD 1 0), (22 + 17 * i, 1, Decision.code e.decision),
     (23 + 17 * i, 1, (match e.decision with
        | some (.passMiss r) => r.code
        | _ => 0)),
     (24 + 17 * i, 1, e.attempted.toNat), (25 + 17 * i, 1, 0)])

/-- The layout of the ALARMS answer. -/
def State.AlarmsLaid (s : State) : Prop :=
  s.alarmsAnswer.length = 2 + 7 * s.alarm.list.length ∧
  Laid s.alarmsAnswer [(0, 1, s.alarm.list.length), (1, 1, s.alarm.more.toNat)] ∧
  (∀ i e, s.alarm.list[i]? = some e → Laid s.alarmsAnswer
    [(2 + 7 * i, 1, e.code.code), (3 + 7 * i, 1, e.count),
     (4 + 7 * i, 1, e.serial.isSome.toNat + 2 * e.ordinal.isSome.toNat + 4 * e.stop.toNat + 8 * e.persists.toNat),
     (5 + 7 * i, 2, (e.serial.map BitVec.toNat).getD 0), (7 + 7 * i, 2, e.ordinal.getD 0)])

/-- The layout of the MONITORS answer. The settings are free while none are held (log entry 29). -/
def State.MonitorsLaid (s : State) : Prop :=
  s.monitorsAnswer.length = 60 ∧
  ∀ m : MonitorId,
    Laid s.monitorsAnswer
      [(10 * m.index + 6, 2, (s.alarm.monitor m).value),
       (10 * m.index + 8, 1, (s.alarm.monitor m).warn.toNat + 2 * (s.alarm.monitor m).alarm.toNat),
       (10 * m.index + 9, 1, (s.alarm.monitor m).count)] ∧
    ∀ h c, s.hdr = some h → c = h.monitors.getD m.index default → Laid s.monitorsAnswer
      [(10 * m.index, 2, c.w), (10 * m.index + 2, 2, c.a), (10 * m.index + 4, 1, c.p),
       (10 * m.index + 5, 1, 16 * c.warnLatch.toNat + 32 * c.alarmLatch.toNat + 64 * c.stopEnable.toNat)]

/-- The layout of the PEERS answer, with thirty peers whose heard entries hold ten bytes. -/
def State.PeersLaid (s : State) : Prop :=
  s.peersAnswer.length = 417 ∧
  (∀ a p, s.link.peer a = some p →
    Laid s.peersAnswer [(13 * (a - 1), 1, p.heard.toNat), (13 * (a - 1) + 1, 2, p.age)] ∧
    (s.peersAnswer.drop (13 * (a - 1) + 3)).take 10 = if p.heard then p.bytes else List.replicate 10 0) ∧
  Laid s.peersAnswer
    [(390, 2, s.link.counters.characterErrors), (392, 2, s.link.counters.lengthErrors),
     (394, 2, s.link.counters.gapAbandons), (396, 2, s.link.counters.checkErrors),
     (398, 2, s.link.counters.structureErrors), (400, 2, s.link.counters.clashFrames),
     (402, 2, s.link.counters.receiveOverruns), (404, 2, s.link.counters.arbitrationLosses),
     (406, 2, s.link.counters.collisions), (408, 2, s.link.counters.droppedFrames),
     (410, 2, s.link.counters.unanswered), (412, 2, s.link.errors), (414, 1, s.link.divisor), (415, 2, s.link.period)]

/-! ## Invariants -/

/-- The peer table has its thirty entries, a heard entry holds the ten bytes of a STATUS, and so does every STATUS in the
receive queue (R168, R176). -/
def State.PeersFit (s : State) : Prop :=
  s.link.peers.length = 30 ∧ (∀ p ∈ s.link.peers, p.heard = true → p.bytes.length = 10) ∧
    ∀ f ∈ s.link.rx, f.kind = 1 → f.payload.length = 10

/-- The row table is sound, and a row entry that is being read has images (R10, R13). -/
def State.RowTableFits (s : State) : Prop :=
  RowsSound s.reader.rows ∧
    (∀ a w, s.reader.scan = .rowBody a w → rowImages w ≠ 0) ∧
    (∀ e ra a seen, s.reader.scan = .steps e ra a seen → e.images ≠ 0)

/-- No list of fixed room holds more than its rule allows: 8 alarm-list entries (R142), 4 frames in the receive queue and
in the transmit queue (R163), 3 travellers in the arrival queue (R130). -/
def State.WithinRoom (s : State) : Prop :=
  s.alarm.list.length ≤ 8 ∧ s.link.rx.length ≤ 4 ∧ s.link.tx.length ≤ 4 ∧ s.trav.arrivals.length ≤ 3

/-- Until start-up reading has ended: under RESET nothing is being read (R1), and while RESET or start-up reading lasts
the run state is CONFIG_FAULT and the tape unit is at rest (R14, R61, R143). -/
def State.StartUpQuiet (s : State) : Prop :=
  (s.reader.straps = none → s.reader.scan = .idle) ∧
    (s.reader.straps = none ∨ s.reader.scan ≠ .idle →
      s.alarm.run = .configFault ∧ s.tape.queue = [] ∧ s.tape.feeding = false)

/-- No bookkeeping is left to do (R46, R53, R117, R118): the oldest entry cannot be decided, an armed flush names its lap, no
READY board can start, and no row hold is due. Until start-up reading has ended the queue is empty. -/
def State.NothingLeft (s : State) : Prop :=
  s.StartUpQuiet ∧
  (∀ e, s.tape.queue.head? = some e →
    ¬s.CanDecide e ∧ (s.tape.flush = none ∨ s.tape.flush = some e.record.lap) ∧ ∀ b, ¬s.HoldDue e b) ∧
  ¬(s.work.state = .ready ∧ s.work.board.isSome = true ∧ s.TapeLetsStart)

/-- The tape queue never holds more than D entries (R39), and a feed in flight has room for the entry it brings (R42
condition 7). -/
def State.QueueWithinDepth (s : State) : Prop :=
  s.StartUpQuiet ∧ s.tape.queue.length ≤ s.header.depth ∧
    (s.tape.feeding = true → s.tape.queue.length < s.header.depth)

/-- The reader buffer holds up to 4 records, and a walking read in flight without the discard mark has room for the
record it brings (R18). -/
def State.BufferWithinRoom (s : State) : Prop :=
  s.reader.buffer.length ≤ 4 ∧
    ∀ d, s.reader.read = some d → d.cursor.isSome = true → d.discarded = false → s.reader.buffer.length < 4

/-- Only the oldest entry of the tape queue carries a decision or the attempted mark (R46). -/
def State.OnlyOldestDecided (s : State) : Prop :=
  ∀ e ∈ s.tape.queue.tail, e.decision = none ∧ e.attempted = false

/-- The missed count of the board record is the length of its missed list plus its overflow count, and the list holds at
most 8 entries (R119). -/
def State.MissesCounted (s : State) : Prop :=
  ∀ b, s.work.board = some b → b.missed = b.missList.length + b.overflow ∧ b.missList.length ≤ 8

/-- The feed timer runs exactly while a feed is in flight (R41), the operation timer exactly while a board-handling
operation is DRIVING (R105), the hand-off timer exactly in TIMING (R128). -/
def State.TimersFit (s : State) : Prop :=
  s.tape.timer.isSome = s.tape.feeding ∧ s.work.opTimer.isSome = s.work.driving ∧
    (s.trav.timer.isSome = true ↔ s.trav.phase = .timing)

/-- The run state and the alarm list agree (R143, R150, R151): until a valid start-up the run state is CONFIG_FAULT (with
nothing read under RESET), in CONFIG_FAULT the list is empty, every entry's stop bit is the one its code and the settings
give, the homing target is RUNNING or STEPPING where there is one (R149), and the station is in ALARM exactly while an
entry holds its stop bit. -/
def State.AlarmFitsList (s : State) : Prop :=
  (s.reader.straps = none → s.reader.scan = .idle) ∧
    (s.reader.straps = none ∨ s.reader.scan ≠ .idle → s.alarm.run = .configFault) ∧
    (s.alarm.run = .configFault → s.alarm.list = []) ∧
    (∀ e ∈ s.alarm.list, e.stop = s.stopBit e.code) ∧
    (∀ r, s.alarm.homingTarget = some r → r = .running ∨ r = .stepping) ∧
    (s.alarm.run = .alarm ↔ s.alarm.stopListed = true)

end Sys2Proof.Machine
end

