-- ==== Sys2Proof/Certificates/Slice0/Obligations.lean ====
section
/-! DEFINITION. The statements for the provers. A statement about a command says that it answers a next state, what that
state holds, and what it leaves unchanged (`State.KeepsBut`); the output lines of every next state are those of
`Obligations.OutputsFollowTheRules`. -/

open Sys2Proof Sys2Proof.Machine

/-! ## The station as a whole -/

/-- A step takes the command at the front of the queue and runs it with the queue's rest. -/
def Obligations.StepTakesTheFrontCommand : Prop :=
  ∀ (c : Instr) (rest : List Instr) (s : State), s.pending = c :: rest → step s = exec c { s with pending := rest }

/-- With no command waiting and RESET released, a step runs the row whose event has come about, and where there is none one
ms passes, by which every running timer has one ms less, every age one more, and the idle count grows by the bit times of
one ms of high line: the model's choice (log entries 3 and 8). Under RESET nothing goes on. -/
def Obligations.EmptyQueueRunsTheDueRowOrTime : Prop :=
  ∀ s : State, s.pending = [] →
    (s.reader.straps = none → step s = .next s) ∧
    (∀ p, s.reader.straps = some p →
      (∀ c, s.dueCommand = some c → step s = exec c s) ∧
      (s.dueCommand = none → ∃ t, step s = .next t ∧ t.now = s.now + 1 ∧ t.pending = [] ∧ t.hdr = s.hdr ∧
        t.lines = s.lines ∧ t.reader = s.reader ∧
        t.verifier = { s.verifier with
          conversion := s.verifier.conversion.map fun c => { c with left := c.left - 1 } } ∧
        t.tape = { s.tape with timer := s.tape.timer.map (· - 1) } ∧
        t.table = { s.table with homingTimer := s.table.homingTimer.map (· - 1) } ∧
        t.head = { s.head with timer := s.head.timer.map (· - 1), confirm := s.head.confirm.map (· - 1) } ∧
        t.work = { s.work with
          opTimer := s.work.opTimer.map (· - 1), matchTimer := s.work.matchTimer.map (· - 1) } ∧
        t.trav = { s.trav with
          timer := s.trav.timer.map (· - 1), arrivals := s.trav.arrivals.map fun a => { a with left := a.left - 1 } } ∧
        t.alarm = { s.alarm with
          windowTimer := s.alarm.windowTimer.map (· - 1), flashLeft := s.alarm.flashLeft - 1 } ∧
        t.link = { s.link with
          idle := t.link.idle, idlePart := t.link.idlePart, statusTimer := s.link.statusTimer.map (· - 1),
          peers := t.link.peers } ∧
        (s.link.inCharacter = true ∨ s.link.sending ≠ none ∨ s.lines.link = false →
          t.link.idle = s.link.idle ∧ t.link.idlePart = s.link.idlePart) ∧
        (s.link.inCharacter = false → s.link.sending = none → s.lines.link = true →
          10 * (s.link.divisor + 1) * t.link.idle + t.link.idlePart =
              10 * (s.link.divisor + 1) * s.link.idle + s.link.idlePart + 2304 ∧
            t.link.idlePart < 10 * (s.link.divisor + 1)) ∧
        (∀ a q, s.link.peer a = some q → t.link.peer a = some { q with age := min 65535 (q.age + 1) })))

/-- The output lines and the entry state are at every step those that the rules give for the rest of the state: the drives of
a feed, of homing and of a move, the entry state of R107, the stop output and the stop-line drive of R158, the lamps of
R159 and the display of R160, each table written out in `State.OutputsRight`. (One flash period serves every flashing lamp:
the model's choice, log entry 10; that every output follows the whole state at the end of each command is log entry 21.) -/
def Obligations.OutputsFollowTheRules : Prop :=
  ∀ s t : State, s.OutputsRight → step s = .next t → t.OutputsRight


/-! ## Invariants that every step keeps -/

/-- No list of fixed room ever holds more than its rule allows: the alarm list, the frame queues and the arrival queue; the
tape queue its D entries; the reader buffer its 4 records. -/
def Obligations.RoomIsKept : Prop :=
  ∀ s t : State, step s = .next t →
    (s.WithinRoom → t.WithinRoom) ∧ (s.QueueWithinDepth → t.QueueWithinDepth) ∧
    (s.BufferWithinRoom → t.BufferWithinRoom)

/-- At most the oldest entry of the tape queue carries a decision or the attempted mark; the missed count of a board is
the length of its missed list plus its overflow count; the feed, operation and hand-off timers run exactly while their
rules say; the board record and the operation stand in the states that R105 gives them; the peer table keeps its
entries. (An operation of a state that has not yet started has no timer: the condition of an operation that waits for
its start is the model's own, log entry 13.) -/
def Obligations.RecordsStayConsistent : Prop :=
  ∀ s t : State, step s = .next t →
    (s.OnlyOldestDecided → t.OnlyOldestDecided) ∧ (s.MissesCounted → t.MissesCounted) ∧ (s.TimersFit → t.TimersFit) ∧
    (s.WorkFits → t.WorkFits) ∧ (s.PeersFit → t.PeersFit)

/-- A station in ALARM holds a stop entry, and a station that holds a stop entry is in ALARM. -/
def Obligations.AlarmExactlyWithAStopEntry : Prop :=
  ∀ s t : State, s.AlarmFitsList → step s = .next t → t.AlarmFitsList

/-- The state after reset meets every invariant. -/
def Obligations.InvariantsHoldAtReset : Prop :=
  State.reset.WithinRoom ∧ State.reset.QueueWithinDepth ∧ State.reset.BufferWithinRoom ∧
    State.reset.OnlyOldestDecided ∧ State.reset.MissesCounted ∧ State.reset.TimersFit ∧ State.reset.AlarmFitsList ∧
    State.reset.RowTableFits ∧ State.reset.OutputsRight ∧ State.reset.WorkFits ∧ State.reset.PeersFit ∧
    State.reset.NothingLeft

/-- From the end of a valid start-up until reset, the straps, the header values and the row table stay as they are. -/
def Obligations.ProgramDataHeldUntilReset : Prop :=
  ∀ (c : Instr) (s t : State), c ≠ .reset → s.reader.phase = .walking → s.reader.scan = .idle →
    s.reader.straps.isSome = true → exec c s = .next t →
    t.hdr = s.hdr ∧ t.reader.rows = s.reader.rows ∧ t.reader.straps = s.reader.straps ∧
      t.reader.phase = .walking ∧ t.reader.scan = .idle


/-! ## Reset and the program reader -/

/-- RESET brings every unit to the values of its own chapter. It leaves the waiting commands, the input lines and the clock
alone: the model's choice (log entries 3 and 10). -/
def Obligations.ResetSetsEveryUnit : Prop :=
  ∀ s : State, ∃ t, exec .reset s = .next t ∧ t.pending = s.pending ∧ t.now = s.now ∧ t.lines = s.lines ∧ t.hdr = none ∧
    (t.reader.phase = .reading ∧ t.reader.cursor = ⟨0, 0, 0, 0, 0⟩ ∧ t.reader.buffer = [] ∧ t.reader.read = none ∧
      t.reader.rows = [] ∧ t.reader.reason = .c00 ∧ t.reader.straps = none) ∧
    (t.verifier.phase = .idle ∧ t.verifier.measured = none ∧ t.verifier.setup = none ∧ t.verifier.forward = none ∧
      t.verifier.backward = none ∧ t.verifier.jawsClosed = false ∧ t.verifier.conversion = none) ∧
    (t.tape.queue = [] ∧ t.tape.feeding = false ∧ t.tape.timer = none ∧ t.tape.fault = .none ∧ t.tape.flush = none) ∧
    (t.table.activity = .idle ∧ t.table.commanded.x = 0 ∧ t.table.commanded.y = 0 ∧ t.table.commanded.turret = 0 ∧
      t.table.homed = false ∧ t.table.slot = none ∧ t.table.homingTimer = none ∧ t.table.markRequest = none) ∧
    (t.head.phase = .halted ∧ t.head.drive = .off ∧ t.head.clinchOn = false ∧ t.head.served = none ∧
      t.head.strokeStart = none ∧ t.head.timer = none ∧ t.head.first = none ∧ t.head.lead = none ∧
      t.head.lastLead = none ∧ t.head.lastCycle = none) ∧
    (t.work.state = .empty ∧ t.work.op = none ∧ t.work.convIn = false ∧ t.work.convOut = false ∧
      t.work.clampOn = false ∧ t.work.opTimer = none ∧ t.work.matchTimer = none ∧ t.work.clamped = false ∧
      t.work.exitSeen = false ∧ t.work.board = none ∧ t.work.ownCounter = 0 ∧ t.work.accept = 0 ∧ t.work.scan = none ∧
      t.work.gateReject = false) ∧
    (t.trav.arrivals = [] ∧ t.trav.takeOpen = false ∧ t.trav.release = none ∧ t.trav.phase = .none ∧
      t.trav.timer = none ∧ t.trav.duplicate = 0 ∧ t.trav.foreign = 0 ∧ t.trav.malformed = 0 ∧ t.trav.overflow = 0 ∧
      t.trav.expiry = 0 ∧ t.trav.lostNotSent = 0) ∧
    (t.alarm.run = .configFault ∧ t.alarm.rowHold = false ∧ t.alarm.homingTarget = none ∧ t.alarm.stepUsed = false ∧
      t.alarm.list = [] ∧ t.alarm.more = false ∧ t.alarm.windowTimer = none ∧
      ∀ m, t.alarm.monitor m = ⟨0, false, false, 0⟩) ∧
    (t.link.divisor = 23 ∧ t.link.inCharacter = false ∧ t.link.assembly = .skipping ∧ t.link.idle = 0 ∧
      t.link.sending = none ∧ t.link.statusRetry = 0 ∧ t.link.queueRetry = 0 ∧ t.link.rx = [] ∧ t.link.tx = [] ∧
      t.link.due = false ∧ t.link.statusTimer = none ∧ t.link.period = 100 ∧ t.link.errors = 0 ∧
      (∀ a p, t.link.peer a = some p → p.heard = false ∧ p.age = 0) ∧
      t.link.counters = ⟨0, 0, 0, 0, 0, 0, 0, 0, 0, 0, 0⟩) ∧
    (t.out.lampRun = false ∧ t.out.lampStop = false ∧ t.out.lampAlarm = false ∧ t.out.stopOut = false ∧
      t.out.stopDrive = false ∧ t.out.display = .config .c00 ∧ t.out.entry = .busy)

/-- RESET_RELEASE samples the straps, starts the status timer and makes the status slot DUE; start-up reading begins with
the header, or ends as C07 at a strapped address 0 or 31 before any word is read. With RESET already released nothing
happens. (That the first read names the 79 words of the header is the model's choice, log entry 5.) -/
def Obligations.ReleaseSamplesTheStrapsAndBegins : Prop :=
  ∀ (addr : BitVec 5) (role : Role) (lo : Bool) (s : State),
    (s.reader.straps = none → ∃ t, exec (.resetRelease addr role lo) s = .next t ∧
      (addr ≠ 0 ∧ addr ≠ 31 → t.reader = { s.reader with
        straps := some ⟨addr, role, lo⟩, read := some ⟨0, 79, none, false⟩, scan := .header }) ∧
      (addr = 0 ∨ addr = 31 → t.reader = { s.reader with
        straps := some ⟨addr, role, lo⟩, phase := .fault, reason := .c07, detail := addr.toNat, scan := .idle,
        draft := none, read := none }) ∧
      t.link = { s.link with due := true, statusTimer := some s.link.period } ∧ s.KeepsBut t [.reader, .link]) ∧
    (s.reader.straps ≠ none → exec (.resetRelease addr role lo) s = .next s)

/-- The completion of a walking read: the resolved record, every field of it, joins the buffer as its newest, unless the read
was marked discarded; the next read is issued from the cursor, which then advances, if the phase is WALKING and the buffer has
room. A delivery of another number of words than the read named is no event of the part: the model's fault (log entry
18). -/
def Obligations.WalkingReadsFillTheBuffer : Prop :=
  ∀ (s : State) (ws : List Word) (d : Read) (c : Cursor), s.reader.read = some d → d.cursor = some c →
    (ws.length ≠ d.count → exec (.pmemReadCompletion ws) s = .fault .wordsNotAsNamed) ∧
    (ws.length = d.count → ∃ t r, exec (.pmemReadCompletion ws) s = .next t ∧
      (r.lap = c.lap ∧ r.ordinal = c.ordinal ∧ r.row = c.row ∧ r.step = c.step ∧
        (∀ row, s.reader.rows[c.row]? = some row →
          r.image = row.base + c.image ∧
          r.x = row.entry.x0 + c.image * row.entry.px + (ws.getD 0 0).toNat ∧
          r.y = row.entry.y0 + c.image * row.entry.py + (ws.getD 1 0).toNat) ∧
        r.span = (ws.getD 2 0).toNat % 256 ∧ r.turret.toNat = (ws.getD 2 0).toNat / 256 % 4 ∧
        ((ws.getD 2 0).toNat / 1024 % 8 ≤ 3 → r.kind.code = (ws.getD 2 0).toNat / 1024 % 8) ∧
        r.m = (ws.getD 3 0).toNat % 128 ∧ r.e = (ws.getD 3 0).toNat / 128 % 8 ∧
        r.tol = (ws.getD 3 0).toNat / 1024 % 8 ∧
        (∀ row, s.reader.rows[c.row]? = some row → 0 < row.entry.images → 0 < row.steps →
          (r.rowFirst = true ↔ c.image = 0 ∧ c.step = 0))) ∧
      t.reader.buffer = (if d.discarded then s.reader.buffer else s.reader.buffer ++ [r]) ∧
      (if s.reader.phase = .walking ∧ t.reader.buffer.length < 4 then
        t.reader.read = some ⟨stepAddr s.reader.rows s.reader.cursor, 4, some s.reader.cursor, false⟩ ∧
          t.reader.cursor = s.reader.cursor.next s.reader.rows
      else t.reader.read = none ∧ t.reader.cursor = s.reader.cursor) ∧
      t.reader = { s.reader with
        buffer := t.reader.buffer, read := t.reader.read, cursor := t.reader.cursor } ∧
      s.KeepsBut t [.reader])

/-- A table of rows as start-up reading builds it: every row has images and steps, and its base image and start ordinal
are the totals before it. -/
def Obligations.RowTableStaysSound : Prop :=
  ∀ s t : State, s.RowTableFits → step s = .next t → t.RowTableFits

/-- The walk visits the steps of a row table in the order of its ordinals: the cursor of ordinal k + 1 is the one after
the cursor of ordinal k, and after the last ordinal comes ordinal 0 of the next lap. -/
def Obligations.RewindPointsFollowTheWalk : Prop :=
  ∀ (rows : List Row) (lap : Lap) (k : Nat), RowsSound rows → k < panelSteps rows →
    (cursorAt rows lap k).next rows =
      if k + 1 = panelSteps rows then cursorAt rows (lap + 1) 0 else cursorAt rows lap (k + 1)

/-- Start-up reading, word by word: the ident word, the header fields in index order, the row entries, the step
records, targets, mark points and totals; the first check that fails ends it with its reason and detail. The rows read
so far number as the row table does. First, what passes: the header fields in their ranges, and the values taken from
them; the fields of a row entry and of a step record; every target, and every mark point of a row with the flag, in
travel. (The sizes of the reads and the places in start-up reading are the model's choice, log entry 5; the address of
a record past word 65535 is held whole as a detail, and a row entry past it fails as its row number, the model's
reading, log entry 6.) -/
def Obligations.StartUpChecksInOrder : Prop :=
  (∀ w : Nat → Nat,
    (headerFault w = none ↔ ∀ i, 1 ≤ i → i ≤ 66 → HeaderField w i) ∧
    (∀ i, headerFault w = some i ↔ 1 ≤ i ∧ i ≤ 66 ∧ ¬HeaderField w i ∧ ∀ j, 1 ≤ j → j < i → HeaderField w j) ∧
    HeaderReads w (headerOf w)) ∧
  (∀ w0 ws e, rowEntryOf w0 ws = some e ↔ RowEntryReads w0 ws e) ∧
  (∀ lo hi ws r, checkedStep lo hi ws = some r ↔ StepReads lo hi ws r) ∧
  (∀ (xmax ymax : Nat) (e : RowEntry) (steps : List StepRecord),
    (firstTargetOut xmax ymax e steps = none ↔ ∀ i, i < e.images → ∀ r ∈ steps, e.InTravel xmax ymax i r.x r.y) ∧
    (∀ k, firstTargetOut xmax ymax e steps = some k ↔ ∃ i r, i < e.images ∧ steps[k]? = some r ∧
      ¬e.InTravel xmax ymax i r.x r.y ∧
      (∀ j q, j < k → steps[j]? = some q → e.InTravel xmax ymax i q.x q.y) ∧
      ∀ i', i' < i → ∀ q ∈ steps, e.InTravel xmax ymax i' q.x q.y) ∧
    (markPointOut xmax ymax e = true ↔
      e.markCheck = true ∧ ∃ i, i < e.images ∧ ¬e.InTravel xmax ymax i e.mx e.my)) ∧
  ∀ (s : State) (ws : List Word) (d : Read), s.reader.read = some d → d.cursor = none → ws.length = d.count →
    ∃ t, exec (.pmemReadCompletion ws) s = .next t ∧
      (s.reader.scan = .header →
        s.KeepsBut t [.reader] ∧
        (ws.getD 0 0 ≠ 0xC3A5 → t.reader.Failed .c01 0) ∧
        (ws.getD 0 0 = 0xC3A5 → ∀ i, headerFault (wordAt ws) = some i → t.reader.Failed .c02 i) ∧
        (ws.getD 0 0 = 0xC3A5 → headerFault (wordAt ws) = none →
          t.reader.Reads (ws.getD 78 0).toNat 1 (.rowHead (ws.getD 78 0).toNat) ∧
          t.reader.draft = some (headerOf (wordAt ws)))) ∧
      (∀ a, s.reader.scan = .rowHead a →
        ((ws.getD 0 0).toNat % 32 = 0 → s.reader.rows = [] → s.KeepsBut t [.reader] ∧ t.reader.Failed .c03 0) ∧
        ((ws.getD 0 0).toNat % 32 ≠ 0 → s.KeepsBut t [.reader] ∧
          (8 ≤ s.reader.rows.length → t.reader.Failed .c06 8) ∧
          (s.reader.rows.length < 8 → 65535 < a + 7 → t.reader.Failed .c03 s.reader.rows.length) ∧
          (s.reader.rows.length < 8 → a + 7 ≤ 65535 →
            t.reader.Reads (a + 1) 7 (.rowBody a (ws.getD 0 0))))) ∧
      (∀ a w, s.reader.scan = .rowBody a w → s.KeepsBut t [.reader] ∧
        (rowEntryOf w ws = none → t.reader.Failed .c03 s.reader.rows.length) ∧
        (∀ e, rowEntryOf w ws = some e → 65535 < e.listAddr + 3 → t.reader.Failed .c04 e.listAddr) ∧
        (∀ e, rowEntryOf w ws = some e → e.listAddr + 3 ≤ 65535 →
          t.reader.Reads e.listAddr 4 (.steps e a e.listAddr []))) ∧
      (∀ e ra a seen, s.reader.scan = .steps e ra a seen → s.KeepsBut t [.reader] ∧
        (ws.getD 0 0 = 0xFFFF → seen = [] → t.reader.Failed .c04 a) ∧
        (ws.getD 0 0 = 0xFFFF → seen ≠ [] → ∀ h, s.reader.draft = some h →
          (∀ i, firstTargetOut h.xmax h.ymax e seen = some i → t.reader.Failed .c05 (e.listAddr + 4 * i)) ∧
          (firstTargetOut h.xmax h.ymax e seen = none →
            (markPointOut h.xmax h.ymax e = true → t.reader.Failed .c05 ra) ∧
            (markPointOut h.xmax h.ymax e = false →
              (32 < imageTotal s.reader.rows + e.images ∨
                  4096 < panelSteps s.reader.rows + e.images * seen.length →
                t.reader.Failed .c06 s.reader.rows.length) ∧
              (imageTotal s.reader.rows + e.images ≤ 32 →
                panelSteps s.reader.rows + e.images * seen.length ≤ 4096 →
                t.reader.rows = s.reader.rows ++
                  [⟨e, seen.length, imageTotal s.reader.rows, panelSteps s.reader.rows⟩] ∧
                (ra + 8 ≤ 65535 → t.reader.Reads (ra + 8) 1 (.rowHead (ra + 8)))))) ) ∧
        (ws.getD 0 0 ≠ 0xFFFF → seen.length = 255 → t.reader.Failed .c04 a) ∧
        (ws.getD 0 0 ≠ 0xFFFF → seen.length ≠ 255 → ∀ h, s.reader.draft = some h →
          (checkedStep h.spanMin h.spanMax ws = none → t.reader.Failed .c04 a) ∧
          (∀ r, checkedStep h.spanMin h.spanMax ws = some r →
            (a + 7 ≤ 65535 → t.reader.Reads (a + 4) 4 (.steps e ra (a + 4) (seen ++ [r]))) ∧
            (65535 < a + 7 → t.reader.Failed .c04 (a + 4)))))

/-- The word of image count 0 after at least one row ends a valid start-up: the header values are handed on, the walk
and the window of M5 begin, the link runs at the header's rate with its receiver and its assembly begun anew, the idle
count 0 and a sending stopped with no retry counted, the run state is STOPPED, and the units make their start-up reads:
TBRK breaks the tape and TEND raises alarm 43, TOP active puts the head in TOP, and a board on BWK becomes UNTRACKED.
(The idle count's remainder and the bit `own` are the model's, log entries 8 and 9; the config reason stays as it was,
its reading, log entry 14; the start-up reads take the levels last reported, its choice, log entry 7.) -/
def Obligations.ValidStartUpEndsInStopped : Prop :=
  ∀ (s : State) (w : Word) (d : Read) (a : Nat) (h : Header), s.reader.read = some d → d.cursor = none → d.count = 1 →
    s.reader.scan = .rowHead a → w.toNat % 32 = 0 → s.reader.rows ≠ [] → s.reader.draft = some h →
    s.reader.buffer = [] → s.alarm.run = .configFault → s.alarm.list = [] → s.work.state = .empty →
    ∃ t, exec (.pmemReadCompletion [w]) s = .next t ∧
      t.hdr = some h ∧ t.pending = s.pending ∧ t.now = s.now ∧ t.lines = s.lines ∧ t.verifier = s.verifier ∧
      t.trav = s.trav ∧
      t.reader = { s.reader with
        phase := .walking, scan := .idle, draft := none, cursor := Cursor.first.next s.reader.rows,
        read := some ⟨stepAddr s.reader.rows Cursor.first, 4, some Cursor.first, false⟩ } ∧
      t.table = { s.table with commanded := { s.table.commanded with span := h.spanMin } } ∧
      t.link.butSlot = { s.link with
        divisor := h.divisor, period := h.statusPeriod, errors := 0, inCharacter := false, assembly := .skipping,
        own := false, idle := 0, idlePart := 0, sending := none }.butSlot ∧ t.link.due = true ∧
      t.alarm.windowTimer = some 1000 ∧
      t.alarm.run = (if s.lines.tbrk then .alarm else .stopped) ∧
      t.tape.fault = (if s.lines.tbrk then .broken else s.tape.fault) ∧
      t.alarm.listed .tapeBreak = s.lines.tbrk ∧ t.alarm.listed .tapeLow = s.lines.tend ∧
      t.head.phase = (if s.lines.top then .top else s.head.phase) ∧
      (s.lines.bwk = false → t.work = s.work) ∧
      (s.lines.bwk = true → ∃ b, t.work.board = some b ∧ b.reject = some .untracked ∧
        b.serial = nextSerial s.work.ownCounter ∧ t.work.state = (if h.options.bypass then .done else .clamping))

/-! ## Component verification -/

/-- The window of a RES step is the floor and the ceiling of the quotients the rule names, and lies from 862 to 3270; the
window of a JUMPER step runs from 0 to JUMPER_MAX; each verdict of a RES, a JUMPER and a DIODE measurement is given for
exactly the codes that come to its test. -/
def Obligations.VerdictsFollowTheTests : Prop :=
  (∀ m t : Nat, 10 ≤ m → m ≤ 99 → t ∈ [0, 1, 2, 5, 10, 20] →
    codeLo m t * (m * (100 - t) + 3000) ≤ 4095 * (m * (100 - t)) ∧
    4095 * (m * (100 - t)) < (codeLo m t + 1) * (m * (100 - t) + 3000) ∧
    4095 * (m * (100 + t)) ≤ codeHi m t * (m * (100 + t) + 3000) ∧
    (codeHi m t - 1) * (m * (100 + t) + 3000) < 4095 * (m * (100 + t)) ∧
    862 ≤ codeLo m t ∧ codeLo m t ≤ codeHi m t ∧ codeHi m t ≤ 3270) ∧
  (∀ (h : Header) (r : Record), r.kind = .res →
    windowOf h r = some (codeLo r.m (tolerancePercent r.tol), codeHi r.m (tolerancePercent r.tol))) ∧
  (∀ (h : Header) (r : Record), r.kind = .jumper → windowOf h r = some (0, h.jumperMax)) ∧
  [0, 1, 2, 3, 4, 5].map tolerancePercent = [0, 1, 2, 5, 10, 20] ∧
  (∀ (u : Setup) (lo hi c : Nat), u.window = some (lo, hi) →
    (u.kind = .res → classifySingle u c = classifyRes lo hi c) ∧
    (u.kind = .jumper → classifySingle u c = classifyJumper hi c)) ∧
  (∀ lo hi c : Nat, 5 < lo → lo ≤ hi → hi < 4090 →
    (classifyRes lo hi c = .short ↔ c ≤ 5) ∧ (classifyRes lo hi c = .openCircuit ↔ 4090 ≤ c) ∧
    (classifyRes lo hi c = .failLow ↔ 5 < c ∧ c < lo) ∧ (classifyRes lo hi c = .failHigh ↔ hi < c ∧ c < 4090) ∧
    (classifyRes lo hi c = .pass ↔ lo ≤ c ∧ c ≤ hi)) ∧
  (∀ hi c : Nat, hi < 4090 →
    (classifyJumper hi c = .openCircuit ↔ 4090 ≤ c) ∧ (classifyJumper hi c = .pass ↔ c ≤ hi) ∧
    (classifyJumper hi c = .failHigh ↔ hi < c ∧ c < 4090)) ∧
  (∀ lo hi f r : Nat, 6 ≤ lo → lo ≤ hi → hi ≤ 4089 →
    (classifyDiode lo hi f r = .short ↔ f ≤ 5 ∨ r ≤ 5) ∧
    (classifyDiode lo hi f r = .openCircuit ↔ 4090 ≤ f ∧ 4090 ≤ r) ∧
    (classifyDiode lo hi f r = .pass ↔ lo ≤ f ∧ f ≤ hi ∧ 4090 ≤ r) ∧
    (classifyDiode lo hi f r = .reversed ↔ 4090 ≤ f ∧ lo ≤ r ∧ r ≤ hi) ∧
    (classifyDiode lo hi f r = .failLow ↔ 5 < f ∧ 5 < r ∧ (f < lo ∨ f ≤ hi ∧ r < 4090)) ∧
    (classifyDiode lo hi f r = .failHigh ↔ 5 < r ∧ hi < f ∧ ¬(4090 ≤ f ∧ (4090 ≤ r ∨ lo ≤ r ∧ r ≤ hi))))

/-- CONVERSION_COMPLETION: an abandoned conversion frees the converter, and a measurement that waited for it starts its
own; the forward code of a DIODE starts the reverse conversion; any other code of a measurement gives its verdict: the
measured entry takes it with its codes, the jaws open, the verifier is IDLE, and M1 counts it. (The row acts on a
conversion in flight whatever time is left on the model's count: its choice, log entry 4.) -/
def Obligations.ConversionsComplete : Prop :=
  ∀ (s : State) (code : BitVec 12),
    (s.verifier.conversion = none → exec (.conversionCompletion code) s = .next s) ∧
    (∀ c, s.verifier.conversion = some c → ∃ t, exec (.conversionCompletion code) s = .next t ∧
      s.KeepsBut t [.verifier, .tape, .head, .work, .alarm] ∧
      (c.abandoned = true →
        t.tape = s.tape ∧ t.head = s.head ∧ t.work = s.work ∧ t.alarm = s.alarm ∧ t.verifier = { s.verifier with
          conversion := if s.verifier.phase = .converting1
            then s.verifier.setup.map (fun u => ⟨u.range, .ab, false, 2⟩) else none }) ∧
      (c.abandoned = false → ∀ u p, s.verifier.setup = some u → s.verifier.measured = some p →
        (s.verifier.phase = .converting1 → u.kind = .diode →
          t.tape = s.tape ∧ t.head = s.head ∧ t.work = s.work ∧ t.alarm = s.alarm ∧ t.verifier = { s.verifier with
            forward := some code.toNat, phase := .converting2, conversion := some ⟨u.range, .ba, false, 2⟩ }) ∧
        (∀ v codes,
          (s.verifier.phase = .converting1 ∧ u.kind ≠ .diode ∧ v = classifySingle u code.toNat ∧
              codes = [code.toNat]) ∨
            (s.verifier.phase = .converting2 ∧ ∃ f, s.verifier.forward = some f ∧
              v = classifyDiode s.header.diodeLo s.header.diodeHi f code.toNat ∧ codes = [f, code.toNat]) →
          t.tape.queue.map (fun e => (e.record, e.verdict, e.codes, e.attempted)) = s.tape.queue.map (fun e =>
            if e.record.lap = p.1 ∧ e.record.ordinal = p.2 then (e.record, v, codes, e.attempted)
            else (e.record, e.verdict, e.codes, e.attempted)) ∧
          t.verifier = { s.verifier with
            phase := .idle, measured := none, forward := none, backward := none, jawsClosed := false,
            conversion := none } ∧
          (s.alarm.run ≠ .configFault → t.alarm.m1.value =
            if v = .pass ∨ v = .reversed ∧ s.options.polarity = true then 0
            else min 65535 (s.alarm.m1.value + 1)))))

/-! ## The tape queue -/

/-- FEED_START starts a feed when all the conditions of the rule hold, and does nothing otherwise. -/
def Obligations.FeedStartsWhenItMay : Prop :=
  ∀ s : State,
    (s.CanFeed → ∃ t, exec .feedStart s = .next t ∧ t.out.feed = true ∧
      t.tape = { s.tape with feeding := true, timer := some s.header.feedTimeout, startedAt := s.now } ∧
      s.KeepsBut t [.tape]) ∧
    (¬s.CanFeed → exec .feedStart s = .next s)

/-- INDEX_EVENT ends a feed in flight: the buffer's oldest record leaves the buffer, whose next read is issued where
none is in flight, and joins the queue as its newest entry, ABSENT or PASS at once, or PENDING with the jaws closed and
the first conversion begun, and the older entries stand as they were; a verdict given at once counts in M1, which is
evaluated: up by one for ABSENT, 0 for the PASS of a NONE record. M3 takes the feed time. What is decided then, and
what board starts, `Obligations.TheOldestEntryIsDecidedByTheTable` says. With the feed IDLE the edge changes nothing
but the PRES sample. (With a feed in flight over an empty buffer the feed ends with no entry: the model's choice, log
entry 28.) -/
def Obligations.IndexEventEndsTheFeed : Prop :=
  ∀ (s : State) (pres : Bool), ∃ t, exec (.indexEvent pres) s = .next t ∧ t.lines = { s.lines with pres := pres } ∧
    (s.tape.feeding = false → s.KeepsBut t [.lines]) ∧
    (s.tape.feeding = true → t.tape.feeding = false ∧ t.tape.timer = none ∧
      s.KeepsBut t [.lines, .reader, .verifier, .tape, .head, .work, .alarm] ∧
      (s.reader.buffer = [] → t.tape.queue = s.tape.queue ∧ t.reader = s.reader ∧ t.verifier = s.verifier) ∧
      (∀ r rest, s.reader.buffer = r :: rest →
        t.reader = { s.reader with buffer := rest, read := t.reader.read, cursor := t.reader.cursor } ∧
        (if s.reader.phase = .walking ∧ rest.length < 4 ∧ s.reader.read = none then
          t.reader.read = some ⟨stepAddr s.reader.rows s.reader.cursor, 4, some s.reader.cursor, false⟩ ∧
            t.reader.cursor = s.reader.cursor.next s.reader.rows
        else t.reader.read = s.reader.read ∧ t.reader.cursor = s.reader.cursor) ∧
        (∀ v, v = (if pres = false then Verdict.absent else if r.kind = .none then .pass else .pending) →
          t.tape.queue.map Entry.held = s.tape.queue.map (fun e =>
            if v ≠ .pending ∧ e.record.lap = r.lap ∧ e.record.ordinal = r.ordinal then (e.record, v, [], e.attempted)
            else e.held) ++ [(r, v, [], false)]) ∧
        (∀ e, t.tape.queue.getLast? = some e → e.verdict =
          if pres = false then .absent else if r.kind = .none then .pass else .pending) ∧
        (pres = true ∧ r.kind ≠ .none →
          t.verifier.phase = .converting1 ∧ t.verifier.measured = some (r.lap, r.ordinal) ∧
          t.verifier.jawsClosed = true ∧
          t.verifier.setup = some ⟨r.kind, converterRange r, windowOf s.header r⟩ ∧
          (s.verifier.conversion = none → t.verifier.conversion = some ⟨converterRange r, .ab, false, 2⟩)) ∧
        (pres = false ∨ r.kind = .none →
          t.verifier.phase = .idle ∧ t.verifier.measured = none ∧ t.verifier.jawsClosed = false) ∧
        (∀ n, n = (if pres = true ∧ r.kind = .none then 0 else min 65535 (s.alarm.m1.value + 1)) →
          t.alarm.m1 = if pres = true ∧ r.kind ≠ .none then s.alarm.m1 else (s.evaluate .m1 n).alarm.m1) ∧
        (s.alarm.run ≠ .configFault → t.alarm.m3.value = min 65535 (s.now - s.tape.startedAt))))

/-- PASS_EXECUTION, when all the conditions of the rule hold: the oldest entry leaves the queue, its outcome goes to the
WORKING board of its lap (passed, missed with its reason and M2 evaluated, or none for a flush), in STEPPING the execution
is used, unless M2's stop alarm ends STEPPING first (the model's choice, log entry 12); at the panel's last ordinal the
board is DONE; the next feed starts where it may. Otherwise nothing happens. What is decided then
`Obligations.TheOldestEntryIsDecidedByTheTable` says. -/
def Obligations.PassesLeaveTheQueueAndAreCounted : Prop :=
  ∀ s : State,
    (¬(∃ e, s.CanPass e) → exec .passExecution s = .next s) ∧
    (∀ e, s.CanPass e → ∃ t, exec .passExecution s = .next t ∧
      t.tape.queue.map Entry.held = s.tape.queue.tail.map Entry.held ∧
      (s.alarm.run = .stepping → t.alarm.stepUsed = true ∨ t.alarm.run = .alarm) ∧
      s.KeepsBut t [.tape, .head, .work, .alarm] ∧ t.tape.fault = s.tape.fault ∧ s.FeedFollows t ∧
      ∀ o, (e.decision = some .passFlush ∧ o = none ∨ e.decision = some .passBad ∧ o = some .passed ∨
          ∃ r, e.decision = some (.passMiss r) ∧ o = some (.missed r)) →
        s.Counts t e.record.lap e.record.ordinal o ∧ s.MissEvaluated t e.record.lap o)

/-- TAPE_JAM, with a feed in flight: the feed ends with no entry, the fault is JAMMED, every verdict is UNCHECKED with
no codes, only the oldest entry and attempted ones can keep or take a decision, and alarm 41 is raised with the ordinal
that the feed was bringing. With the feed IDLE nothing happens. (That the row acts whenever a feed is in flight,
whatever time is left on the model's timer, is its choice, log entry 4.) -/
def Obligations.TapeJamResynchronisesTheQueue : Prop :=
  ∀ s : State,
    (s.tape.feeding = false → exec .tapeJam s = .next s) ∧
    (s.tape.feeding = true → ∃ t, exec .tapeJam s = .next t ∧
      t.tape.feeding = false ∧ t.tape.timer = none ∧ t.tape.fault = .jammed ∧
      t.tape.queue.map (fun e => (e.record, e.verdict, e.codes, e.attempted)) =
        s.tape.queue.map (fun e => (e.record, .unchecked, [], e.attempted)) ∧
      (∀ e ∈ t.tape.queue.tail, e.attempted = false → e.decision = none) ∧
      t.verifier.phase = .idle ∧ (s.verifier.phase = .idle → t.verifier = s.verifier) ∧
      t.alarm = (s.raise ⟨.tapeJam, s.workingSerial, s.reader.buffer.head?.map Record.ordinal, false⟩).alarm ∧
      s.KeepsBut t [.verifier, .tape, .alarm])

/-- The edges of TBRK and TEND, and both limits inactive. After a valid start-up an active TBRK ends a feed, leaves the
tape BROKEN and raises alarm 42 with its condition active; TEND raises alarm 43; an edge the other way reports the
condition no longer active and changes no fault. Before a valid start-up TBRK moves only its line. (An edge that no
unit acts on moves its line's level alone: the model's choice, log entry 7.) -/
def Obligations.TapeSensorsRaiseAndReport : Prop :=
  ∀ s : State,
    (∃ t, exec .tapeBreak s = .next t ∧ t.lines = { s.lines with tbrk := true } ∧
      (s.alarm.run = .configFault → s.KeepsBut t [.lines]) ∧
      (s.alarm.run ≠ .configFault →
        t.tape = { s.tape with feeding := false, timer := none, fault := .broken } ∧
        t.alarm = (s.raise ⟨.tapeBreak, s.workingSerial, none, true⟩).alarm ∧ s.KeepsBut t [.lines, .tape, .alarm])) ∧
    (∃ t, exec .tapeLow s = .next t ∧ t.lines = { s.lines with tend := true } ∧
      t.alarm = (s.raise ⟨.tapeLow, none, none, true⟩).alarm ∧ s.KeepsBut t [.lines, .alarm]) ∧
    (∃ t, exec .tbrkInactive s = .next t ∧ t.lines = { s.lines with tbrk := false } ∧
      t.alarm = { s.alarm with list := s.alarm.list.map (AlarmEntry.withPersists .tapeBreak false) } ∧
      s.KeepsBut t [.lines, .alarm]) ∧
    (∃ t, exec .tendInactive s = .next t ∧ t.lines = { s.lines with tend := false } ∧
      t.alarm = { s.alarm with list := s.alarm.list.map (AlarmEntry.withPersists .tapeLow false) } ∧
      s.KeepsBut t [.lines, .alarm]) ∧
    (∃ t, exec .limitInactive s = .next t ∧ t.lines = { s.lines with xlim := false, ylim := false } ∧
      t.alarm = { s.alarm with list := s.alarm.list.map (AlarmEntry.withPersists .tableLimit false) } ∧
      s.KeepsBut t [.lines, .alarm])

/-- The decision of the oldest entry: taken when its decision is absent, its verdict final, its attempted mark clear and
either the flush marker names its lap or a board of its lap is WORKING with the row's hold taken where the row carries
one; the first line of the decision table that fits. Otherwise the queue stays as it is. And of every step, whatever the
command: it leaves no decision, board start or row hold untaken and no flush marker of another lap; a decision that it takes
is the table's; a board that it starts takes the lap of the oldest entry, with M2's value 0 and no last cycle start; a row
hold that it takes joins the holds and leads through STOPPING with the hold reason ROW. -/
def Obligations.TheOldestEntryIsDecidedByTheTable : Prop :=
  (∀ s t : State, step s = .next t →
    (s.NothingLeft → t.NothingLeft) ∧ (s.WorkFits → s.DecidedIn t) ∧
    (s.work.state ≠ .working → t.work.state = .working → t.BoardStarted) ∧
    (∀ b b', s.WorkFits → s.trav.takeOpen = false → s.reader.scan = .idle → s.work.board = some b →
      s.work.state = .working → t.work.board = some b' → t.work.state = .working → b'.holds ≠ b.holds →
      t.HoldTaken b.holds)) ∧
  ∀ (s : State) (e : Entry) (es : List Entry), s.tape.queue = e :: es →
    (s.CanDecide e → ∃ d, s.decideOldest.tape.queue = { e with decision := some d } :: es ∧
      (s.tape.flush = some e.record.lap → d = .passFlush) ∧
      (s.tape.flush ≠ some e.record.lap → ∀ b, s.work.board = some b →
        (b.mask.getLsbD e.record.image = true → d = .passBad) ∧
        (b.mask.getLsbD e.record.image = false →
          (e.verdict = .pass → d = .insert) ∧
          (e.verdict = .unchecked → s.options.strict = false → d = .insert) ∧
          (e.verdict = .reversed → s.options.polarity = true → d = .insertCorrected) ∧
          (e.verdict ≠ .pass → (e.verdict = .unchecked → s.options.strict = true) →
            (e.verdict = .reversed → s.options.polarity = false) → ∃ r, d = .passMiss r ∧ r.code = e.verdict.code)))) ∧
    (¬s.CanDecide e → s.decideOldest = s)

/-! ## The table -/

/-- The move plan: an axis time never falls with the distance and meets the clamped table at every multiple of 512, is
interpolated with its fraction rounded up between them, and runs on at V_END past the table; the plan is 0 exactly
where the target equals the commanded values; every header that passes the checks gives such a table. -/
def Obligations.PlansAreZeroOnlyAtTheTarget : Prop :=
  (∀ w : Nat → Nat, headerFault w = none → (headerOf w).MovesFit) ∧
  (∀ h : Header, h.MovesFit →
    axisTime h 0 = 0 ∧ (∀ b, 1 ≤ b → b ≤ 32 → axisTime h (512 * b) = h.times.getD (b - 1) 0) ∧
    (∀ b r, b < 32 → r < 512 → axisTime h (512 * b + r) =
      (if b = 0 then 0 else h.times.getD (b - 1) 0) +
        ((h.times.getD b 0 - if b = 0 then 0 else h.times.getD (b - 1) 0) * r + 511) / 512) ∧
    (∀ d, 16384 ≤ d → axisTime h d = h.times.getD 31 0 + (d - 16384 + h.vEnd - 1) / h.vEnd) ∧
    (∀ d d', d ≤ d' → axisTime h d ≤ axisTime h d') ∧
    (∀ start goal, planOf h (driveTimes h start goal) = 0 ↔ goal = start) ∧
    (∀ start goal, goal ≠ start → planOf h (driveTimes h start goal) =
      max (max (axisTime h (goal.x - start.x).natAbs) (axisTime h (goal.y - start.y).natAbs))
        (max (h.tq * min (goal.turret - start.turret).toNat (start.turret - goal.turret).toNat)
          (ceilDiv ((goal.span : Int) - start.span).natAbs h.fs)) + h.settle))

/-- HOMING_BEGIN and HOME_SENSOR: homing begins when it is requested, the activity is IDLE and the head is at TOP; with
a limit active it does not and alarm 22 is raised; the drives whose home sensor reads inactive are driven, each until
its sensor reads active, and with the last one home homing completes. In HOMING the run state is then RUNNING, or HOLDING
at the same event under an asserted stop line, or STEPPING, whatever stands at the work position and wherever the head
is, unless a row hold is taken at once; a READY board starts, a STALLED operation restarts, and a HALTED head starts its
return, or with TOP active ends it at once. What is decided then `Obligations.TheOldestEntryIsDecidedByTheTable` says.
(The order of what the homing target brings about is the model's reading, log entry 11; that exit seen is set at the
start or restart of a conveyor out when BOUT already reads active is the model's reading, log entry 23, and a STALLED
operation may be one.) -/
def Obligations.HomingRunsEachDriveHome : Prop :=
  ∀ s : State,
    (∀ home bin, ∃ t, exec (.homingBegin home bin) s = .next t ∧ t.lines = { s.lines with home := home, bin := bin } ∧
      (¬s.CanHome → s.KeepsBut t [.lines]) ∧
      (s.CanHome → (s.lines.xlim = true ∨ s.lines.ylim = true) →
        t.table = { s.table with homingTimer := none } ∧
        t.alarm = (s.raise ⟨.tableLimit, s.boardSerial, none, true⟩).alarm ∧ s.KeepsBut t [.lines, .table, .alarm]) ∧
      (s.CanHome → s.lines.xlim = false → s.lines.ylim = false →
        (home ≠ ⟨true, true, true, true⟩ →
          t.table = { s.table with activity := .homing, seeking := t.table.seeking } ∧
          (Axis.x ∈ t.table.seeking ↔ home.x = false) ∧ (Axis.y ∈ t.table.seeking ↔ home.y = false) ∧
          (Axis.turret ∈ t.table.seeking ↔ home.turret = false) ∧
          (Axis.former ∈ t.table.seeking ↔ home.former = false) ∧ s.KeepsBut t [.lines, .table]) ∧
        (home = ⟨true, true, true, true⟩ → s.Homes t))) ∧
    (∀ axis bin, ∃ t, exec (.homeSensor axis bin) s = .next t ∧
      t.lines = { s.lines with home := homeReach s.lines.home axis, bin := bin } ∧
      (s.table.activity ≠ .homing → s.KeepsBut t [.lines]) ∧
      (s.table.activity = .homing →
        ((∃ a ∈ s.table.seeking, a ≠ axis) →
          t.table = { s.table with seeking := t.table.seeking } ∧
          (∀ a, a ∈ t.table.seeking ↔ a ∈ s.table.seeking ∧ a ≠ axis) ∧ s.KeepsBut t [.lines, .table]) ∧
        ((∀ a ∈ s.table.seeking, a = axis) → s.Homes t)))

/-- HOME_FAIL and TABLE_LIMIT: the homing timer's expiry ends homing unhomed with alarm 21; a limit edge in HOMING or
MOVING stops it, clears the homed flag and raises alarm 22, with the ordinal an INSERT move served, and a MARK move
that ended is asked for again (for the scan cursor's image, also where the move was for another: the model's reading,
log entry 17); with the activity IDLE the edge only reports the condition of a listed alarm 22 active. (HOME_FAIL acts
while the homing timer runs: the model's choice, log entry 4; before a valid start-up the edge moves its line alone,
log entry 7.) -/
def Obligations.HomeFailAndLimitsEndMotion : Prop :=
  ∀ s : State,
    (s.table.homingTimer = none → exec .homeFail s = .next s) ∧
    (s.table.homingTimer ≠ none → ∃ t, exec .homeFail s = .next t ∧
      t.table = { s.table with homingTimer := none, seeking := [], homed := false, activity := t.table.activity } ∧
      (s.table.activity ≠ .moving → t.table.activity = .idle) ∧ (s.table.activity = .moving → t.table.activity = .moving) ∧
      t.alarm = (s.raise ⟨.homeFail, s.boardSerial, none, false⟩).alarm ∧ s.KeepsBut t [.table, .alarm]) ∧
    (∀ axis, ∃ t, exec (.tableLimit axis) s = .next t ∧
      (axis = .x → t.lines = { s.lines with xlim := true }) ∧ (axis = .y → t.lines = { s.lines with ylim := true }) ∧
      (s.alarm.run = .configFault → s.KeepsBut t [.lines]) ∧
      (s.alarm.run ≠ .configFault → s.table.activity = .homing →
        t.table = { s.table with activity := .idle, homingTimer := none, seeking := [], homed := false } ∧
        t.alarm = (s.raise ⟨.tableLimit, s.boardSerial, none, true⟩).alarm ∧ s.KeepsBut t [.lines, .table, .alarm]) ∧
      (s.alarm.run ≠ .configFault → s.table.activity = .moving → ∀ m, s.table.slot = some m →
        t.table = { s.table with activity := .idle, slot := none, homed := false, markRequest := t.table.markRequest } ∧
        s.KeepsBut t [.lines, .table, .alarm] ∧
        (∀ lap k, m.purpose = .insert lap k → t.table.markRequest = s.table.markRequest ∧
          t.alarm = (s.raise ⟨.tableLimit, s.boardSerial, some k, true⟩).alarm) ∧
        (∀ g, m.purpose = .mark g → t.alarm = (s.raise ⟨.tableLimit, s.boardSerial, none, true⟩).alarm ∧
          (s.work.state = .scanning → s.work.scan ≠ none → t.table.markRequest = s.work.scan) ∧
          (s.work.state ≠ .scanning → t.table.markRequest = s.table.markRequest))) ∧
      (s.alarm.run ≠ .configFault → s.table.activity = .idle →
        t.alarm = { s.alarm with list := s.alarm.list.map (AlarmEntry.withPersists .tableLimit true) } ∧
        s.KeepsBut t [.lines, .alarm]))

/-- INSERT_MOVE_START: the move of the oldest entry starts when all the conditions hold and no limit reads active: the
plan slot is filled, the commanded values become the target. With a limit active the homed flag is cleared and alarm 22
raised. Otherwise nothing happens. The target of a corrected entry stands a half turn round. -/
def Obligations.InsertMovesStartFromTheCommandedValues : Prop :=
  ∀ s : State,
    (¬(∃ e goal, s.CanMove e goal) → exec .insertMoveStart s = .next s) ∧
    (∀ e goal, s.CanMove e goal → ∃ t, exec .insertMoveStart s = .next t ∧
      (goal.x = e.record.x ∧ goal.y = e.record.y ∧ goal.span = e.record.span ∧
        goal.turret = if e.decision = some .insertCorrected then e.record.turret + 2 else e.record.turret) ∧
      (s.lines.xlim = false → s.lines.ylim = false →
        t.table = s.table.moved s.header s.now (.insert e.record.lap e.record.ordinal) goal ∧ s.KeepsBut t [.table]) ∧
      ((s.lines.xlim = true ∨ s.lines.ylim = true) →
        t.table = { s.table with homed := false } ∧
        t.alarm = (s.raise ⟨.tableLimit, s.boardSerial, some e.record.ordinal, true⟩).alarm ∧
        s.KeepsBut t [.table, .alarm]))

/-- MARK_MOVE_START: the held request's move to the image's mark point starts under the commanded turret and span; with
a plan of 0 the arrival is reported at once; with a limit active it does not start, and the request is kept. Without
the conditions only the MARK sample is taken. The image to visit next is the lowest, from where the scan stands, that
its row flags and the bad mask does not hold. (That an arrival counts only for the scan cursor's image of a SCANNING
board is the model's reading, log entry 17.) -/
def Obligations.MarkMovesVisitTheMarkPoint : Prop :=
  (∀ rows mask start g, nextMarkImage rows mask start = some g ↔
    (start ≤ g ∧ MarkImage rows mask g ∧ ∀ k, start ≤ k → k < g → ¬MarkImage rows mask k)) ∧
  ∀ (s : State) (mark : Bool), ∃ t, exec (.markMoveStart mark) s = .next t ∧ t.lines = { s.lines with mark := mark } ∧
    (¬(∃ g, s.CanMarkMove g) → s.KeepsBut t [.lines]) ∧
    (∀ g r, s.CanMarkMove g → rowOfImage s.reader.rows g = some r →
      ∀ goal : Target, goal.x = r.entry.x0 + (g - r.base : Nat) * r.entry.px + r.entry.mx →
        goal.y = r.entry.y0 + (g - r.base : Nat) * r.entry.py + r.entry.my →
        goal.turret = s.table.commanded.turret → goal.span = s.table.commanded.span →
      (goal = s.table.commanded →
        s.SawMark t g mark ∧ t.table = { s.table with markRequest := t.table.markRequest } ∧
        s.KeepsBut t [.lines, .table, .work, .tape, .head, .alarm]) ∧
      (goal ≠ s.table.commanded → s.lines.xlim = false → s.lines.ylim = false →
        t.table = { s.table.moved s.header s.now (.mark g) goal with markRequest := none } ∧
        s.KeepsBut t [.lines, .table]) ∧
      (goal ≠ s.table.commanded → (s.lines.xlim = true ∨ s.lines.ylim = true) →
        t.table = { s.table with homed := false } ∧
        t.alarm = (s.raise ⟨.tableLimit, s.boardSerial, none, true⟩).alarm ∧ s.KeepsBut t [.lines, .table, .alarm]))

/-- MOVE_COMPLETE: the move in flight completes: the plan slot is emptied, a MARK move samples MARK for its image, and
the move of the oldest entry as it then stands is tried again. With no move in flight only the MARK sample is taken.
(That an arrival counts only for the scan cursor's image of a SCANNING board is the model's reading, log entry 17; that
the row acts whatever time is left of the move is its choice, log entry 4.) -/
def Obligations.CompletedMovesFreeTheTable : Prop :=
  ∀ (s : State) (mark : Bool), ∃ t, exec (.moveComplete mark) s = .next t ∧ t.lines = { s.lines with mark := mark } ∧
    (s.table.activity ≠ .moving → s.KeepsBut t [.lines]) ∧
    (s.table.activity = .moving → ∀ m, s.table.slot = some m →
      (∀ g, m.purpose = .mark g → s.SawMark t g mark ∧ s.KeepsBut t [.lines, .table, .work, .tape, .head, .alarm] ∧
        (t.table.activity = .idle ∧ t.table.slot = none ∨
          ∃ lap k, t.table.activity = .moving ∧ t.table.slot.map Move.purpose = some (.insert lap k))) ∧
      (∀ lap k, m.purpose = .insert lap k →
        s.KeepsBut t [.lines, .table, .alarm] ∧
        (¬(∃ e goal, s.freeTable.CanMove e goal) → t.table = s.freeTable.table) ∧
        (∀ e goal, s.freeTable.CanMove e goal → s.lines.xlim = false → s.lines.ylim = false →
          t.table = s.freeTable.table.moved s.header s.now (.insert e.record.lap e.record.ordinal) goal)))

/-! ## The head -/

/-- STROKE_START starts a stroke when the cycle gate is open, and does nothing otherwise: the served entry and the stroke
start are recorded, M0 takes the time from the last cycle start where there is one, the head goes down under its timer,
and in STEPPING the execution is used. (The stroke starts also where M0's own stop alarm leaves RUNNING, and the last cycle
start then ends as none: the model's reading, log entry 22.) -/
def Obligations.StrokesStartAtTheOpenGate : Prop :=
  ∀ s : State,
    (¬(∃ e, s.GateOpen e) → exec .strokeStart s = .next s) ∧
    (∀ e, s.GateOpen e → ∃ t, exec .strokeStart s = .next t ∧
      t.head = { s.head with
        served := some (e.record.lap, e.record.ordinal), strokeStart := some s.now, phase := .down, drive := .down,
        timer := some s.header.downTimeout,
        lastCycle := if t.alarm.run = .running then some s.now
          else if s.alarm.run = .running then none else s.head.lastCycle } ∧
      (∀ c, s.head.lastCycle = some c → t.alarm.m0.value = min 65535 (s.now - c)) ∧
      (s.head.lastCycle = none → t.alarm.m0 = s.alarm.m0 ∧ t.alarm.run = s.alarm.run ∧ t.alarm.list = s.alarm.list ∧
        (s.alarm.run = .stepping → t.alarm.stepUsed = true)) ∧
      s.KeepsBut t [.head, .alarm])

/-- BOTTOM_EDGE, CLINCH_DONE_EDGE and CONFIRM_SAMPLE end the phases DOWN, CLINCH and SENSE; a lead is found when its line
read active at both samples. In any other phase each is ignored. (That CONFIRM_SAMPLE acts in SENSE whatever is left of
the 2 ms is the model's choice, log entry 4.) -/
def Obligations.PhasesEndAtTheirSensors : Prop :=
  ∀ s : State,
    (s.head.phase ≠ .down → exec .bottomEdge s = .next s) ∧
    (s.head.phase = .down → ∃ t, exec .bottomEdge s = .next t ∧
      t.head = { s.head with phase := .clinch, clinchOn := true, timer := some s.header.clinchTimeout } ∧
      s.KeepsBut t [.head]) ∧
    (∀ a b, s.head.phase ≠ .clinch → exec (.clinchDoneEdge a b) s = .next s) ∧
    (∀ a b, s.head.phase = .clinch → ∃ t, exec (.clinchDoneEdge a b) s = .next t ∧
      t.head = { s.head with phase := .sense, timer := none, first := some ⟨a, b⟩, confirm := some 2 } ∧
      t.lines = { s.lines with cla := a, clb := b } ∧ s.KeepsBut t [.lines, .head]) ∧
    (∀ a b, (s.head.phase ≠ .sense ∨ s.head.first = none) → exec (.confirmSample a b) s = .next s) ∧
    (∀ a b f, s.head.phase = .sense → s.head.first = some f → ∃ t, exec (.confirmSample a b) s = .next t ∧
      t.head = { s.head with
        lead := some ⟨f.a && a, f.b && b⟩, lastLead := some ⟨f.a && a, f.b && b⟩, first := none, confirm := none,
        clinchOn := false, drive := .up, phase := .up, timer := some s.header.upTimeout } ∧
      t.lines = { s.lines with cla := a, clb := b } ∧ s.KeepsBut t [.lines, .head])

/-- TOP_EDGE in UP completes the stroke: the head is at TOP, M4 takes the stroke time, the oldest entry leaves the
queue, and its outcome goes to the WORKING board of its lap: inserted when both leads were found, else missed for
LEAD_MISS with M2 evaluated and alarm 34 raised, in that order (the model's reading, log entry 12); an entry not
decided INSERT or INSERT_CORRECTED counts nowhere; the next feed starts where it may. In RETURN it completes the
recovery return, which removes an attempted oldest entry as missed for HEAD_JAM and in STEPPING uses the execution;
with none removed, no execution is used. In any other phase only the line is noted. What is decided then
`Obligations.TheOldestEntryIsDecidedByTheTable` says. (An edge that no phase waits for moves the level of TOP alone:
the model's choice, log entry 7.) -/
def Obligations.StrokesEndAtTheTop : Prop :=
  ∀ s : State, ∃ t, exec .topEdge s = .next t ∧ t.lines = { s.lines with top := true } ∧
    (s.head.phase ≠ .up → s.head.phase ≠ .returning → s.KeepsBut t [.lines]) ∧
    (s.head.phase = .up → ∀ e l, s.tape.queue.head? = some e → s.head.lead = some l →
      t.head.phase = .top ∧ t.head.drive = .off ∧ t.head.timer = none ∧ t.head.served = none ∧
      t.head.strokeStart = none ∧ t.head.lead = none ∧ t.head.lastLead = s.head.lastLead ∧
      t.tape.queue.map Entry.held = s.tape.queue.tail.map Entry.held ∧ t.tape.fault = s.tape.fault ∧
      (s.tape.feeding = false → s.FeedFollows t) ∧
      (s.alarm.run ≠ .configFault → ∀ c, s.head.strokeStart = some c → t.alarm.m4.value = min 65535 (s.now - c)) ∧
      s.Counts t e.record.lap e.record.ordinal (if e.target = none then none
        else if l.a = true ∧ l.b = true then some .inserted else some (.missed .leadMiss)) ∧
      (∀ c, s.head.strokeStart = some c → s.StrokeAlarms t e (l.a && l.b) (s.now - c)) ∧
      (∀ n, e.target ≠ none → (l.a && l.b) = false → s.missesAfter e.record.lap = some n →
        t.alarm.m2 = (s.evaluate .m2 n).alarm.m2) ∧
      s.KeepsBut t [.lines, .tape, .head, .work, .alarm]) ∧
    (s.head.phase = .returning →
      t.head.phase = .top ∧ t.head.drive = .off ∧ t.head.timer = none ∧
      s.KeepsBut t [.lines, .tape, .head, .work, .alarm] ∧
      (∀ e, s.tape.queue.head? = some e → e.attempted = true →
        t.tape.queue.map Entry.held = s.tape.queue.tail.map Entry.held ∧ t.tape.fault = s.tape.fault ∧
        (s.tape.feeding = false → s.FeedFollows t) ∧
        s.Counts t e.record.lap e.record.ordinal (if e.target = none then none else some (.missed .headJam)) ∧
        s.MissEvaluated t e.record.lap (if e.target = none then none else some (.missed .headJam)) ∧
        (s.alarm.run = .stepping → t.alarm.stepUsed = true ∨ t.alarm.run = .alarm) ∧
        (s.alarm.run ≠ .stepping → t.alarm.stepUsed = s.alarm.stepUsed)) ∧
      ((∀ e, s.tape.queue.head? = some e → e.attempted = false) →
        t.tape = s.tape ∧ t.work = s.work ∧ t.alarm.stepUsed = s.alarm.stepUsed))

/-- HEAD_JAM in DOWN, CLINCH or UP halts the head, marks the oldest entry attempted and raises alarm 31, 32 or 33; in
RETURN it halts the head and raises alarm 33; in any other phase it is ignored. HEAD_DROP halts a head that stands at
TOP, after a valid start-up, with alarm 33. (HEAD_JAM acts in these phases whatever time is left on the model's timer:
its choice, log entry 4; a HEAD_DROP that the head unit does not act on moves the level of TOP alone, log entry 7.) -/
def Obligations.JamsAndDropsHaltTheHead : Prop :=
  ∀ s : State,
    (∀ code, ((s.head.phase = .down ∧ code = AlarmCode.downJam) ∨ (s.head.phase = .clinch ∧ code = .clinchJam) ∨
        (s.head.phase = .up ∧ code = .upJam)) →
      ∃ t, exec .headJam s = .next t ∧
        t.head = { s.head with
          drive := .off, clinchOn := false, timer := none, phase := .halted, strokeStart := none, first := none,
          lead := none, served := none, lastCycle := t.head.lastCycle } ∧
        (∀ e es, s.tape.queue = e :: es → t.tape = { s.tape with queue := { e with attempted := true } :: es }) ∧
        (s.tape.queue = [] → t.tape = s.tape) ∧
        t.alarm = (s.raise ⟨code, s.workingSerial, s.tape.queue.head?.map (·.record.ordinal), false⟩).alarm ∧
        s.KeepsBut t [.tape, .head, .alarm]) ∧
    (s.head.phase = .returning → ∃ t, exec .headJam s = .next t ∧
      t.head = { s.head with drive := .off, timer := none, phase := .halted, lastCycle := t.head.lastCycle } ∧
      (∀ ordinal, (∀ e, s.tape.queue.head? = some e → ordinal = if e.attempted then some e.record.ordinal else none) →
        (s.tape.queue = [] → ordinal = none) →
        t.alarm = (s.raise ⟨.upJam, s.workingSerial, ordinal, false⟩).alarm) ∧
      s.KeepsBut t [.head, .alarm]) ∧
    (s.head.phase = .top ∨ s.head.phase = .sense ∨ s.head.phase = .halted → exec .headJam s = .next s) ∧
    (∃ t, exec .headDrop s = .next t ∧ t.lines = { s.lines with top := false } ∧
      (s.alarm.run = .configFault ∨ s.head.phase ≠ .top → s.KeepsBut t [.lines]) ∧
      (s.alarm.run ≠ .configFault → s.head.phase = .top →
        t.head = { s.head with drive := .off, phase := .halted, lastCycle := t.head.lastCycle } ∧
        t.alarm = (s.raise ⟨.upJam, s.boardSerial, none, false⟩).alarm ∧ s.KeepsBut t [.lines, .head, .alarm]))

/-! ## The board at the work position -/

/-- CONVEYOR_IN_START and BWK_INACTIVE: a board at BIN starts the conveyor in when the work position is EMPTY, BWK
reads inactive and the run state lets work start; otherwise only the lines are noted. (That a row that does not apply
moves its lines' levels alone is the model's choice, log entries 7 and 19.) -/
def Obligations.BoardsEnterAnEmptyWorkPosition : Prop :=
  ∀ s : State,
    (∃ t, exec .conveyorInStart s = .next t ∧ t.lines = { s.lines with bin := true } ∧
      (s.MayStart → s.work.state = .empty → s.lines.bwk = false →
        t.work = { s.work with
          state := .entering, convIn := true, op := some (.conveyorIn, .driving),
          opTimer := some s.header.arriveTimeout } ∧
        s.KeepsBut t [.lines, .work]) ∧
      (¬(s.MayStart ∧ s.work.state = .empty ∧ s.lines.bwk = false) → s.KeepsBut t [.lines])) ∧
    (∀ bin, ∃ t, exec (.bwkInactive bin) s = .next t ∧ t.lines = { s.lines with bwk := false, bin := bin } ∧
      s.KeepsBut t [.lines])

/-- BWK_ACTIVE and MATCH_TIMEOUT: an arrival counts in the accept counter and is matched: at the line head with a
serial of the own board counter, elsewhere with the oldest traveller, at once as UNTRACKED when TRAV_WAIT is 0, or
after the wait; a board found at BWK in EMPTY, and one whose wait runs out, are UNTRACKED, and the accept counter
stays. In any other state, and before a valid start-up, only the line is noted. (A board made while no work may start
is in CLAMPING with an operation that waits: the condition of an operation that waits for its start is the model's own,
log entry 13. The row MATCH_TIMEOUT acts while the match timer runs: log entry 4; an edge that no unit acts on moves
its line's level alone: the model's choice, log entry 7.) -/
def Obligations.ArrivingBoardsAreMatched : Prop :=
  ∀ s : State,
    (∃ t, exec .bwkActive s = .next t ∧ t.lines = { s.lines with bwk := true } ∧
      (s.alarm.run = .configFault ∨ (s.work.state ≠ .entering ∧ s.work.state ≠ .empty) → s.KeepsBut t [.lines]) ∧
      (s.alarm.run ≠ .configFault → s.work.state = .entering →
        t.work.accept = s.work.accept + 1 ∧ t.work.convIn = false ∧
        s.KeepsBut t [.lines, .tape, .table, .head, .work, .trav, .alarm] ∧
        (s.role = .lineHead →
          s.BoardMade t (nextSerial s.work.ownCounter) 0 none [] 0 ∧ t.work.ownCounter = nextSerial s.work.ownCounter ∧
          t.trav = s.trav) ∧
        (s.role ≠ .lineHead → ∀ a rest, s.trav.arrivals = a :: rest →
          t.trav = { s.trav with arrivals := rest } ∧ t.work.ownCounter = s.work.ownCounter ∧
          s.BoardMade t a.traveller.serial a.traveller.mask
            (if a.traveller.reject = none then none else some .upstream) a.traveller.stages a.traveller.dropped) ∧
        (s.role ≠ .lineHead → s.trav.arrivals = [] → s.header.travWait = 0 →
          t.trav = s.trav ∧ t.work.ownCounter = nextSerial s.work.ownCounter ∧
          s.BoardMade t (nextSerial s.work.ownCounter) 0 (some .untracked) [] 0) ∧
        (s.role ≠ .lineHead → s.trav.arrivals = [] → s.header.travWait ≠ 0 →
          t.trav = { s.trav with takeOpen := true } ∧
          t.work = { s.work with
            convIn := false, op := none, opTimer := none, accept := s.work.accept + 1, state := .matching,
            matchTimer := some s.header.travWait })) ∧
      (s.alarm.run ≠ .configFault → s.work.state = .empty →
        t.work.accept = s.work.accept ∧ t.trav = s.trav ∧ t.work.ownCounter = nextSerial s.work.ownCounter ∧
        s.KeepsBut t [.lines, .tape, .table, .head, .work, .alarm] ∧
        s.BoardMade t (nextSerial s.work.ownCounter) 0 (some .untracked) [] 0)) ∧
    (s.work.state = .matching ∧ s.work.matchTimer ≠ none → ∃ t, exec .matchTimeout s = .next t ∧
      t.trav = { s.trav with takeOpen := false } ∧ t.work.accept = s.work.accept ∧
      t.work.ownCounter = nextSerial s.work.ownCounter ∧
      s.BoardMade t (nextSerial s.work.ownCounter) 0 (some .untracked) [] 0 ∧
      s.KeepsBut t [.tape, .table, .head, .work, .trav, .alarm]) ∧
    (¬(s.work.state = .matching ∧ s.work.matchTimer ≠ none) → exec .matchTimeout s = .next s)

/-- CLAMP_START and CONVEYOR_OUT_START start an operation that waits for its first start when the run state lets work
start: its drive is set, it is DRIVING under its timer, and it completes at once when its sensor already reads as it
must; otherwise nothing happens. CLAMPED_ACTIVE and CLAMPED_INACTIVE: CLAMP completes, DRIVING or STALLED, and the
board is scanned or READY; with the CLAMP drive on the clamped flag is set again; UNCLAMP completes, and the conveyor
out follows or waits; a clamped board that is no longer held loses its flag and raises alarm 52; otherwise only the
line is noted. (The condition of an operation that waits is the model's own, log entry 13; that a conveyor out has the
exit seen at its start when BOUT already reads active is the model's reading, log entry 23; an edge that no unit acts
on moves its line's level alone: the model's choice, log entry 7.) -/
def Obligations.OperationsStartAndTheClampFollows : Prop :=
  ∀ s : State,
    (s.MayStart ∧ s.work.op = some (.clamp, .waiting) → ∃ t, exec .clampStart s = .next t ∧
      (s.lines.clamped = false → t.work = { s.work with
          clampOn := true, op := some (.clamp, .driving), opTimer := some s.header.clampTimeout } ∧
        s.KeepsBut t [.work]) ∧
      (s.lines.clamped = true → s.ClampCloses t ∧ s.KeepsBut t [.tape, .table, .head, .work, .alarm])) ∧
    (¬(s.MayStart ∧ s.work.op = some (.clamp, .waiting)) → exec .clampStart s = .next s) ∧
    (s.MayStart ∧ s.work.op = some (.conveyorOut, .waiting) → ∃ t, exec .conveyorOutStart s = .next t ∧
      (s.work.exitSeen = false ∨ s.lines.bout = true → s.OutDriving t ∧ t.work.exitSeen = (s.work.exitSeen || s.lines.bout) ∧
        s.KeepsBut t [.work]) ∧
      (s.work.exitSeen = true → s.lines.bout = false → s.BoardGone t ∧ s.KeepsBut t [.work, .trav])) ∧
    (¬(s.MayStart ∧ s.work.op = some (.conveyorOut, .waiting)) → exec .conveyorOutStart s = .next s) ∧
    (∃ t, exec .clampedActive s = .next t ∧ t.lines = { s.lines with clamped := true } ∧
      (s.Under .clamp → s.ClampCloses t ∧ s.KeepsBut t [.lines, .tape, .table, .head, .work, .alarm]) ∧
      (¬s.Under .clamp → s.work.clampOn = true → t.work = { s.work with clamped := true } ∧ s.KeepsBut t [.lines, .work]) ∧
      (¬s.Under .clamp → s.work.clampOn = false → s.KeepsBut t [.lines])) ∧
    (∃ t, exec .clampedInactive s = .next t ∧ t.lines = { s.lines with clamped := false } ∧
      (s.Under .unclamp → s.KeepsBut t [.lines, .work, .trav, .alarm] ∧
        (¬s.MayStart → t.work = { s.work with op := some (.conveyorOut, .waiting), opTimer := none }) ∧
        (s.MayStart → (s.work.exitSeen = false ∨ s.lines.bout = true) →
          s.OutDriving t ∧ t.work.exitSeen = (s.work.exitSeen || s.lines.bout)) ∧
        (s.MayStart → s.work.exitSeen = true → s.lines.bout = false → s.BoardGone t)) ∧
      (¬s.Under .unclamp → s.work.clamped = true →
        t.work = { s.work with clamped := false } ∧
        t.alarm = (s.raise ⟨.clampJam, s.boardSerial, none, false⟩).alarm ∧ s.KeepsBut t [.lines, .work, .alarm]) ∧
      (¬s.Under .unclamp → s.work.clamped = false → s.KeepsBut t [.lines]))

/-- LINE_END_RELEASE, BOUT_ACTIVE and BOUT_INACTIVE: at the line end a DONE board is released when UNLOAD_READY reads
active and the run state lets work start, the gate set first from its reject flag; under CONVEYOR_OUT an active BOUT
sets exit seen, and BOUT inactive with exit seen set ends the visit: the board record is discarded, the state is EMPTY
and, not at the line end, a hand-off in SENT is timed. Otherwise only the lines are noted. (Exit seen is set also while
the conveyor out is STALLED, and at its start with BOUT active: the model's reading, log entry 23; an edge that no unit
acts on moves its line's level alone: the model's choice, log entry 7.) -/
def Obligations.BoardsLeaveThroughTheExit : Prop :=
  ∀ s : State,
    (∃ t, exec .lineEndRelease s = .next t ∧ t.lines = { s.lines with unloadReady := true } ∧
      (s.MayStart ∧ s.role = .lineEnd ∧ s.work.state = .done → ∀ b, s.work.board = some b →
        t.work.gateReject = b.reject.isSome ∧ s.Released t ∧ s.KeepsBut t [.lines, .work]) ∧
      (¬(s.MayStart ∧ s.role = .lineEnd ∧ s.work.state = .done) → s.KeepsBut t [.lines])) ∧
    (∃ t, exec .boutActive s = .next t ∧ t.lines = { s.lines with bout := true } ∧
      (s.Under .conveyorOut → t.work = { s.work with exitSeen := true } ∧ s.KeepsBut t [.lines, .work]) ∧
      (¬s.Under .conveyorOut → s.KeepsBut t [.lines])) ∧
    (∀ bin, ∃ t, exec (.boutInactive bin) s = .next t ∧ t.lines = { s.lines with bout := false, bin := bin } ∧
      (s.Under .conveyorOut ∧ s.work.exitSeen = true → s.BoardGone t ∧ s.KeepsBut t [.lines, .work, .trav, .alarm]) ∧
      (¬(s.Under .conveyorOut ∧ s.work.exitSeen = true) → s.KeepsBut t [.lines]))

/-- OPERATION_TIMEOUT stalls the operation that is DRIVING: its timer stops, CONV_IN, CONV_OUT or the CLAMP drive of a
CLAMP goes off, the state stays, and alarm 51, 52 or 53 is raised with the board's serial. With none DRIVING nothing
happens. (The row acts on an operation DRIVING whatever time is left on the model's timer: its choice, log entry 4.) -/
def Obligations.OperationsStallAtTheirTimeout : Prop :=
  ∀ s : State,
    ((∀ k, s.work.op ≠ some (k, .driving)) → exec .operationTimeout s = .next s) ∧
    (∀ k code, s.work.op = some (k, .driving) →
      ((k = .conveyorIn ∧ code = AlarmCode.arriveTimeout) ∨ ((k = .clamp ∨ k = .unclamp) ∧ code = .clampJam) ∨
        (k = .conveyorOut ∧ code = .outJam)) →
      ∃ t, exec .operationTimeout s = .next t ∧
        t.work = { s.work with
          op := some (k, .stalled), opTimer := none, convIn := s.work.convIn && decide (k ≠ .conveyorIn),
          convOut := s.work.convOut && decide (k ≠ .conveyorOut), clampOn := s.work.clampOn && decide (k ≠ .clamp) } ∧
        t.alarm.list = (s.raise ⟨code, s.boardSerial, none, false⟩).alarm.list ∧
        (t.alarm.run = (s.raise ⟨code, s.boardSerial, none, false⟩).alarm.run ∨
          t.alarm.run = .stopped ∧ (s.alarm.run = .stopping ∨ s.alarm.run = .stepping)) ∧
        s.KeepsBut t [.work, .alarm])

/-- PURGE, in STOPPED or ALARM with the work position not EMPTY, removes the board: every drive off, no operation, no
record, EMPTY; a scan's request is withdrawn, a match wait's take closed, the hold reason cleared, and for a WORKING board
the flush is armed for its lap. Otherwise nothing happens. -/
def Obligations.PurgeRemovesTheBoard : Prop :=
  ∀ s : State,
    (¬((s.alarm.run = .stopped ∨ s.alarm.run = .alarm) ∧ s.work.state ≠ .empty) → exec .purge s = .next s) ∧
    ((s.alarm.run = .stopped ∨ s.alarm.run = .alarm) ∧ s.work.state ≠ .empty → ∃ t, exec .purge s = .next t ∧
      t.work = { s.work with
        convIn := false, convOut := false, clampOn := false, opTimer := none, matchTimer := none, op := none,
        clamped := false, exitSeen := false, board := none, scan := none, state := .empty } ∧
      t.table = { s.table with markRequest := if s.work.state = .scanning then none else s.table.markRequest } ∧
      t.trav = { s.trav with takeOpen := s.trav.takeOpen && decide (s.work.state ≠ .matching) } ∧
      t.alarm = { s.alarm with rowHold := false } ∧ s.KeepsBut t [.tape, .table, .work, .trav, .alarm] ∧
      (s.work.state ≠ .working → t.tape = s.tape) ∧
      (∀ b l, s.work.state = .working → s.work.board = some b → b.lap = some l →
        t.tape = { s.tape with queue := t.tape.queue, flush := t.tape.flush } ∧
        t.tape.queue.map (fun e => (e.record, e.verdict, e.codes, e.attempted)) =
          s.tape.queue.map (fun e => (e.record, e.verdict, e.codes, e.attempted)) ∧
        (t.tape.flush = if ∃ e, s.tape.queue.head? = some e ∧ e.record.lap ≠ l then none else some l) ∧
        (∀ e ∈ t.tape.queue.tail, e.record.lap = l → e.attempted = false → e.decision = none) ∧
        (∀ e, t.tape.queue.head? = some e → e.record.lap = l → e.attempted = false →
          e.decision = if e.verdict = .pending then none else some .passFlush)))

/-! ## Travellers and hand-off -/

/-- Every well-formed traveller is laid out as the format says and read back from its payload, and a payload that is not a
well-formed traveller's is refused: a serial 0xFFFF, a byte 2 with other bits or a flag without its reason, a stage count
above 6, a stage out of its ranges, a length that does not fit. -/
def Obligations.TravellersReadBack : Prop :=
  (∀ t : Traveller, t.wf = true → travellerOfBytes (travellerBytes t) = some t ∧ (travellerBytes t).length ≤ 189) ∧
  (∀ t : Traveller, t.wf = true ↔ t.Fits) ∧ (∀ t : Traveller, t.wf = true → TravellerLaid t) ∧
  (∀ (bs : List Byte) (t : Traveller), travellerOfBytes bs = some t ↔ t.Fits ∧ bs = travellerBytes t) ∧
  (∀ bs : List Byte, bs.length < 9 ∨ leAt bs 0 2 = 0xFFFF ∨ (bs.getD 2 0).toNat ∉ [0, 3, 5, 7] ∨ 6 < (bs.getD 8 0).toNat →
    travellerOfBytes bs = none)

/-- A stage joins a stage list at its newest end; at 6 stages the oldest is first removed and counted as dropped. -/
def Obligations.ANewStageJoinsTheStageList : Prop :=
  ∀ (stages : List Stage) (dropped : Nat) (g : Stage),
    (stages.length < 6 → addStage stages dropped g = (stages ++ [g], dropped)) ∧
    (6 ≤ stages.length → addStage stages dropped g = (stages.tail ++ [g], min 255 (dropped + 1))) ∧
    (stages.length ≤ 6 → (addStage stages dropped g).1.length ≤ 6 ∧ (addStage stages dropped g).1.getLast? = some g)

/-- RELEASE_GRANT, when all the conditions hold: the traveller of the board record, with the own stage added, is queued to
the downstream address, the release record takes the board's serial and the accept counter last heard, the hand-off is
SENT, and the board is released. Otherwise nothing happens. (That exit seen is set at the start of the conveyor out when BOUT
already reads active is the model's reading, log entry 23.) -/
def Obligations.GrantsSendTheTravellerAndRelease : Prop :=
  ∀ s : State,
    (¬(∃ b v, s.CanGrant b v) → exec .releaseGrant s = .next s) ∧
    (∀ b v, s.CanGrant b v → ∃ t, exec .releaseGrant s = .next t ∧
      (∃ f : Frame, t.link.butSlot = { s.link with tx := s.link.tx ++ [f] }.butSlot ∧
        f.sender = s.ownByte ∧ f.kind = 2 ∧ f.dest = byte (s.ownAddr.getD 0 + 1) ∧
        f.payload = travellerBytes ⟨b.serial, b.reject, b.mask,
          (match b.ownStage with | none => b.stages | some g => (addStage b.stages b.dropped g).1),
          (match b.ownStage with | none => b.dropped | some g => (addStage b.stages b.dropped g).2)⟩) ∧
      t.trav = { s.trav with release := some (b.serial, v.accept), phase := .sent, timer := none } ∧
      s.Released t ∧ s.KeepsBut t [.work, .trav, .link])

/-- TRAVELLER_RECEIVE: the frame leaves the receive queue. After a valid start-up a frame at the line head or not from
upstream is foreign, one without a well-formed traveller malformed, one whose serial is queued a duplicate, and one at
a full queue an overflow with alarm 56; any other traveller joins the queue with its expiry timer, or is taken at once
by the board that waits. (A board made while no work may start is in CLAMPING with an operation that waits: the
condition of an operation that waits for its start is the model's own, log entry 13.) -/
def Obligations.ArrivingTravellersAreTested : Prop :=
  ∀ s : State,
    ((∀ f rest, s.link.rx = f :: rest → s.link.handing = true → f.kind ≠ 2) → exec .travellerReceive s = .next s) ∧
    (∀ f rest, s.link.rx = f :: rest → s.link.handing = true → f.kind = 2 →
      ∃ t, exec .travellerReceive s = .next t ∧ s.HandedOn t rest ∧
        (s.alarm.run = .configFault → s.KeepsBut t [.link]) ∧
        (s.alarm.run ≠ .configFault →
          (s.role = .lineHead ∨ s.ownAddr ≠ some (f.sender.toNat + 1) →
            t.trav = { s.trav with foreign := bump s.trav.foreign } ∧ s.KeepsBut t [.trav, .link]) ∧
          (s.role ≠ .lineHead → s.ownAddr = some (f.sender.toNat + 1) →
            (travellerOfBytes f.payload = none →
              t.trav = { s.trav with malformed := bump s.trav.malformed } ∧ s.KeepsBut t [.trav, .link]) ∧
            (∀ v, travellerOfBytes f.payload = some v →
              ((∃ a ∈ s.trav.arrivals, a.traveller.serial = v.serial) →
                t.trav = { s.trav with duplicate := bump s.trav.duplicate } ∧ s.KeepsBut t [.trav, .link]) ∧
              ((∀ a ∈ s.trav.arrivals, a.traveller.serial ≠ v.serial) →
                (3 ≤ s.trav.arrivals.length →
                  t.trav = { s.trav with overflow := bump s.trav.overflow } ∧
                  t.alarm = (s.raise ⟨.arrivalFull, some v.serial, none, false⟩).alarm ∧
                  s.KeepsBut t [.trav, .alarm, .link]) ∧
                (s.trav.arrivals.length < 3 → s.trav.takeOpen = false →
                  t.trav = { s.trav with arrivals := s.trav.arrivals ++ [⟨v, 1000 * s.header.travExpiry⟩] } ∧
                  s.KeepsBut t [.trav, .link]) ∧
                (s.trav.arrivals.length < 3 → s.trav.takeOpen = true →
                  t.trav = { s.trav with takeOpen := false } ∧
                  s.BoardMade t v.serial v.mask (if v.reject = none then none else some .upstream) v.stages v.dropped ∧
                  s.KeepsBut t [.tape, .table, .head, .work, .trav, .alarm, .link]))))))

/-- TRAVELLER_EXPIRY removes the traveller of the serial, counts the expiry and queues LOST to all stations, or counts
it as not sent at a full transmit queue. With no traveller of the serial nothing happens. (The row acts on a queued
traveller whatever time is left on the model's timer: its choice, log entry 4.) -/
def Obligations.ExpiredTravellersAreReportedLost : Prop :=
  ∀ (s : State) (serial : Serial),
    ((∀ a ∈ s.trav.arrivals, a.traveller.serial ≠ serial) → exec (.travellerExpiry serial) s = .next s) ∧
    ((∃ a ∈ s.trav.arrivals, a.traveller.serial = serial) → ∃ t, exec (.travellerExpiry serial) s = .next t ∧
      t.trav.arrivals = s.trav.arrivals.filter (fun a => a.traveller.serial ≠ serial) ∧
      t.trav = { s.trav with
        arrivals := t.trav.arrivals, expiry := bump s.trav.expiry, lostNotSent := t.trav.lostNotSent } ∧
      (s.link.tx.length < 4 → t.trav.lostNotSent = s.trav.lostNotSent ∧
        t.link.butSlot = { s.link with
          tx := s.link.tx ++ [(⟨s.ownByte, 3, 0, le16 serial.toNat⟩ : Frame)] }.butSlot) ∧
      (4 ≤ s.link.tx.length → t.trav.lostNotSent = bump s.trav.lostNotSent ∧ t.link.butSlot = s.link.butSlot) ∧
      s.KeepsBut t [.trav, .link])

/-- HANDOFF_TIMEOUT in TIMING makes the hand-off EXPIRED and raises alarm 54 with the release record's serial; a LOST
frame of the downstream station that names the last release makes it LOST, stops the timer and raises alarm 55. Any
other LOST frame only leaves the receive queue, and HANDOFF_TIMEOUT in another phase does nothing. (HANDOFF_TIMEOUT
acts in TIMING whatever time is left on the model's timer: its choice, log entry 4.) -/
def Obligations.HandoffsExpireOrAreLost : Prop :=
  ∀ s : State,
    (s.trav.phase ≠ .timing → exec .handoffTimeout s = .next s) ∧
    (s.trav.phase = .timing → ∃ t, exec .handoffTimeout s = .next t ∧
      t.trav = { s.trav with phase := .expired, timer := none } ∧
      t.alarm = (s.raise ⟨.handoffTimeout, s.trav.release.map Prod.fst, none, false⟩).alarm ∧
      s.KeepsBut t [.trav, .alarm]) ∧
    ((∀ f rest, s.link.rx = f :: rest → s.link.handing = true → f.kind ≠ 3) → exec .lostReceive s = .next s) ∧
    (∀ f rest, s.link.rx = f :: rest → s.link.handing = true → f.kind = 3 →
      ∃ t, exec .lostReceive s = .next t ∧ s.HandedOn t rest ∧
        (∀ serial a, f.payload = le16 (BitVec.toNat serial) → s.alarm.run ≠ .configFault →
          s.ownAddr.map (· + 1) = some f.sender.toNat → s.trav.release = some (serial, a) →
          t.trav = { s.trav with phase := .lost, timer := none } ∧
          t.alarm = (s.raise ⟨.boardLost, some serial, none, false⟩).alarm ∧ s.KeepsBut t [.trav, .alarm, .link]) ∧
        (s.alarm.run = .configFault ∨ s.ownAddr.map (· + 1) ≠ some f.sender.toNat ∨ s.trav.release = none →
          s.KeepsBut t [.link]) ∧
        (∀ serial other a, f.payload = le16 (BitVec.toNat serial) → s.trav.release = some (other, a) → other ≠ serial →
          s.KeepsBut t [.link]))

/-! ## Run state, alarms and monitors -/

/-- A raise: a listed code's count grows, an unlisted one joins below 8 entries, and at a full list it displaces the oldest
entry without a stop bit or is dropped, with MORE set; with its stop bit it brings the station to ALARM and clears the hold
reason and the homing target. In CONFIG_FAULT nothing is raised. -/
def Obligations.RaisesFillTheAlarmList : Prop :=
  ∀ (s : State) (r : Raise),
    (s.alarm.run = .configFault → s.raise r = s) ∧
    (s.alarm.run ≠ .configFault →
      (s.alarm.listed r.code = true →
        (s.raise r).alarm.list = s.alarm.list.map (fun e =>
          if e.code = r.code then { e with count := min 255 (e.count + 1), persists := e.persists || r.active } else e) ∧
        (s.raise r).alarm.more = s.alarm.more) ∧
      (s.alarm.listed r.code = false →
        (s.alarm.list.length < 8 →
          (s.raise r).alarm.list = s.alarm.list ++ [⟨r.code, 1, r.serial, r.ordinal, s.stopBit r.code, r.active⟩] ∧
          (s.raise r).alarm.more = s.alarm.more) ∧
        (8 ≤ s.alarm.list.length → (s.raise r).alarm.more = true ∧
          (s.stopBit r.code = false ∨ (∀ e ∈ s.alarm.list, e.stop = true) → (s.raise r).alarm.list = s.alarm.list) ∧
          (∀ a e b, s.stopBit r.code = true → s.alarm.list = a ++ e :: b → e.stop = false → (∀ x ∈ a, x.stop = true) →
            (s.raise r).alarm.list = a ++ b ++ [⟨r.code, 1, r.serial, r.ordinal, true, r.active⟩]))) ∧
      (s.stopBit r.code = true → (s.raise r).alarm.run = .alarm ∧
        (s.alarm.run ≠ .alarm → (s.raise r).alarm.rowHold = false ∧ (s.raise r).alarm.homingTarget = none)) ∧
      (s.stopBit r.code = false → (s.raise r).alarm.run = s.alarm.run)) ∧
    (∀ c, c ∈ [AlarmCode.homeFail, .tableLimit, .downJam, .clinchJam, .upJam, .tapeJam, .tapeBreak, .clampJam, .outJam] →
      s.stopBit c = true) ∧
    s.stopBit .tapeLow = false ∧ s.stopBit .arrivalFull = false ∧ s.stopBit .leadMiss = s.options.stopLeadMiss ∧
    s.stopBit .arriveTimeout = s.options.stopArrive ∧ s.stopBit .handoffTimeout = s.options.stopHandoff ∧
    s.stopBit .boardLost = s.options.stopLost ∧ s.stopBit .addressClash = s.options.stopClash ∧
    (∀ m : MonitorId, s.stopBit m.code = (s.settings m).stopEnable)

/-- An evaluation of a monitor stores its value, at most 65535; WARN and ALARM are set at their thresholds and
persistence and go, unless latched, below them; the code is raised when ALARM was clear or the code is not listed, and
removed, where it carries no stop bit, with an ALARM that is not latched. (That a latched ALARM whose entry is gone
raises its code again only when the count is P is the model's choice between two sentences of R157, log entry 31.) -/
def Obligations.MonitorsAreEvaluated : Prop :=
  ∀ (s : State) (id : MonitorId) (value : Nat), s.alarm.run ≠ .configFault →
    ∀ (c : MonitorSettings) (m n : Monitor), c = s.settings id → m = s.alarm.monitor id →
      n = (s.evaluate id value).alarm.monitor id →
      n.value = min 65535 value ∧
      (0 < c.w ∧ c.w ≤ n.value → n.warn = true) ∧
      (¬(0 < c.w ∧ c.w ≤ n.value) → n.warn = (c.warnLatch && m.warn)) ∧
      (0 < c.a ∧ c.a ≤ n.value → n.count = min c.p (m.count + 1) ∧ n.alarm = (m.alarm || decide (n.count = c.p)) ∧
        (n.count = c.p → (m.alarm = false ∨ s.alarm.listed id.code = false) →
          (s.evaluate id value).alarm.list = (s.raise ⟨id.code, s.boardSerial, none, false⟩).alarm.list ∧
          (s.evaluate id value).alarm.more = (s.raise ⟨id.code, s.boardSerial, none, false⟩).alarm.more ∧
          (s.evaluate id value).alarm.run = (s.raise ⟨id.code, s.boardSerial, none, false⟩).alarm.run) ∧
        (n.count ≠ c.p ∨ (m.alarm = true ∧ s.alarm.listed id.code = true) →
          (s.evaluate id value).alarm.list = s.alarm.list ∧ (s.evaluate id value).alarm.run = s.alarm.run)) ∧
      (¬(0 < c.a ∧ c.a ≤ n.value) → n.count = 0 ∧ n.alarm = (c.alarmLatch && m.alarm) ∧
        (m.alarm = true ∧ c.alarmLatch = false →
          (s.evaluate id value).alarm.list = s.alarm.list.filter (fun e => e.code ≠ id.code ∨ e.stop = true)) ∧
        (m.alarm = false ∨ c.alarmLatch = true → (s.evaluate id value).alarm.list = s.alarm.list) ∧
        (s.evaluate id value).alarm.run = s.alarm.run)

/-- RUN and STEP act in STOPPED alone, after the head unit has acted on TOP as the press samples it: in a recovery
return an active TOP completes it as its edge does, and at TOP an inactive one is a dropped head, which leaves ALARM,
where the press is ignored (that the sampled level so counts, and comes first, is the model's choice, log entry 7).
They clear the hold reason (STEP the step-used flag too); with the table homed the run state is entered, RUNNING, or
HOLDING under an asserted stop line, or STEPPING, unless a row hold is taken at once, and a STALLED operation restarts;
unhomed it is HOMING with its target, and homing is requested; a HALTED head starts its return, or ends it at once
where TOP reads active, using the STEP's execution where an entry goes. (The order of these at one event is the model's
reading, log entry 11; that exit seen is set at the start or restart of a conveyor out when BOUT already reads active
is the model's reading, log entry 23.) In any other run state nothing else happens than the lines noted and what the
head unit does on TOP. -/
def Obligations.RunAndStepLeaveStopped : Prop :=
  ∀ (s : State) (top bin : Bool) (c : Instr) (r final : RunState),
    (c = .run top bin ∧ r = .running ∧ final = (if s.lines.stopline = true then .holding else .running) ∨
      c = .step ⟨top, bin⟩ ∧ r = .stepping ∧ final = .stepping) →
    ∃ t, exec c s = .next t ∧ t.lines = { s.lines with top := top, bin := bin } ∧
      (s.alarm.run = .stopped → (s.head.phase = .top → top = true) → s.Starts t top r final) ∧
      (s.alarm.run ≠ .stopped → (∀ d, ¬s.TopActs top d) → s.KeepsBut t [.lines]) ∧
      (∀ d u, s.TopActs top d → s.alarm.run ≠ .stopped ∨ d = .headDrop → exec d s = .next u → u.KeepsBut t [.lines])

/-- CLEAR, in every run state but CONFIG_FAULT: the latched flags go, every entry whose condition does not persist is
removed, MORE is cleared, and in ALARM with no stop entry left the run state is STOPPING or, at rest, STOPPED. It ends
a jam of the tape with TBRK inactive, recovers from a break with the queue emptied but for an entry under a stroke and
the reader rewound to the oldest discarded entry, or with none to the oldest buffered record, a read in flight taking
the discard mark, and ends an EXPIRED or LOST hand-off with its record. In CONFIG_FAULT it is ignored. -/
def Obligations.ClearRemovesWhatDoesNotPersist : Prop :=
  ∀ s : State,
    (s.alarm.run = .configFault → exec .clear s = .next s) ∧
    (s.alarm.run ≠ .configFault → ∃ t, exec .clear s = .next t ∧
      t.alarm.list = s.alarm.list.filter (fun e => e.persists) ∧ t.alarm.more = false ∧
      t.alarm.rowHold = s.alarm.rowHold ∧
      (∀ m, (t.alarm.monitor m).value = (s.alarm.monitor m).value ∧
        (t.alarm.monitor m).warn = ((s.alarm.monitor m).warn && !(s.settings m).warnLatch) ∧
        (t.alarm.monitor m).alarm = ((s.alarm.monitor m).alarm && !(s.settings m).alarmLatch) ∧
        (t.alarm.monitor m).count = if (s.settings m).alarmLatch then 0 else (s.alarm.monitor m).count) ∧
      (s.alarm.run ≠ .alarm ∨ (∃ e ∈ s.alarm.list, e.stop = true ∧ e.persists = true) → t.alarm.run = s.alarm.run) ∧
      (s.alarm.run = .alarm → (∀ e ∈ s.alarm.list, e.stop = true → e.persists = false) →
        t.alarm.run = if s.inFlight then .stopping else .stopped) ∧
      (s.tape.fault = .none ∨ s.lines.tbrk = true → t.tape = s.tape ∧ t.reader = s.reader ∧ t.verifier = s.verifier) ∧
      (s.tape.fault = .jammed → s.lines.tbrk = false →
        t.tape = { s.tape with fault := .none } ∧ t.reader = s.reader ∧ t.verifier = s.verifier) ∧
      (s.tape.fault = .broken → s.lines.tbrk = false →
        t.tape.fault = .none ∧ t.verifier.phase = .idle ∧
        t.tape.queue = (if s.head.phase.stroking then s.tape.queue.take 1 else []) ∧
        (∀ e rest, (if s.head.phase.stroking then s.tape.queue.drop 1 else s.tape.queue) = e :: rest →
          s.reader.Rewound t.reader e.record.lap e.record.ordinal) ∧
        (∀ r rest, (if s.head.phase.stroking then s.tape.queue.drop 1 else s.tape.queue) = [] →
          s.reader.buffer = r :: rest → s.reader.Rewound t.reader r.lap r.ordinal) ∧
        ((if s.head.phase.stroking then s.tape.queue.drop 1 else s.tape.queue) = [] → s.reader.buffer = [] →
          t.reader = s.reader)) ∧
      (s.trav.phase = .expired ∨ s.trav.phase = .lost → t.trav = { s.trav with release := none, phase := .none }) ∧
      (s.trav.phase ≠ .expired ∧ s.trav.phase ≠ .lost → t.trav = s.trav) ∧
      s.KeepsBut t [.reader, .verifier, .tape, .trav, .alarm])

/-- STOP in RUNNING, STEPPING, HOLDING and HOMING clears the hold reason and the homing target and leads to STOPPING,
at rest to STOPPED at once; in any other run state it is ignored. The stop line, asserted, brings RUNNING to HOLDING
and nothing else; released, it brings HOLDING back to RUNNING with the work that waited for it, whatever stands at the
work position, unless a row hold is taken at once: a READY board starts, a STALLED operation restarts, and a HALTED head
starts its return, or with TOP active ends it at once. With the head not HALTED and an empty work position nothing but
the tape and the run state moves. What is decided then `Obligations.TheOldestEntryIsDecidedByTheTable` says. (The order
of what RUNNING brings about is the model's reading, log entry 11; that exit seen is set at the start or restart of a
conveyor out when BOUT already reads active is the model's reading, log entry 23.) -/
def Obligations.StopsAndHoldsAreTaken : Prop :=
  ∀ s : State,
    (s.alarm.run ∈ [.stopped, .stopping, .alarm, .configFault] → exec .stop s = .next s) ∧
    (s.alarm.run ∈ [.running, .stepping, .holding, .homing] → ∃ t, exec .stop s = .next t ∧
      t.alarm = { s.alarm with
        rowHold := false, homingTarget := none, run := if s.inFlight then .stopping else .stopped } ∧
      s.KeepsBut t [.alarm]) ∧
    (∃ t, exec .stoplineAsserted s = .next t ∧ t.lines = { s.lines with stopline := true } ∧
      t.alarm = { s.alarm with run := if s.alarm.run = .running then .holding else s.alarm.run } ∧
      s.KeepsBut t [.lines, .alarm]) ∧
    (∀ bin, ∃ t, exec (.stoplineReleased bin) s = .next t ∧ t.lines = { s.lines with stopline := false, bin := bin } ∧
      (s.alarm.run ≠ .holding → s.KeepsBut t [.lines]) ∧
      (s.alarm.run = .holding → t.pending = s.pending ∧ t.hdr = s.hdr ∧ t.reader = s.reader ∧
        (s.NoneRemoved s.lines.top [.halted] → s.Enters t s.lines.top s.alarm .running) ∧
        (s.lines.top = true → s.head.phase = .halted → s.ReturnEnds t { s.alarm with run := .running } False) ∧
        (s.work.state = .empty → s.work.op = none → s.head.phase ≠ .halted →
          t.alarm = { s.alarm with run := .running } ∧ s.KeepsBut t [.lines, .tape, .alarm])))


/-! ## The line link -/

/-- A frame is its sender, kind, destination, length, payload and check byte, values of two bytes low byte first; its bytes
sum to 0, read back as the frame, are complete at their end and at no earlier byte, and every
character sent for a byte is good. -/
def Obligations.FramesReadBack : Prop :=
  (∀ v : Nat, v ≤ 65535 → ∃ lo hi : Byte, le16 v = [lo, hi] ∧ lo.toNat = v % 256 ∧ hi.toNat = v / 256) ∧
  ∀ f : Frame, f.payload.length ≤ 200 →
    (∃ n check : Byte, n.toNat = f.payload.length ∧
      f.bytes = [f.sender, f.kind, f.dest, n] ++ f.payload ++ [check]) ∧
    f.bytes.length = f.payload.length + 5 ∧ byteSum f.bytes % 256 = 0 ∧ frameOfBytes f.bytes = some f ∧
    (∀ k ≤ f.bytes.length, frameComplete (f.bytes.take k) = true ↔ k = f.bytes.length) ∧
    (∀ b ∈ f.bytes, characterEnd (goodCharacterOf b) = .good ∧
      (characterBits b).tail.dropLast.countP id % 2 = 0)

/-- A frame for this station that another station puts on the line whole, character by character, joins the receive queue,
and no link error is counted. (Each character ends as GOOD_CHARACTER, the last one too: the model gives the three character
rows one meaning, log entry 8.) -/
def Obligations.WholeFramesAreReceived : Prop :=
  ∀ (s : State) (f : Frame), f.payload.length ≤ 200 → s.reader.straps.isSome = true → s.link.inCharacter = false →
    s.link.assembly = .between → s.link.sending = none → s.link.rx.length < 4 →
    f.sender ≠ 0 → lengthAllowed f.kind f.payload.length = true → s.ownAddr ≠ some f.sender.toNat → s.uses f = true →
    ∃ t, s.hears f.bytes = some t ∧ t.link.rx = s.link.rx ++ [f] ∧ t.link.assembly = .between ∧
      t.link.errors = s.link.errors ∧ t.link.counters = s.link.counters ∧ s.KeepsBut t [.lines, .link]

/-- VALID_START, the three rows at which a character ends, and GAP_ABANDON, with RESET released. A valid start begins a
character and sets the idle count to 0. A character with an error spoils the frame; a good one begins a frame or joins
it, and a length above 200 spoils it; the last byte of a frame brings the tests of
`Obligations.CompleteFramesAreTested` on the whole bytes; a gap of more than 20 bit times abandons it. With RESET
asserted, or the receiver not in the state that the row ends, nothing happens. (The one meaning of the three rows and
the idle counts are the model's choice, log entry 8, and so is the bit `own` that marks the station's own frame, log
entry 9; that GAP_ABANDON acts whatever the count held is its choice, log entry 4.) -/
def Obligations.CharactersBuildFrames : Prop :=
  ∀ s : State,
    (s.reader.straps = none ∨ s.link.inCharacter = true →
      exec .validStart s = .next s ∧ exec .gapAbandon s = .next s) ∧
    (s.reader.straps ≠ none → s.link.inCharacter = false →
      (∃ t, exec .validStart s = .next t ∧ t.lines = { s.lines with link := false } ∧
        t.link = { s.link with inCharacter := true, idle := 0, idlePart := 0 } ∧ s.KeepsBut t [.lines, .link]) ∧
      (∃ t, exec .gapAbandon s = .next t ∧ t.lines = { s.lines with link := true } ∧ s.KeepsBut t [.lines, .link] ∧
        (s.link.assembly = .between → t.link = { s.link with idle := max s.link.idle 21 }) ∧
        (s.link.assembly = .skipping → t.link = { s.link with idle := max s.link.idle 21, assembly := .between }) ∧
        (∀ bytes, s.link.assembly = .assembling bytes → t.link = { s.link with
          idle := max s.link.idle 21, assembly := .between, own := false, errors := bump s.link.errors,
          counters := { s.link.counters with gapAbandons := bump s.link.counters.gapAbandons } }))) ∧
    (∀ ch c, (c = Instr.goodCharacter ch ∨ c = .frameBroken ch ∨ c = .frameReceived ch) →
      (s.reader.straps = none ∨ s.link.inCharacter = false → exec c s = .next s) ∧
      (s.reader.straps ≠ none → s.link.inCharacter = true →
        ∃ t, exec c s = .next t ∧ t.lines = { s.lines with link := ch.stop } ∧ t.link.inCharacter = false ∧
          t.link.idle = 0 ∧
          (s.link.assembly = .skipping →
            t.link = { s.link with inCharacter := false, idle := 0, idlePart := 0 } ∧ s.KeepsBut t [.lines, .link]) ∧
          (s.link.assembly ≠ .skipping → characterEnd ch ≠ .good →
            t.link = { s.link with
              inCharacter := false, idle := 0, idlePart := 0, assembly := .skipping, own := false,
              errors := bump s.link.errors,
              counters := { s.link.counters with characterErrors := bump s.link.counters.characterErrors } } ∧
            s.KeepsBut t [.lines, .link]) ∧
          (s.link.assembly = .between → characterEnd ch = .good →
            t.link = { s.link with
              inCharacter := false, idle := 0, idlePart := 0, assembly := .assembling [ch.data],
              own := s.link.sending.isSome } ∧ s.KeepsBut t [.lines, .link]) ∧
          (∀ bytes, s.link.assembly = .assembling bytes → characterEnd ch = .good →
            (bytes.length = 3 → 200 < ch.data.toNat →
              t.link = { s.link with
                inCharacter := false, idle := 0, idlePart := 0, assembly := .skipping, own := false,
                errors := bump s.link.errors,
                counters := { s.link.counters with lengthErrors := bump s.link.counters.lengthErrors } } ∧
              s.KeepsBut t [.lines, .link]) ∧
            (¬(bytes.length = 3 ∧ 200 < ch.data.toNat) → frameComplete (bytes ++ [ch.data]) = false →
              t.link = { s.link with
                inCharacter := false, idle := 0, idlePart := 0, assembly := .assembling (bytes ++ [ch.data]) } ∧
              s.KeepsBut t [.lines, .link]) ∧
            (¬(bytes.length = 3 ∧ 200 < ch.data.toNat) → frameComplete (bytes ++ [ch.data]) = true →
              t.link.assembly = .between ∧ s.KeepsBut t [.lines, .alarm, .link] ∧
              ∀ u, u = (s.atFrameEnd ch.stop).testFrame s.link.own (bytes ++ [ch.data]) →
                t.link.butSlot = u.link.butSlot ∧ t.alarm = u.alarm))))

/-- FRAME_RECEIVED, the last character of a frame, puts the frame to its tests, in their order: its own transmission,
the check, the structure, the clash, the use. A frame in use joins the receive queue below 4 frames, and is an overrun
at 4. (The idle count and the bit `own` are the model's choice, log entries 8 and 9; a station strapped 0 or 31 has no
address of its own, so it makes no clash test and queues the frames to all, the model's reading, log entry 16.) -/
def Obligations.CompleteFramesAreTested : Prop :=
  (∀ (s : State) (ch : Character) (bytes : List Byte), s.reader.straps ≠ none → s.link.inCharacter = true →
    characterEnd ch = .good → s.link.assembly = .assembling bytes → ¬(bytes.length = 3 ∧ 200 < ch.data.toNat) →
    frameComplete (bytes ++ [ch.data]) = true →
    ∃ t f u, exec (.frameReceived ch) s = .next t ∧ frameOfBytes (bytes ++ [ch.data]) = some f ∧
      u = (s.atFrameEnd ch.stop).testFrame s.link.own (bytes ++ [ch.data]) ∧
      t.lines = { s.lines with link := ch.stop } ∧ t.link.butSlot = u.link.butSlot ∧ t.alarm = u.alarm ∧
      s.KeepsBut t [.lines, .alarm, .link]) ∧
  ∀ (s : State) (own : Bool) (bytes : List Byte) (f : Frame), frameOfBytes bytes = some f →
    (own = true → s.testFrame own bytes = s) ∧
    (own = false → byteSum bytes % 256 ≠ 0 → (s.testFrame own bytes).link = { s.link with
      errors := bump s.link.errors,
      counters := { s.link.counters with checkErrors := bump s.link.counters.checkErrors } } ∧
      (s.testFrame own bytes).alarm = s.alarm) ∧
    (own = false → byteSum bytes % 256 = 0 →
      (f.sender = 0 ∨ lengthAllowed f.kind f.payload.length = false → (s.testFrame own bytes).link = { s.link with
        errors := bump s.link.errors,
        counters := { s.link.counters with structureErrors := bump s.link.counters.structureErrors } } ∧
        (s.testFrame own bytes).alarm = s.alarm) ∧
      (f.sender ≠ 0 → lengthAllowed f.kind f.payload.length = true →
        (s.ownAddr = some f.sender.toNat → (s.testFrame own bytes).link.butSlot = { s.link with
            counters := { s.link.counters with clashFrames := bump s.link.counters.clashFrames } }.butSlot ∧
          (s.testFrame own bytes).alarm = (s.raise ⟨.addressClash, none, none, false⟩).alarm) ∧
        (s.ownAddr ≠ some f.sender.toNat →
          (¬((f.kind = 1 ∧ f.dest = 0 ∧ f.sender.toNat ≤ 30) ∨ (f.kind = 3 ∧ f.dest = 0) ∨
              (f.kind = 2 ∧ s.ownAddr = some f.dest.toNat) ∨
              ((f.kind = 4 ∨ f.kind = 6) ∧ f.sender = 31 ∧ s.ownAddr = some f.dest.toNat)) →
            s.testFrame own bytes = s) ∧
          (((f.kind = 1 ∧ f.dest = 0 ∧ f.sender.toNat ≤ 30) ∨ (f.kind = 3 ∧ f.dest = 0) ∨
              (f.kind = 2 ∧ s.ownAddr = some f.dest.toNat) ∨
              ((f.kind = 4 ∨ f.kind = 6) ∧ f.sender = 31 ∧ s.ownAddr = some f.dest.toNat)) →
            (s.link.rx.length < 4 → (s.testFrame own bytes).link = { s.link with rx := s.link.rx ++ [f] }) ∧
            (4 ≤ s.link.rx.length → (s.testFrame own bytes).link = { s.link with
              errors := bump s.link.errors,
              counters := { s.link.counters with receiveOverruns := bump s.link.counters.receiveOverruns } })))))

/-- FRAME_SEND_START puts a frame on the line when the sender is QUIET, the line has been idle for 12 bit times with no
frame in assembly, and there is one to send: the STATUS of the present state where the slot is DUE, else the oldest of
the transmit queue. A station with no address of its own sends nothing; otherwise nothing happens. (The idle count is
the greater of the count held and the command's own: the model's choice, log entry 8; that a station strapped 0 or 31
has no address is its reading of R179, log entry 16.) -/
def Obligations.SendingTakesStatusFirst : Prop :=
  ∀ (s : State) (idle : Nat),
    (s.CanSend (max s.link.idle idle) → ∃ t, exec (.frameSendStart idle) s = .next t ∧
      t.lines = { s.lines with link := true } ∧
      t.link = { s.link with sending := t.link.sending, again := false, idle := max s.link.idle idle } ∧
      (s.link.due = true → ∃ f : Frame, t.link.sending = some ⟨true, f⟩ ∧ f.sender = s.ownByte ∧ f.kind = 1 ∧ f.dest = 0 ∧
        f.payload = [byte s.alarm.run.code, byte s.entryState.code, s.work.accept,
            byte ((s.alarm.lowest.map AlarmCode.code).getD 0), byte s.alarm.list.length,
            if s.alarm.run = .alarm ∧ s.options.stopline = true then 1 else 0]
          ++ le16 (s.boardSerial.getD 0xFFFF).toNat ++ le16 ((s.work.board.map Board.inserted).getD 0)) ∧
      (s.link.due = false → ∀ f rest, s.link.tx = f :: rest → t.link.sending = some ⟨false, f⟩) ∧
      s.KeepsBut t [.lines, .link]) ∧
    (¬s.CanSend (max s.link.idle idle) → exec (.frameSendStart idle) s = .next s)

/-- ARBITRATION_LOST, COLLISION and FRAME_SENT end the sending in flight: a lost arbitration and a collision count a link
error; a collision raises the retry count of its frame, and at the fourth drops it; a sent frame leaves its queue with its
retry count 0, or the slot goes IDLE and the status timer starts again unless the slot became DUE meanwhile. With nothing
being sent nothing happens. (The idle count set to 0 and the bit `own` cleared at a sending's end are the model's choice, log
entries 8 and 9; the slot after a fourth collision and after a slot DUE again is the model's reading, log entries 15 and
27.) -/
def Obligations.SendingEndsInOneOfThreeWays : Prop :=
  ∀ s : State,
    (s.link.sending = none → exec .arbitrationLost s = .next s ∧ exec .collision s = .next s ∧
      exec .frameSent s = .next s) ∧
    (∀ x, s.link.sending = some x →
      (∃ t, exec .arbitrationLost s = .next t ∧ s.KeepsBut t [.link] ∧
        t.link = { s.link with
          sending := none, again := false, idle := 0, idlePart := 0, own := false, errors := bump s.link.errors,
          counters := { s.link.counters with arbitrationLosses := bump s.link.counters.arbitrationLosses } }) ∧
      (∃ t, exec .collision s = .next t ∧ s.KeepsBut t [.link] ∧ t.link.sending = none ∧
        t.link.errors = bump s.link.errors ∧ t.link.counters.collisions = bump s.link.counters.collisions ∧
        (x.status = true → t.link.tx = s.link.tx ∧ t.link.queueRetry = s.link.queueRetry ∧
          (s.link.statusRetry < 3 → t.link.statusRetry = s.link.statusRetry + 1 ∧ t.link.due = s.link.due ∧
            t.link.counters.droppedFrames = s.link.counters.droppedFrames) ∧
          (3 ≤ s.link.statusRetry → t.link.statusRetry = 0 ∧ t.link.due = false ∧
            t.link.statusTimer = some s.link.period ∧
            t.link.counters.droppedFrames = bump s.link.counters.droppedFrames)) ∧
        (x.status = false → t.link.due = s.link.due ∧ t.link.statusRetry = s.link.statusRetry ∧
          t.link.statusTimer = s.link.statusTimer ∧
          (s.link.queueRetry < 3 → t.link.queueRetry = s.link.queueRetry + 1 ∧ t.link.tx = s.link.tx ∧
            t.link.counters.droppedFrames = s.link.counters.droppedFrames) ∧
          (3 ≤ s.link.queueRetry → t.link.queueRetry = 0 ∧ t.link.tx = s.link.tx.tail ∧
            t.link.counters.droppedFrames = bump s.link.counters.droppedFrames))) ∧
      (∃ t, exec .frameSent s = .next t ∧ s.KeepsBut t [.link] ∧ t.link.sending = none ∧
        t.link.errors = s.link.errors ∧ t.link.counters = s.link.counters ∧
        (x.status = true → t.link.tx = s.link.tx ∧ t.link.statusRetry = 0 ∧ t.link.queueRetry = s.link.queueRetry ∧
          t.link.due = s.link.again ∧
          (s.link.again = false → t.link.statusTimer = some s.link.period)) ∧
        (x.status = false → t.link.tx = s.link.tx.tail ∧ t.link.queueRetry = 0 ∧
          t.link.statusRetry = s.link.statusRetry ∧ t.link.due = s.link.due)))

/-- WINDOW_END gives M5 the link errors of the window, whose count starts again with the window; LAMP_FLASH turns the
flashing lamps over for 500 ms; STATUS_TIMER_EXPIRY makes the slot DUE, and DUE again while a STATUS is on the line;
PEER_STALE puts the entry of an address past three status periods; HANDING_ON_START hands the oldest frame on where
none is in flight and the station has an address. A row whose timer does not run, or whose conditions fail, does
nothing. (One free-running flash period serves every lamp, and LAMP_FLASH turns it over in every state: the model's
choice, log entry 10; that these rows act whatever time is left on the model's timers is its choice, log entry 4; that
a station strapped 0 or 31 has no address is its reading, log entry 16.) -/
def Obligations.PeriodicRowsActOnTheirTimers : Prop :=
  ∀ s : State,
    (s.alarm.windowTimer = none → exec .windowEnd s = .next s) ∧
    (s.alarm.windowTimer ≠ none → ∃ t, exec .windowEnd s = .next t ∧
      t.link.butSlot = { s.link with errors := 0 }.butSlot ∧ t.alarm.windowTimer = some 1000 ∧
      (s.alarm.run ≠ .configFault → t.alarm.m5.value = min 65535 s.link.errors) ∧ s.KeepsBut t [.alarm, .link]) ∧
    (∃ t, exec .lampFlash s = .next t ∧ t.alarm = { s.alarm with flashLit := !s.alarm.flashLit, flashLeft := 500 } ∧
      s.KeepsBut t [.alarm]) ∧
    (s.link.statusTimer = none → exec .statusTimerExpiry s = .next s) ∧
    (s.link.statusTimer ≠ none → ∃ t, exec .statusTimerExpiry s = .next t ∧ s.KeepsBut t [.link] ∧
      (∀ f, s.link.sending = some ⟨true, f⟩ → t.link = { s.link with statusTimer := none, again := true }) ∧
      ((∀ f, s.link.sending ≠ some ⟨true, f⟩) → t.link = { s.link with statusTimer := none, due := true })) ∧
    (∀ a : BitVec 5, a = 0 ∨ a = 31 → exec (.peerStale a) s = .next s) ∧
    (∀ a : BitVec 5, a ≠ 0 → a ≠ 31 → ∃ t, exec (.peerStale a) s = .next t ∧ s.KeepsBut t [.link] ∧
      t.link = { s.link with peers := t.link.peers } ∧
      (∀ p, s.link.peer a.toNat = some p →
        t.link.peer a.toNat = some { p with age := max p.age (3 * s.link.period + 1) }) ∧
      (∀ b, b ≠ a.toNat → t.link.peer b = s.link.peer b)) ∧
    (s.link.rx ≠ [] ∧ s.link.handing = false ∧ s.ownAddr ≠ none → ∃ t, exec .handingOnStart s = .next t ∧
      t.link = { s.link with handing := true } ∧ s.KeepsBut t [.link]) ∧
    (¬(s.link.rx ≠ [] ∧ s.link.handing = false ∧ s.ownAddr ≠ none) → exec .handingOnStart s = .next s)

/-- STATUS_RECEIVE stores the frame's fields in the sender's peer entry, heard and of age 0. From the downstream address,
after a valid start-up, it also reaches the traveller unit: an entry that was not fresh, or a station in CONFIG_FAULT,
discards the release record; a moved accept counter confirms the hand-off; and the release is granted where its conditions
then hold. -/
def Obligations.StatusFramesReachTheTravellerUnit : Prop :=
  ∀ s : State,
    ((∀ f rest, s.link.rx = f :: rest → s.link.handing = true → f.kind ≠ 1) → exec .statusReceive s = .next s) ∧
    (∀ f rest, s.link.rx = f :: rest → s.link.handing = true → f.kind = 1 →
      ∃ t, exec .statusReceive s = .next t ∧ t.link.rx = rest ∧ t.link.handing = !rest.isEmpty ∧
        (∀ p, s.link.peer f.sender.toNat = some p → t.link.peer f.sender.toNat = some ⟨true, 0, f.payload⟩) ∧
        (f.sender ≠ 0 → ∀ b, b ≠ f.sender.toNat → t.link.peer b = s.link.peer b) ∧
        (s.alarm.run = .configFault ∨ s.ownAddr.map (· + 1) ≠ some f.sender.toNat → s.KeepsBut t [.link]) ∧
        (s.alarm.run ≠ .configFault → s.ownAddr.map (· + 1) = some f.sender.toNat → s.work.state ≠ .done →
          s.KeepsBut t [.trav, .link] ∧
          t.trav = { s.trav with release := t.trav.release, phase := t.trav.phase, timer := t.trav.timer } ∧
          (s.link.isFresh f.sender.toNat = false ∨ f.payload.getD 0 0 = 0 → t.trav.release = none ∧
            t.trav.phase = s.trav.phase) ∧
          (s.link.isFresh f.sender.toNat = true → f.payload.getD 0 0 ≠ 0 → t.trav.release = s.trav.release ∧
            (∀ r, s.trav.release = some r → r.2 ≠ f.payload.getD 2 0 →
              (s.trav.phase = .sent ∨ s.trav.phase = .timing ∨ s.trav.phase = .expired) →
              t.trav.phase = .none ∧ t.trav.timer = none) ∧
            ((∀ r, s.trav.release = some r → r.2 = f.payload.getD 2 0) → t.trav.phase = s.trav.phase))) ∧
        (∀ b, s.ownAddr.map (· + 1) = some f.sender.toNat → s.MayStart → s.role ≠ .lineEnd → s.work.state = .done →
          s.work.board = some b → (s.link.peer f.sender.toNat).isSome = true → (statusView f.payload).free = true →
          (∀ r, s.link.isFresh f.sender.toNat = true → s.trav.release = some r → r.2 ≠ f.payload.getD 2 0) →
          s.link.tx.length < 4 →
          t.trav.release = some (b.serial, f.payload.getD 2 0) ∧ t.trav.phase = .sent ∧ t.work.state = .releasing ∧
          t.link.tx = s.link.tx ++ [(⟨s.ownByte, 2, f.sender, travellerBytes b.outgoing⟩ : Frame)]))

/-- A QUERY is answered from the present state with one REPORT to the service tool: the part asked for with the number
of parts of 192 bytes, NO_PART past the last part, NO_ITEM for an item that is none of the six; at a full transmit
queue there is no answer and the query is counted unanswered. A row that is not the handed frame's does nothing. The
six answers are laid out as their tables say, byte by byte. (Bytes that the tables leave open are free: log entries 6,
13 and 29. The last lead result before the first confirm sample is the model's reading, log entry 30.) -/
def Obligations.QueriesAreAnsweredInParts : Prop :=
  ∀ s : State,
    s.StationLaid ∧ s.QueueLaid ∧ s.AlarmsLaid ∧ s.MonitorsLaid ∧ (s.PeersFit → s.PeersLaid) ∧
    (s.WithinRoom → s.MissesCounted → s.BoardLaid ∧
      ∀ b, s.work.board = some b → ∀ g ∈ b.stages, StageLaid g) ∧
    (∀ item c run, (item, c, run) ∈ s.queryRows →
      ((∀ f rest, s.link.rx = f :: rest → s.link.handing = true → f.kind = 4 → f.payload.getD 0 0 ≠ item) →
        exec c s = .next s) ∧
      (∀ f rest, s.link.rx = f :: rest → s.link.handing = true → f.kind = 4 → f.payload.getD 0 0 = item →
        ∃ t, exec c s = .next t ∧ s.KeepsBut t [.link] ∧
          (4 ≤ s.link.tx.length → s.Unanswered t rest) ∧
          (s.link.tx.length < 4 → (f.payload.getD 1 0).toNat * 192 < run.length →
            s.Answers t rest ([1, item, f.payload.getD 1 0, byte ((run.length + 191) / 192), 0] ++
              (run.drop (192 * (f.payload.getD 1 0).toNat)).take 192)) ∧
          (s.link.tx.length < 4 → run.length ≤ (f.payload.getD 1 0).toNat * 192 →
            s.Answers t rest [1, item, f.payload.getD 1 0, byte ((run.length + 191) / 192), 2]))) ∧
    ((∀ f rest, s.link.rx = f :: rest → s.link.handing = true → f.kind = 4 →
        1 ≤ (f.payload.getD 0 0).toNat ∧ (f.payload.getD 0 0).toNat ≤ 6) → exec .queryNoItem s = .next s) ∧
    (∀ f rest, s.link.rx = f :: rest → s.link.handing = true → f.kind = 4 →
      ((f.payload.getD 0 0).toNat = 0 ∨ 6 < (f.payload.getD 0 0).toNat) →
      ∃ t, exec .queryNoItem s = .next t ∧ s.KeepsBut t [.link] ∧
        (4 ≤ s.link.tx.length → s.Unanswered t rest) ∧
        (s.link.tx.length < 4 → s.Answers t rest [1, f.payload.getD 0 0, f.payload.getD 1 0, 0, 1]))

/-- A REMOTE RUN, STOP or CLEAR acts as its button does, unless the LOCAL strap is set or the run state ignores it, and
its result is reported, or counted unanswered at a full transmit queue; any other command is answered NOT_NOW. A REMOTE
RUN samples TOP, and the head unit acts on it first, whatever the result: a recovery return ends, or a head at TOP has
dropped, which leaves ALARM and the answer ALARM_LISTED for a RUN that came in STOPPED with LOCAL clear. A row that is
not the handed frame's does nothing. (That TOP so sampled counts, and comes before the button, is the model's choice,
log entry 7; the result of a RUN that came outside STOPPED is that of the run state it found, log entry 11; that any
other command is answered NOT_NOW with LOCAL strapped too is its reading, log entry 27.) -/
def Obligations.RemotesActAsTheirButtons : Prop :=
  ∀ s : State,
    (∀ top bin code c, (code, c) ∈ [((1 : Byte), Instr.remoteRun top bin), (2, .remoteStop), (3, .remoteClear)] →
      ((∀ f rest, s.link.rx = f :: rest → s.link.handing = true → f.kind = 6 → f.payload.getD 0 0 ≠ code) →
        exec c s = .next s) ∧
      (∀ f rest, s.link.rx = f :: rest → s.link.handing = true → f.kind = 6 → f.payload.getD 0 0 = code →
        ∃ t, exec c s = .next t ∧
          (code = 1 → t.lines = { s.lines with top := top, bin := bin }) ∧ (code ≠ 1 → t.lines = s.lines) ∧
          (4 ≤ s.link.tx.length → s.Unanswered t rest) ∧
          (s.localStrap = true →
            (s.TopSeen code top ∨ s.KeepsBut t [.lines, .link]) ∧
            (s.link.tx.length < 4 → s.Answers t rest [2, code, 2])) ∧
          (s.localStrap = false → s.Ignores code →
            (s.TopSeen code top ∨ s.KeepsBut t [.lines, .link]) ∧
            (s.link.tx.length < 4 →
              s.Answers t rest [2, code, if code = 1 ∧ s.alarm.run = .alarm then 3 else 4])) ∧
          ((s.localStrap = true ∨ s.Ignores code) → code = 1 →
            ∀ d u, s.TopActs top d → exec d s = .next u → u.KeepsBut t [.lines, .link]) ∧
          (s.localStrap = false → ¬s.Ignores code →
            (s.link.tx.length < 4 → s.Answers t rest [2, code, 1] ∨
              s.TopSeen code top ∧ t.alarm.run = .alarm ∧ s.Answers t rest [2, code, 3]) ∧
            (code = 1 → s.TopActs top .headDrop → t.alarm.run = .alarm ∧
              (s.link.tx.length < 4 → s.Answers t rest [2, code, 3])) ∧
            ∀ u, exec (State.buttonOf code top bin) s = .next u → u.KeepsBut t [.lines, .link]))) ∧
    ((∀ f rest, s.link.rx = f :: rest → s.link.handing = true → f.kind = 6 →
        1 ≤ (f.payload.getD 0 0).toNat ∧ (f.payload.getD 0 0).toNat ≤ 3) → exec .remoteOther s = .next s) ∧
    (∀ f rest, s.link.rx = f :: rest → s.link.handing = true → f.kind = 6 →
      ((f.payload.getD 0 0).toNat = 0 ∨ 3 < (f.payload.getD 0 0).toNat) →
      ∃ t, exec .remoteOther s = .next t ∧ s.KeepsBut t [.link] ∧
        (4 ≤ s.link.tx.length → s.Unanswered t rest) ∧
        (s.link.tx.length < 4 → s.Answers t rest [2, f.payload.getD 0 0, 4]))
end

