-- ==== Sys2Proof/Laws/Blind.lean ====
section
/-! SUPPORT. The operations of the station's units do not read the link unit: from states that differ in the link unit
alone they come to states that differ in the link unit alone. -/

namespace Sys2Proof.Machine.State

/-- The state with another link unit. -/
def withLink (s : State) (l : Link) : State := { s with link := l }

/-- The two states are the same but for the link unit. -/
def SameUnits (s t : State) : Prop := ∃ l, t = s.withLink l

/-- The operation does not read the link unit. -/
def Blind (f : State → State) : Prop := ∀ {s t}, s.SameUnits t → (f s).SameUnits (f t)

theorem withLink_reads (s : State) (l : Link) :
    (s.withLink l).alarm = s.alarm ∧ (s.withLink l).tape = s.tape ∧ (s.withLink l).work = s.work ∧
    (s.withLink l).head = s.head ∧ (s.withLink l).table = s.table ∧ (s.withLink l).trav = s.trav ∧
    (s.withLink l).reader = s.reader ∧ (s.withLink l).verifier = s.verifier ∧ (s.withLink l).lines = s.lines ∧
    (s.withLink l).header = s.header ∧ (s.withLink l).options = s.options ∧ (s.withLink l).role = s.role ∧
    (s.withLink l).ownAddr = s.ownAddr ∧ (s.withLink l).oldest = s.oldest ∧ (s.withLink l).live = s.live ∧
    (s.withLink l).workingBoard = s.workingBoard ∧ (s.withLink l).boardSerial = s.boardSerial ∧
    (s.withLink l).mayStart = s.mayStart ∧ (s.withLink l).inFlight = s.inFlight ∧
    (s.withLink l).feedReady = s.feedReady ∧ (s.withLink l).stoplineReads = s.stoplineReads := by
  refine ⟨rfl, rfl, rfl, rfl, rfl, rfl, rfl, rfl, rfl, rfl, rfl, rfl, rfl, rfl, rfl, rfl, rfl, rfl, rfl, rfl, rfl⟩

theorem withLink_reads_at (s : State) (l : Link) :
    (∀ e, (s.withLink l).mayDecide e = s.mayDecide e) ∧ (∀ e b, (s.withLink l).holdDue e b = s.holdDue e b) ∧
    (∀ k, (s.withLink l).opDone k = s.opDone k) ∧ (∀ c, (s.withLink l).stopBit c = s.stopBit c) ∧
    (∀ i, (s.withLink l).settings i = s.settings i) ∧ (∀ k, (s.withLink l).drive k = (s.drive k).withLink l) :=
  ⟨fun _ => rfl, fun _ _ => rfl, fun _ => rfl, fun _ => rfl, fun _ => rfl, fun _ => rfl⟩

theorem withLink_mods (s : State) (l : Link) :
    (∀ f, (s.withLink l).modAlarm f = (s.modAlarm f).withLink l) ∧
    (∀ f, (s.withLink l).modTape f = (s.modTape f).withLink l) ∧
    (∀ f, (s.withLink l).modWork f = (s.modWork f).withLink l) ∧
    (∀ f, (s.withLink l).modHead f = (s.modHead f).withLink l) ∧
    (∀ f, (s.withLink l).modTable f = (s.modTable f).withLink l) ∧
    (∀ f, (s.withLink l).modTrav f = (s.modTrav f).withLink l) ∧
    (∀ f, (s.withLink l).modReader f = (s.modReader f).withLink l) ∧
    (∀ f, (s.withLink l).modVerifier f = (s.modVerifier f).withLink l) :=
  ⟨fun _ => rfl, fun _ => rfl, fun _ => rfl, fun _ => rfl, fun _ => rfl, fun _ => rfl, fun _ => rfl, fun _ => rfl⟩

theorem setRun_blind (r : RunState) : Blind fun s => s.setRun r := by
  rintro s _ ⟨l, rfl⟩
  unfold setRun; dsimp only; simp only [withLink_reads]
  split
  · exact ⟨l, rfl⟩
  · split <;> exact ⟨_, rfl⟩

theorem endIfQuiet_blind : Blind endIfQuiet := by
  rintro s _ ⟨l, rfl⟩
  unfold endIfQuiet; simp only [withLink_reads]
  split
  · exact setRun_blind _ ⟨l, rfl⟩
  · exact ⟨l, rfl⟩

theorem useStep_blind : Blind useStep := by
  rintro s _ ⟨l, rfl⟩
  unfold useStep; simp only [withLink_reads]
  split <;> exact ⟨l, rfl⟩

theorem pressStop_blind : Blind pressStop := by
  rintro s _ ⟨l, rfl⟩
  exact endIfQuiet_blind (setRun_blind _ ⟨l, rfl⟩)

theorem raise_blind (r : Raise) : Blind fun s => s.raise r := by
  rintro s _ ⟨l, rfl⟩
  unfold raise; dsimp only; simp only [withLink_reads, withLink_reads_at, withLink_mods]
  split
  · split
    · exact setRun_blind _ ⟨l, rfl⟩
    · exact ⟨l, rfl⟩
  · exact ⟨l, rfl⟩

theorem evaluate_blind (i : MonitorId) (v : Nat) : Blind fun s => s.evaluate i v := by
  rintro s _ ⟨l, rfl⟩
  unfold evaluate; dsimp only; simp only [withLink_reads, withLink_reads_at, withLink_mods]
  split
  · split
    · split
      · exact raise_blind _ ⟨l, rfl⟩
      · exact ⟨l, rfl⟩
    · split <;> exact ⟨l, rfl⟩
  · exact ⟨l, rfl⟩

theorem decideOldest_blind : Blind decideOldest := by
  rintro s _ ⟨l, rfl⟩
  unfold decideOldest; simp only [withLink_reads, withLink_reads_at]
  split
  · exact ⟨l, rfl⟩
  · split <;> exact ⟨l, rfl⟩

theorem startBoard_blind : Blind startBoard := by
  rintro s _ ⟨l, rfl⟩
  unfold startBoard; simp only [withLink_reads]
  split
  · split <;> exact ⟨l, rfl⟩
  · exact ⟨l, rfl⟩

theorem takeRowHold_blind : Blind takeRowHold := by
  rintro s _ ⟨l, rfl⟩
  unfold takeRowHold; simp only [withLink_reads, withLink_reads_at]
  split
  · split
    · exact endIfQuiet_blind (setRun_blind _ ⟨l, rfl⟩)
    · exact ⟨l, rfl⟩
  · exact ⟨l, rfl⟩

theorem bookkeep_blind : Blind bookkeep := fun h => decideOldest_blind (takeRowHold_blind (startBoard_blind h))

theorem tryFeed_blind : Blind tryFeed := by
  rintro s _ ⟨l, rfl⟩
  unfold tryFeed; simp only [withLink_reads]
  split <;> exact ⟨l, rfl⟩

theorem checkFlush_blind : Blind checkFlush := by
  rintro s _ ⟨l, rfl⟩
  unfold checkFlush; simp only [withLink_reads]
  split
  · split <;> exact ⟨l, rfl⟩
  · exact ⟨l, rfl⟩

theorem followOn_blind : Blind followOn := fun h => tryFeed_blind (bookkeep_blind (checkFlush_blind h))

theorem modWork_blind (f : Work → Work) : Blind fun s => s.modWork f := by
  rintro s _ ⟨l, rfl⟩
  exact ⟨l, rfl⟩

theorem takeOutcome_blind (lap : Lap) (k : Nat) (o : StepOutcome) : Blind fun s => s.takeOutcome lap k o := by
  rintro s _ ⟨l, rfl⟩
  unfold takeOutcome; dsimp only; simp only [withLink_reads, withLink_mods]
  split
  · exact ⟨l, rfl⟩
  · split
    · cases o with
      | missed r =>
        dsimp only
        split
        · exact modWork_blind _ (evaluate_blind _ _ ⟨l, rfl⟩)
        · exact evaluate_blind _ _ ⟨l, rfl⟩
      | inserted => dsimp only; split <;> exact ⟨l, rfl⟩
      | passed => dsimp only; split <;> exact ⟨l, rfl⟩
    · exact ⟨l, rfl⟩

theorem returnDone_blind : Blind returnDone := by
  rintro s _ ⟨l, rfl⟩
  unfold returnDone; dsimp only; simp only [withLink_reads, withLink_mods]
  split
  · split
    · split
      · exact followOn_blind (useStep_blind (takeOutcome_blind _ _ _ ⟨l, rfl⟩))
      · exact followOn_blind (useStep_blind ⟨l, rfl⟩)
    · exact ⟨l, rfl⟩
  · exact ⟨l, rfl⟩

theorem dropHead_blind : Blind dropHead := by
  rintro s _ ⟨l, rfl⟩
  exact raise_blind _ ⟨l, rfl⟩

theorem seeTop_blind : Blind seeTop := by
  rintro s _ ⟨l, rfl⟩
  unfold seeTop; simp only [withLink_reads]
  split
  · exact endIfQuiet_blind (returnDone_blind ⟨l, rfl⟩)
  · split
    · exact dropHead_blind ⟨l, rfl⟩
    · exact ⟨l, rfl⟩

theorem recoveryReturn_blind : Blind recoveryReturn := by
  rintro s _ ⟨l, rfl⟩
  unfold recoveryReturn; dsimp only; simp only [withLink_reads, withLink_mods]
  split
  · split
    · exact returnDone_blind ⟨l, rfl⟩
    · exact ⟨l, rfl⟩
  · exact ⟨l, rfl⟩

theorem followStopline_blind : Blind followStopline := by
  rintro s _ ⟨l, rfl⟩
  unfold followStopline; simp only [withLink_reads]
  split
  · exact setRun_blind _ ⟨l, rfl⟩
  · exact ⟨l, rfl⟩

theorem scanFrom_blind (n : Nat) : Blind fun s => s.scanFrom n := by
  rintro s _ ⟨l, rfl⟩
  unfold scanFrom; simp only [withLink_reads]
  split
  · exact ⟨l, rfl⟩
  · exact bookkeep_blind ⟨l, rfl⟩

theorem clampDone_blind : Blind clampDone := by
  rintro s _ ⟨l, rfl⟩
  unfold clampDone; dsimp only; simp only [withLink_reads]
  split
  · exact scanFrom_blind 0 ⟨l, rfl⟩
  · exact bookkeep_blind ⟨l, rfl⟩

theorem conveyorOutDone_blind : Blind conveyorOutDone := by
  rintro s _ ⟨l, rfl⟩
  unfold conveyorOutDone boardCleared; dsimp only; simp only [withLink_reads]
  split
  · exact ⟨l, rfl⟩
  · split <;> exact ⟨l, rfl⟩

theorem startConveyorOut_blind : Blind startConveyorOut := by
  rintro s _ ⟨l, rfl⟩
  unfold startConveyorOut; dsimp only; simp only [withLink_reads_at]
  split
  · exact conveyorOutDone_blind ⟨l, rfl⟩
  · exact ⟨l, rfl⟩

theorem toConveyorOut_blind : Blind toConveyorOut := by
  rintro s _ ⟨l, rfl⟩
  unfold toConveyorOut; dsimp only; simp only [withLink_mods, withLink_reads]
  split
  · exact startConveyorOut_blind ⟨l, rfl⟩
  · exact ⟨l, rfl⟩

theorem startUnclamp_blind : Blind startUnclamp := by
  rintro s _ ⟨l, rfl⟩
  unfold startUnclamp; dsimp only; simp only [withLink_reads_at]
  split
  · exact toConveyorOut_blind ⟨l, rfl⟩
  · exact ⟨l, rfl⟩

theorem startClamp_blind : Blind startClamp := by
  rintro s _ ⟨l, rfl⟩
  unfold startClamp; dsimp only; simp only [withLink_reads_at]
  split
  · exact clampDone_blind ⟨l, rfl⟩
  · exact ⟨l, rfl⟩

theorem boardMade_blind (b : Board) : Blind fun s => s.boardMade b := by
  rintro s _ ⟨l, rfl⟩
  unfold boardMade; dsimp only; simp only [withLink_mods, withLink_reads]
  split
  · exact ⟨l, rfl⟩
  · split
    · exact startClamp_blind ⟨l, rfl⟩
    · exact ⟨l, rfl⟩

theorem makeOwnBoard_blind (r : Option RejectReason) : Blind fun s => s.makeOwnBoard r := by
  rintro s _ ⟨l, rfl⟩
  unfold makeOwnBoard; simp only [withLink_mods, withLink_reads]
  exact boardMade_blind _ ⟨l, rfl⟩

theorem beginMatching_blind : Blind beginMatching := by
  rintro s _ ⟨l, rfl⟩
  unfold beginMatching; simp only [withLink_reads]
  split
  · exact makeOwnBoard_blind _ ⟨l, rfl⟩
  · split
    · exact boardMade_blind _ ⟨l, rfl⟩
    · split
      · exact makeOwnBoard_blind _ ⟨l, rfl⟩
      · exact ⟨l, rfl⟩

theorem startConveyorIn_blind : Blind startConveyorIn := by
  rintro s _ ⟨l, rfl⟩
  unfold startConveyorIn; dsimp only; simp only [withLink_reads_at]
  split
  · exact beginMatching_blind ⟨l, rfl⟩
  · exact ⟨l, rfl⟩

theorem startOp_blind (k : OpKind) : Blind fun s => s.startOp k := by
  intro s t h
  cases k
  · exact startConveyorIn_blind h
  · exact startClamp_blind h
  · exact startUnclamp_blind h
  · exact startConveyorOut_blind h

theorem restartOp_blind : Blind restartOp := by
  rintro s _ ⟨l, rfl⟩
  unfold restartOp; simp only [withLink_reads]
  split
  · split
    · exact startOp_blind _ ⟨l, rfl⟩
    · exact ⟨l, rfl⟩
  · exact ⟨l, rfl⟩

theorem enterWork_blind (r : RunState) : Blind fun s => s.enterWork r := fun h =>
  endIfQuiet_blind (bookkeep_blind (restartOp_blind (recoveryReturn_blind (followStopline_blind (setRun_blind r h)))))

theorem requestHoming_blind : Blind requestHoming := by
  rintro s _ ⟨l, rfl⟩
  unfold requestHoming; simp only [withLink_reads]
  split <;> exact ⟨l, rfl⟩

theorem enterHoming_blind (r : RunState) : Blind fun s => s.enterHoming r := by
  rintro s _ ⟨l, rfl⟩
  exact recoveryReturn_blind (requestHoming_blind (setRun_blind _ ⟨l, rfl⟩))

theorem pressRun_blind : Blind pressRun := by
  rintro s _ ⟨l, rfl⟩
  unfold pressRun; dsimp only; simp only [withLink_reads, withLink_mods]
  split
  · exact enterWork_blind _ ⟨l, rfl⟩
  · exact enterHoming_blind _ ⟨l, rfl⟩

theorem clearAlarms_blind : Blind clearAlarms := by
  rintro s _ ⟨l, rfl⟩
  have hm : (s.withLink l).modAlarm (fun a => a.cleared (s.withLink l).settings)
      = (s.modAlarm fun a => a.cleared s.settings).withLink l := rfl
  unfold clearAlarms; dsimp only; rw [hm]; simp only [withLink_reads]
  split
  · exact endIfQuiet_blind (setRun_blind _ ⟨l, rfl⟩)
  · exact ⟨l, rfl⟩

theorem issueRead_blind : Blind issueRead := by
  rintro s _ ⟨l, rfl⟩
  unfold issueRead; simp only [withLink_reads]
  split <;> exact ⟨l, rfl⟩

theorem rewind_blind (lap : Lap) (k : Nat) : Blind fun s => s.rewind lap k := by
  rintro s _ ⟨l, rfl⟩
  exact issueRead_blind ⟨l, rfl⟩

theorem abandon_blind : Blind abandon := by
  rintro s _ ⟨l, rfl⟩
  unfold abandon; simp only [withLink_reads]
  split <;> exact ⟨l, rfl⟩

theorem modTape_blind (f : Tape → Tape) : Blind fun s => s.modTape f := by
  rintro s _ ⟨l, rfl⟩
  exact ⟨l, rfl⟩

theorem recoverTape_blind : Blind recoverTape := by
  intro s t h
  have ha := abandon_blind h
  obtain ⟨l, rfl⟩ := h
  unfold recoverTape; dsimp only; simp only [withLink_reads]
  refine checkFlush_blind (modTape_blind _ ?_)
  split
  · exact rewind_blind _ _ (modTape_blind _ ha)
  · exact rewind_blind _ _ (modTape_blind _ ha)
  · exact modTape_blind _ ha

theorem clearTape_blind : Blind clearTape := by
  rintro s _ ⟨l, rfl⟩
  unfold clearTape; simp only [withLink_reads]
  split
  · exact ⟨l, rfl⟩
  · split
    · exact ⟨l, rfl⟩
    · exact ⟨l, rfl⟩
    · exact recoverTape_blind ⟨l, rfl⟩

theorem modTrav_blind (f : Trav → Trav) : Blind fun s => s.modTrav f := by
  rintro s _ ⟨l, rfl⟩
  exact ⟨l, rfl⟩

theorem pressClear_blind : Blind pressClear := fun h => modTrav_blind _ (clearTape_blind (clearAlarms_blind h))

end Sys2Proof.Machine.State
end

