-- ==== Sys2Proof/Laws/State.lean ====
section
/-! SUPPORT. What each block update does to each field of the state: one lemma per field per update. -/

namespace Sys2Proof.Machine.State

section
variable (s : State) (h : Header)
@[simp] theorem setHdr_pending : (s.setHdr h).pending = s.pending := rfl
@[simp] theorem setHdr_now : (s.setHdr h).now = s.now := rfl
@[simp] theorem setHdr_hdr : (s.setHdr h).hdr = some h := rfl
@[simp] theorem setHdr_lines : (s.setHdr h).lines = s.lines := rfl
@[simp] theorem setHdr_out : (s.setHdr h).out = s.out := rfl
@[simp] theorem setHdr_reader : (s.setHdr h).reader = s.reader := rfl
@[simp] theorem setHdr_verifier : (s.setHdr h).verifier = s.verifier := rfl
@[simp] theorem setHdr_tape : (s.setHdr h).tape = s.tape := rfl
@[simp] theorem setHdr_table : (s.setHdr h).table = s.table := rfl
@[simp] theorem setHdr_head : (s.setHdr h).head = s.head := rfl
@[simp] theorem setHdr_work : (s.setHdr h).work = s.work := rfl
@[simp] theorem setHdr_trav : (s.setHdr h).trav = s.trav := rfl
@[simp] theorem setHdr_alarm : (s.setHdr h).alarm = s.alarm := rfl
@[simp] theorem setHdr_link : (s.setHdr h).link = s.link := rfl
end

section
variable (s : State) (f : Lines → Lines)
@[simp] theorem modLines_pending : (s.modLines f).pending = s.pending := rfl
@[simp] theorem modLines_now : (s.modLines f).now = s.now := rfl
@[simp] theorem modLines_hdr : (s.modLines f).hdr = s.hdr := rfl
@[simp] theorem modLines_lines : (s.modLines f).lines = f s.lines := rfl
@[simp] theorem modLines_out : (s.modLines f).out = s.out := rfl
@[simp] theorem modLines_reader : (s.modLines f).reader = s.reader := rfl
@[simp] theorem modLines_verifier : (s.modLines f).verifier = s.verifier := rfl
@[simp] theorem modLines_tape : (s.modLines f).tape = s.tape := rfl
@[simp] theorem modLines_table : (s.modLines f).table = s.table := rfl
@[simp] theorem modLines_head : (s.modLines f).head = s.head := rfl
@[simp] theorem modLines_work : (s.modLines f).work = s.work := rfl
@[simp] theorem modLines_trav : (s.modLines f).trav = s.trav := rfl
@[simp] theorem modLines_alarm : (s.modLines f).alarm = s.alarm := rfl
@[simp] theorem modLines_link : (s.modLines f).link = s.link := rfl
end

section
variable (s : State) (f : Reader → Reader)
@[simp] theorem modReader_pending : (s.modReader f).pending = s.pending := rfl
@[simp] theorem modReader_now : (s.modReader f).now = s.now := rfl
@[simp] theorem modReader_hdr : (s.modReader f).hdr = s.hdr := rfl
@[simp] theorem modReader_lines : (s.modReader f).lines = s.lines := rfl
@[simp] theorem modReader_out : (s.modReader f).out = s.out := rfl
@[simp] theorem modReader_reader : (s.modReader f).reader = f s.reader := rfl
@[simp] theorem modReader_verifier : (s.modReader f).verifier = s.verifier := rfl
@[simp] theorem modReader_tape : (s.modReader f).tape = s.tape := rfl
@[simp] theorem modReader_table : (s.modReader f).table = s.table := rfl
@[simp] theorem modReader_head : (s.modReader f).head = s.head := rfl
@[simp] theorem modReader_work : (s.modReader f).work = s.work := rfl
@[simp] theorem modReader_trav : (s.modReader f).trav = s.trav := rfl
@[simp] theorem modReader_alarm : (s.modReader f).alarm = s.alarm := rfl
@[simp] theorem modReader_link : (s.modReader f).link = s.link := rfl
end

section
variable (s : State) (f : Verifier → Verifier)
@[simp] theorem modVerifier_pending : (s.modVerifier f).pending = s.pending := rfl
@[simp] theorem modVerifier_now : (s.modVerifier f).now = s.now := rfl
@[simp] theorem modVerifier_hdr : (s.modVerifier f).hdr = s.hdr := rfl
@[simp] theorem modVerifier_lines : (s.modVerifier f).lines = s.lines := rfl
@[simp] theorem modVerifier_out : (s.modVerifier f).out = s.out := rfl
@[simp] theorem modVerifier_reader : (s.modVerifier f).reader = s.reader := rfl
@[simp] theorem modVerifier_verifier : (s.modVerifier f).verifier = f s.verifier := rfl
@[simp] theorem modVerifier_tape : (s.modVerifier f).tape = s.tape := rfl
@[simp] theorem modVerifier_table : (s.modVerifier f).table = s.table := rfl
@[simp] theorem modVerifier_head : (s.modVerifier f).head = s.head := rfl
@[simp] theorem modVerifier_work : (s.modVerifier f).work = s.work := rfl
@[simp] theorem modVerifier_trav : (s.modVerifier f).trav = s.trav := rfl
@[simp] theorem modVerifier_alarm : (s.modVerifier f).alarm = s.alarm := rfl
@[simp] theorem modVerifier_link : (s.modVerifier f).link = s.link := rfl
end

section
variable (s : State) (f : Tape → Tape)
@[simp] theorem modTape_pending : (s.modTape f).pending = s.pending := rfl
@[simp] theorem modTape_now : (s.modTape f).now = s.now := rfl
@[simp] theorem modTape_hdr : (s.modTape f).hdr = s.hdr := rfl
@[simp] theorem modTape_lines : (s.modTape f).lines = s.lines := rfl
@[simp] theorem modTape_out : (s.modTape f).out = s.out := rfl
@[simp] theorem modTape_reader : (s.modTape f).reader = s.reader := rfl
@[simp] theorem modTape_verifier : (s.modTape f).verifier = s.verifier := rfl
@[simp] theorem modTape_tape : (s.modTape f).tape = f s.tape := rfl
@[simp] theorem modTape_table : (s.modTape f).table = s.table := rfl
@[simp] theorem modTape_head : (s.modTape f).head = s.head := rfl
@[simp] theorem modTape_work : (s.modTape f).work = s.work := rfl
@[simp] theorem modTape_trav : (s.modTape f).trav = s.trav := rfl
@[simp] theorem modTape_alarm : (s.modTape f).alarm = s.alarm := rfl
@[simp] theorem modTape_link : (s.modTape f).link = s.link := rfl
end

section
variable (s : State) (f : Table → Table)
@[simp] theorem modTable_pending : (s.modTable f).pending = s.pending := rfl
@[simp] theorem modTable_now : (s.modTable f).now = s.now := rfl
@[simp] theorem modTable_hdr : (s.modTable f).hdr = s.hdr := rfl
@[simp] theorem modTable_lines : (s.modTable f).lines = s.lines := rfl
@[simp] theorem modTable_out : (s.modTable f).out = s.out := rfl
@[simp] theorem modTable_reader : (s.modTable f).reader = s.reader := rfl
@[simp] theorem modTable_verifier : (s.modTable f).verifier = s.verifier := rfl
@[simp] theorem modTable_tape : (s.modTable f).tape = s.tape := rfl
@[simp] theorem modTable_table : (s.modTable f).table = f s.table := rfl
@[simp] theorem modTable_head : (s.modTable f).head = s.head := rfl
@[simp] theorem modTable_work : (s.modTable f).work = s.work := rfl
@[simp] theorem modTable_trav : (s.modTable f).trav = s.trav := rfl
@[simp] theorem modTable_alarm : (s.modTable f).alarm = s.alarm := rfl
@[simp] theorem modTable_link : (s.modTable f).link = s.link := rfl
end

section
variable (s : State) (f : Head → Head)
@[simp] theorem modHead_pending : (s.modHead f).pending = s.pending := rfl
@[simp] theorem modHead_now : (s.modHead f).now = s.now := rfl
@[simp] theorem modHead_hdr : (s.modHead f).hdr = s.hdr := rfl
@[simp] theorem modHead_lines : (s.modHead f).lines = s.lines := rfl
@[simp] theorem modHead_out : (s.modHead f).out = s.out := rfl
@[simp] theorem modHead_reader : (s.modHead f).reader = s.reader := rfl
@[simp] theorem modHead_verifier : (s.modHead f).verifier = s.verifier := rfl
@[simp] theorem modHead_tape : (s.modHead f).tape = s.tape := rfl
@[simp] theorem modHead_table : (s.modHead f).table = s.table := rfl
@[simp] theorem modHead_head : (s.modHead f).head = f s.head := rfl
@[simp] theorem modHead_work : (s.modHead f).work = s.work := rfl
@[simp] theorem modHead_trav : (s.modHead f).trav = s.trav := rfl
@[simp] theorem modHead_alarm : (s.modHead f).alarm = s.alarm := rfl
@[simp] theorem modHead_link : (s.modHead f).link = s.link := rfl
end

section
variable (s : State) (f : Work → Work)
@[simp] theorem modWork_pending : (s.modWork f).pending = s.pending := rfl
@[simp] theorem modWork_now : (s.modWork f).now = s.now := rfl
@[simp] theorem modWork_hdr : (s.modWork f).hdr = s.hdr := rfl
@[simp] theorem modWork_lines : (s.modWork f).lines = s.lines := rfl
@[simp] theorem modWork_out : (s.modWork f).out = s.out := rfl
@[simp] theorem modWork_reader : (s.modWork f).reader = s.reader := rfl
@[simp] theorem modWork_verifier : (s.modWork f).verifier = s.verifier := rfl
@[simp] theorem modWork_tape : (s.modWork f).tape = s.tape := rfl
@[simp] theorem modWork_table : (s.modWork f).table = s.table := rfl
@[simp] theorem modWork_head : (s.modWork f).head = s.head := rfl
@[simp] theorem modWork_work : (s.modWork f).work = f s.work := rfl
@[simp] theorem modWork_trav : (s.modWork f).trav = s.trav := rfl
@[simp] theorem modWork_alarm : (s.modWork f).alarm = s.alarm := rfl
@[simp] theorem modWork_link : (s.modWork f).link = s.link := rfl
end

section
variable (s : State) (f : Trav → Trav)
@[simp] theorem modTrav_pending : (s.modTrav f).pending = s.pending := rfl
@[simp] theorem modTrav_now : (s.modTrav f).now = s.now := rfl
@[simp] theorem modTrav_hdr : (s.modTrav f).hdr = s.hdr := rfl
@[simp] theorem modTrav_lines : (s.modTrav f).lines = s.lines := rfl
@[simp] theorem modTrav_out : (s.modTrav f).out = s.out := rfl
@[simp] theorem modTrav_reader : (s.modTrav f).reader = s.reader := rfl
@[simp] theorem modTrav_verifier : (s.modTrav f).verifier = s.verifier := rfl
@[simp] theorem modTrav_tape : (s.modTrav f).tape = s.tape := rfl
@[simp] theorem modTrav_table : (s.modTrav f).table = s.table := rfl
@[simp] theorem modTrav_head : (s.modTrav f).head = s.head := rfl
@[simp] theorem modTrav_work : (s.modTrav f).work = s.work := rfl
@[simp] theorem modTrav_trav : (s.modTrav f).trav = f s.trav := rfl
@[simp] theorem modTrav_alarm : (s.modTrav f).alarm = s.alarm := rfl
@[simp] theorem modTrav_link : (s.modTrav f).link = s.link := rfl
end

section
variable (s : State) (f : Alarm → Alarm)
@[simp] theorem modAlarm_pending : (s.modAlarm f).pending = s.pending := rfl
@[simp] theorem modAlarm_now : (s.modAlarm f).now = s.now := rfl
@[simp] theorem modAlarm_hdr : (s.modAlarm f).hdr = s.hdr := rfl
@[simp] theorem modAlarm_lines : (s.modAlarm f).lines = s.lines := rfl
@[simp] theorem modAlarm_out : (s.modAlarm f).out = s.out := rfl
@[simp] theorem modAlarm_reader : (s.modAlarm f).reader = s.reader := rfl
@[simp] theorem modAlarm_verifier : (s.modAlarm f).verifier = s.verifier := rfl
@[simp] theorem modAlarm_tape : (s.modAlarm f).tape = s.tape := rfl
@[simp] theorem modAlarm_table : (s.modAlarm f).table = s.table := rfl
@[simp] theorem modAlarm_head : (s.modAlarm f).head = s.head := rfl
@[simp] theorem modAlarm_work : (s.modAlarm f).work = s.work := rfl
@[simp] theorem modAlarm_trav : (s.modAlarm f).trav = s.trav := rfl
@[simp] theorem modAlarm_alarm : (s.modAlarm f).alarm = f s.alarm := rfl
@[simp] theorem modAlarm_link : (s.modAlarm f).link = s.link := rfl
end

section
variable (s : State) (f : Link → Link)
@[simp] theorem modLink_pending : (s.modLink f).pending = s.pending := rfl
@[simp] theorem modLink_now : (s.modLink f).now = s.now := rfl
@[simp] theorem modLink_hdr : (s.modLink f).hdr = s.hdr := rfl
@[simp] theorem modLink_lines : (s.modLink f).lines = s.lines := rfl
@[simp] theorem modLink_out : (s.modLink f).out = s.out := rfl
@[simp] theorem modLink_reader : (s.modLink f).reader = s.reader := rfl
@[simp] theorem modLink_verifier : (s.modLink f).verifier = s.verifier := rfl
@[simp] theorem modLink_tape : (s.modLink f).tape = s.tape := rfl
@[simp] theorem modLink_table : (s.modLink f).table = s.table := rfl
@[simp] theorem modLink_head : (s.modLink f).head = s.head := rfl
@[simp] theorem modLink_work : (s.modLink f).work = s.work := rfl
@[simp] theorem modLink_trav : (s.modLink f).trav = s.trav := rfl
@[simp] theorem modLink_alarm : (s.modLink f).alarm = s.alarm := rfl
@[simp] theorem modLink_link : (s.modLink f).link = f s.link := rfl
end

end Sys2Proof.Machine.State

namespace Sys2Proof.Machine

section
variable (l : Link)
@[simp] theorem Link.markDue_butSlot : l.markDue.butSlot = l.butSlot := by
  unfold Link.markDue; split <;> rfl

theorem Link.markDue_sending : l.markDue.sending = l.sending := by
  unfold Link.markDue; split <;> rfl
end

end Sys2Proof.Machine
end

