-- ==== Sys2Proof/Laws/Ops.lean ====
section
/-! SUPPORT. What each shared operation leaves unchanged: one lemma per operation and block that it does not touch, and
for an operation that only announces a change of run state, the link unit but for its status slot. -/

namespace Sys2Proof.Machine.State


/-! ### The end of every command (Ops.lean) -/

@[simp] theorem settle_frame (s t : State) :
    (s.settle t).pending = t.pending ∧ (s.settle t).now = t.now ∧ (s.settle t).hdr = t.hdr ∧
    (s.settle t).lines = t.lines ∧ (s.settle t).reader = t.reader ∧ (s.settle t).verifier = t.verifier ∧
    (s.settle t).tape = t.tape ∧ (s.settle t).table = t.table ∧ (s.settle t).head = t.head ∧
    (s.settle t).work = t.work ∧ (s.settle t).trav = t.trav ∧ (s.settle t).alarm = t.alarm ∧
    (s.settle t).link.butSlot = t.link.butSlot := by
  unfold State.settle; dsimp only; split <;> simp

/-- The outputs read no field that `settle` changes: the status slot and the outputs themselves. -/
theorem outputs_of_butSlot (s t : State) (hnow : t.now = s.now) (hhdr : t.hdr = s.hdr) (hlines : t.lines = s.lines)
    (hreader : t.reader = s.reader) (htape : t.tape = s.tape) (htable : t.table = s.table) (hwork : t.work = s.work)
    (halarm : t.alarm = s.alarm) (hlink : t.link.butSlot = s.link.butSlot) : t.outputs = s.outputs := by
  have hp : t.link.butSlot.peers = s.link.butSlot.peers := by rw [hlink]
  have hq : t.link.butSlot.period = s.link.butSlot.period := by rw [hlink]
  simp only [Link.butSlot] at hp hq
  simp [State.outputs, State.driveRuns, State.lampRunMode, State.lampStopMode, State.lampAlarmMode, State.displayed,
    State.holder, State.entryState, State.drivesStopline, State.options, State.header, hnow, hhdr, hlines, hreader, htape,
    htable, hwork, halarm, hp, hq]

/-- After a command the output lines are the outputs of the state it leaves. -/
theorem settle_out_self (s t : State) : (s.settle t).out = (s.settle t).outputs := by
  unfold State.settle
  exact outputs_of_butSlot _ _ rfl rfl rfl rfl rfl rfl rfl rfl rfl

/-- The output lines after a command are those of the state it came to. -/
theorem settle_out (s t : State) : (s.settle t).out = t.outputs := by
  rw [settle_out_self]
  refine outputs_of_butSlot _ _ ?_ ?_ ?_ ?_ ?_ ?_ ?_ ?_ ?_ <;> simp

/-- What the link unit's status slot is after a command: DUE as before, or made DUE by an announced change (R174). -/
theorem settle_link (s t : State) :
    (s.settle t).link = if s.announced = t.announced then t.link else t.link.markDue := by
  unfold State.settle; dsimp only; split <;> rfl

/-- What is announced reads the header values, the lines, the work-position unit and the alarm unit alone. -/
theorem announced_congr (s t : State) (hhdr : t.hdr = s.hdr) (hlines : t.lines = s.lines) (hwork : t.work = s.work)
    (halarm : t.alarm = s.alarm) : t.announced = s.announced := by
  simp [State.announced, State.drivesStopline, State.entryState, State.options, State.header, hhdr, hlines, hwork, halarm]

/-- A command that announces no change leaves the link unit as it came to be. -/
theorem settle_link_of_same (s t : State) (hhdr : t.hdr = s.hdr) (hlines : t.lines = s.lines) (hwork : t.work = s.work)
    (halarm : t.alarm = s.alarm) : (s.settle t).link = t.link := by
  simp [settle_link, announced_congr s t hhdr hlines hwork halarm]

/-! ### Run state, alarms and monitors (Ops.lean) -/

@[simp] theorem setRun_frame (s : State) (r : RunState) :
    (s.setRun r).pending = s.pending ∧ (s.setRun r).now = s.now ∧ (s.setRun r).hdr = s.hdr ∧
    (s.setRun r).lines = s.lines ∧ (s.setRun r).out = s.out ∧ (s.setRun r).reader = s.reader ∧
    (s.setRun r).verifier = s.verifier ∧ (s.setRun r).tape = s.tape ∧ (s.setRun r).table = s.table ∧
    (s.setRun r).work = s.work ∧ (s.setRun r).trav = s.trav ∧ (s.setRun r).link.butSlot = s.link.butSlot := by
  unfold State.setRun; (repeat' split) <;> simp

/-- A change of run state leaves the head unit alone but for the last cycle start (R100). -/
theorem setRun_head (s : State) (r : RunState) : (s.setRun r).head = s.headAfter r := by
  unfold State.setRun State.headAfter; (repeat' split) <;> simp_all

@[simp] theorem setRun_run (s : State) (r : RunState) : (s.setRun r).alarm.run = r := by
  unfold State.setRun; (repeat' split) <;> simp_all

@[simp] theorem endIfQuiet_frame (s : State) :
    (s.endIfQuiet).pending = s.pending ∧ (s.endIfQuiet).now = s.now ∧ (s.endIfQuiet).hdr = s.hdr ∧
    (s.endIfQuiet).lines = s.lines ∧ (s.endIfQuiet).out = s.out ∧ (s.endIfQuiet).reader = s.reader ∧
    (s.endIfQuiet).verifier = s.verifier ∧ (s.endIfQuiet).tape = s.tape ∧ (s.endIfQuiet).table = s.table ∧
    (s.endIfQuiet).work = s.work ∧ (s.endIfQuiet).trav = s.trav ∧ (s.endIfQuiet).link.butSlot = s.link.butSlot := by
  unfold State.endIfQuiet; split <;> simp

@[simp] theorem useStep_frame (s : State) :
    (s.useStep).pending = s.pending ∧ (s.useStep).now = s.now ∧ (s.useStep).hdr = s.hdr ∧
    (s.useStep).lines = s.lines ∧ (s.useStep).out = s.out ∧ (s.useStep).reader = s.reader ∧
    (s.useStep).verifier = s.verifier ∧ (s.useStep).tape = s.tape ∧ (s.useStep).table = s.table ∧
    (s.useStep).head = s.head ∧ (s.useStep).work = s.work ∧ (s.useStep).trav = s.trav ∧ (s.useStep).link = s.link := by
  unfold State.useStep; split <;> simp

@[simp] theorem raise_frame (s : State) (r : Raise) :
    (s.raise r).pending = s.pending ∧ (s.raise r).now = s.now ∧ (s.raise r).hdr = s.hdr ∧
    (s.raise r).lines = s.lines ∧ (s.raise r).out = s.out ∧ (s.raise r).reader = s.reader ∧
    (s.raise r).verifier = s.verifier ∧ (s.raise r).tape = s.tape ∧ (s.raise r).table = s.table ∧
    (s.raise r).work = s.work ∧ (s.raise r).trav = s.trav ∧ (s.raise r).link.butSlot = s.link.butSlot := by
  unfold State.raise; dsimp only; (repeat' split) <;> simp

theorem raise_head (s : State) (r : Raise) : (s.raise r).head = s.headAfter (s.raise r).alarm.run := by
  unfold State.raise; dsimp only
  (repeat' split) <;> simp_all [setRun_head, State.headAfter, Alarm.take] <;> (repeat' split) <;> simp_all

/-- What a raise makes of the alarm unit is told by the alarm unit and the header values alone. -/
theorem raise_alarm_congr (s t : State) (r : Raise) (halarm : t.alarm = s.alarm) (hhdr : t.hdr = s.hdr) :
    (t.raise r).alarm = (s.raise r).alarm := by
  have hb (c : AlarmCode) : t.stopBit c = s.stopBit c := by
    cases c <;> simp [State.stopBit, State.options, State.header, hhdr]
  have hset (u : State) (x : RunState) :
      (u.setRun x).alarm = if u.alarm.run = x then u.alarm else { u.alarm with run := x } := by
    unfold State.setRun; (repeat' split) <;> simp
  have hl : t.live = s.live := by simp [State.live, halarm]
  unfold State.raise
  simp only [hl, hb, modAlarm_alarm, halarm]
  cases s.live <;> cases s.stopBit r.code <;> simp <;> (repeat' split) <;> simp_all

@[simp] theorem reportCondition_frame (s : State) (c : AlarmCode) (active : Bool) :
    (s.reportCondition c active).pending = s.pending ∧ (s.reportCondition c active).now = s.now ∧
    (s.reportCondition c active).hdr = s.hdr ∧ (s.reportCondition c active).lines = s.lines ∧
    (s.reportCondition c active).out = s.out ∧ (s.reportCondition c active).reader = s.reader ∧
    (s.reportCondition c active).verifier = s.verifier ∧ (s.reportCondition c active).tape = s.tape ∧
    (s.reportCondition c active).table = s.table ∧ (s.reportCondition c active).head = s.head ∧
    (s.reportCondition c active).work = s.work ∧ (s.reportCondition c active).trav = s.trav ∧
    (s.reportCondition c active).link = s.link := by
  unfold State.reportCondition; simp

@[simp] theorem evaluate_frame (s : State) (id : MonitorId) (value : Nat) :
    (s.evaluate id value).pending = s.pending ∧ (s.evaluate id value).now = s.now ∧
    (s.evaluate id value).hdr = s.hdr ∧ (s.evaluate id value).lines = s.lines ∧ (s.evaluate id value).out = s.out ∧
    (s.evaluate id value).reader = s.reader ∧ (s.evaluate id value).verifier = s.verifier ∧
    (s.evaluate id value).tape = s.tape ∧ (s.evaluate id value).table = s.table ∧
    (s.evaluate id value).work = s.work ∧ (s.evaluate id value).trav = s.trav ∧
    (s.evaluate id value).link.butSlot = s.link.butSlot := by
  unfold State.evaluate; dsimp only; (repeat' split) <;> simp


theorem evaluate_head (s : State) (id : MonitorId) (value : Nat) :
    (s.evaluate id value).head = s.headAfter (s.evaluate id value).alarm.run := by
  have hset (a : Alarm) (m : Monitor) : (a.setMonitor id m).run = a.run := by cases id <;> rfl
  unfold State.evaluate; dsimp only
  (repeat' split) <;> simp_all [raise_head, State.headAfter]

/-! ### Reader, verifier, decisions, feeds, outcomes (Ops.lean) -/

@[simp] theorem issueRead_frame (s : State) :
    (s.issueRead).pending = s.pending ∧ (s.issueRead).now = s.now ∧ (s.issueRead).hdr = s.hdr ∧
    (s.issueRead).lines = s.lines ∧ (s.issueRead).out = s.out ∧ (s.issueRead).verifier = s.verifier ∧
    (s.issueRead).tape = s.tape ∧ (s.issueRead).table = s.table ∧ (s.issueRead).head = s.head ∧
    (s.issueRead).work = s.work ∧ (s.issueRead).trav = s.trav ∧ (s.issueRead).alarm = s.alarm ∧
    (s.issueRead).link = s.link := by
  unfold State.issueRead; split <;> simp

@[simp] theorem rewind_frame (s : State) (lap : Lap) (k : Nat) :
    (s.rewind lap k).pending = s.pending ∧ (s.rewind lap k).now = s.now ∧ (s.rewind lap k).hdr = s.hdr ∧
    (s.rewind lap k).lines = s.lines ∧ (s.rewind lap k).out = s.out ∧ (s.rewind lap k).verifier = s.verifier ∧
    (s.rewind lap k).tape = s.tape ∧ (s.rewind lap k).table = s.table ∧ (s.rewind lap k).head = s.head ∧
    (s.rewind lap k).work = s.work ∧ (s.rewind lap k).trav = s.trav ∧ (s.rewind lap k).alarm = s.alarm ∧
    (s.rewind lap k).link = s.link := by
  unfold State.rewind; simp

@[simp] theorem abandon_frame (s : State) :
    (s.abandon).pending = s.pending ∧ (s.abandon).now = s.now ∧ (s.abandon).hdr = s.hdr ∧
    (s.abandon).lines = s.lines ∧ (s.abandon).out = s.out ∧ (s.abandon).reader = s.reader ∧
    (s.abandon).tape = s.tape ∧ (s.abandon).table = s.table ∧ (s.abandon).head = s.head ∧ (s.abandon).work = s.work ∧
    (s.abandon).trav = s.trav ∧ (s.abandon).alarm = s.alarm ∧ (s.abandon).link = s.link := by
  unfold State.abandon; split <;> simp

@[simp] theorem decideOldest_frame (s : State) :
    (s.decideOldest).pending = s.pending ∧ (s.decideOldest).now = s.now ∧ (s.decideOldest).hdr = s.hdr ∧
    (s.decideOldest).lines = s.lines ∧ (s.decideOldest).out = s.out ∧ (s.decideOldest).reader = s.reader ∧
    (s.decideOldest).verifier = s.verifier ∧ (s.decideOldest).table = s.table ∧ (s.decideOldest).head = s.head ∧
    (s.decideOldest).work = s.work ∧ (s.decideOldest).trav = s.trav ∧ (s.decideOldest).alarm = s.alarm ∧
    (s.decideOldest).link = s.link := by
  unfold State.decideOldest; (repeat' split) <;> simp

@[simp] theorem startBoard_frame (s : State) :
    (s.startBoard).pending = s.pending ∧ (s.startBoard).now = s.now ∧ (s.startBoard).hdr = s.hdr ∧
    (s.startBoard).lines = s.lines ∧ (s.startBoard).out = s.out ∧ (s.startBoard).reader = s.reader ∧
    (s.startBoard).verifier = s.verifier ∧ (s.startBoard).tape = s.tape ∧ (s.startBoard).table = s.table ∧
    (s.startBoard).trav = s.trav ∧ (s.startBoard).link = s.link := by
  unfold State.startBoard; (repeat' split) <;> simp

@[simp] theorem takeRowHold_frame (s : State) :
    (s.takeRowHold).pending = s.pending ∧ (s.takeRowHold).now = s.now ∧ (s.takeRowHold).hdr = s.hdr ∧
    (s.takeRowHold).lines = s.lines ∧ (s.takeRowHold).out = s.out ∧ (s.takeRowHold).reader = s.reader ∧
    (s.takeRowHold).verifier = s.verifier ∧ (s.takeRowHold).tape = s.tape ∧ (s.takeRowHold).table = s.table ∧
    (s.takeRowHold).trav = s.trav ∧ (s.takeRowHold).link.butSlot = s.link.butSlot := by
  unfold State.takeRowHold; (repeat' split) <;> simp

@[simp] theorem bookkeep_frame (s : State) :
    (s.bookkeep).pending = s.pending ∧ (s.bookkeep).now = s.now ∧ (s.bookkeep).hdr = s.hdr ∧
    (s.bookkeep).lines = s.lines ∧ (s.bookkeep).out = s.out ∧ (s.bookkeep).reader = s.reader ∧
    (s.bookkeep).verifier = s.verifier ∧ (s.bookkeep).table = s.table ∧ (s.bookkeep).trav = s.trav ∧
    (s.bookkeep).link.butSlot = s.link.butSlot := by
  unfold State.bookkeep; simp

@[simp] theorem startFeed_frame (s : State) :
    (s.startFeed).pending = s.pending ∧ (s.startFeed).now = s.now ∧ (s.startFeed).hdr = s.hdr ∧
    (s.startFeed).lines = s.lines ∧ (s.startFeed).out = s.out ∧ (s.startFeed).reader = s.reader ∧
    (s.startFeed).verifier = s.verifier ∧ (s.startFeed).table = s.table ∧ (s.startFeed).head = s.head ∧
    (s.startFeed).work = s.work ∧ (s.startFeed).trav = s.trav ∧ (s.startFeed).alarm = s.alarm ∧
    (s.startFeed).link = s.link := by
  unfold State.startFeed; simp

@[simp] theorem tryFeed_frame (s : State) :
    (s.tryFeed).pending = s.pending ∧ (s.tryFeed).now = s.now ∧ (s.tryFeed).hdr = s.hdr ∧
    (s.tryFeed).lines = s.lines ∧ (s.tryFeed).out = s.out ∧ (s.tryFeed).reader = s.reader ∧
    (s.tryFeed).verifier = s.verifier ∧ (s.tryFeed).table = s.table ∧ (s.tryFeed).head = s.head ∧
    (s.tryFeed).work = s.work ∧ (s.tryFeed).trav = s.trav ∧ (s.tryFeed).alarm = s.alarm ∧ (s.tryFeed).link = s.link := by
  unfold State.tryFeed; split <;> simp

@[simp] theorem checkFlush_frame (s : State) :
    (s.checkFlush).pending = s.pending ∧ (s.checkFlush).now = s.now ∧ (s.checkFlush).hdr = s.hdr ∧
    (s.checkFlush).lines = s.lines ∧ (s.checkFlush).out = s.out ∧ (s.checkFlush).reader = s.reader ∧
    (s.checkFlush).verifier = s.verifier ∧ (s.checkFlush).table = s.table ∧ (s.checkFlush).head = s.head ∧
    (s.checkFlush).work = s.work ∧ (s.checkFlush).trav = s.trav ∧ (s.checkFlush).alarm = s.alarm ∧
    (s.checkFlush).link = s.link := by
  unfold State.checkFlush; (repeat' split) <;> simp

@[simp] theorem removeOldest_frame (s : State) :
    (s.removeOldest).pending = s.pending ∧ (s.removeOldest).now = s.now ∧ (s.removeOldest).hdr = s.hdr ∧
    (s.removeOldest).lines = s.lines ∧ (s.removeOldest).out = s.out ∧ (s.removeOldest).reader = s.reader ∧
    (s.removeOldest).verifier = s.verifier ∧ (s.removeOldest).table = s.table ∧ (s.removeOldest).head = s.head ∧
    (s.removeOldest).work = s.work ∧ (s.removeOldest).trav = s.trav ∧ (s.removeOldest).alarm = s.alarm ∧
    (s.removeOldest).link = s.link := by
  unfold State.removeOldest; simp

@[simp] theorem followOn_frame (s : State) :
    (s.followOn).pending = s.pending ∧ (s.followOn).now = s.now ∧ (s.followOn).hdr = s.hdr ∧
    (s.followOn).lines = s.lines ∧ (s.followOn).out = s.out ∧ (s.followOn).reader = s.reader ∧
    (s.followOn).verifier = s.verifier ∧ (s.followOn).table = s.table ∧ (s.followOn).trav = s.trav ∧
    (s.followOn).link.butSlot = s.link.butSlot := by
  unfold State.followOn; simp

@[simp] theorem armFlush_frame (s : State) (l : Lap) :
    (s.armFlush l).pending = s.pending ∧ (s.armFlush l).now = s.now ∧ (s.armFlush l).hdr = s.hdr ∧
    (s.armFlush l).lines = s.lines ∧ (s.armFlush l).out = s.out ∧ (s.armFlush l).reader = s.reader ∧
    (s.armFlush l).verifier = s.verifier ∧ (s.armFlush l).table = s.table ∧ (s.armFlush l).head = s.head ∧
    (s.armFlush l).work = s.work ∧ (s.armFlush l).trav = s.trav ∧ (s.armFlush l).alarm = s.alarm ∧
    (s.armFlush l).link = s.link := by
  unfold State.armFlush; simp

@[simp] theorem takeOutcome_frame (s : State) (lap : Lap) (ordinal : Nat) (o : StepOutcome) :
    (s.takeOutcome lap ordinal o).pending = s.pending ∧ (s.takeOutcome lap ordinal o).now = s.now ∧
    (s.takeOutcome lap ordinal o).hdr = s.hdr ∧ (s.takeOutcome lap ordinal o).lines = s.lines ∧
    (s.takeOutcome lap ordinal o).out = s.out ∧ (s.takeOutcome lap ordinal o).reader = s.reader ∧
    (s.takeOutcome lap ordinal o).verifier = s.verifier ∧ (s.takeOutcome lap ordinal o).tape = s.tape ∧
    (s.takeOutcome lap ordinal o).table = s.table ∧ (s.takeOutcome lap ordinal o).trav = s.trav ∧
    (s.takeOutcome lap ordinal o).link.butSlot = s.link.butSlot := by
  unfold State.takeOutcome; (repeat' split) <;> simp


/-! ### The board at the work position (Handling.lean) -/

@[simp] theorem scanFrom_frame (s : State) (start : Nat) :
    (s.scanFrom start).pending = s.pending ∧ (s.scanFrom start).now = s.now ∧ (s.scanFrom start).hdr = s.hdr ∧
    (s.scanFrom start).lines = s.lines ∧ (s.scanFrom start).out = s.out ∧ (s.scanFrom start).reader = s.reader ∧
    (s.scanFrom start).verifier = s.verifier ∧ (s.scanFrom start).trav = s.trav ∧
    (s.scanFrom start).link.butSlot = s.link.butSlot := by
  unfold State.scanFrom; split <;> simp

@[simp] theorem markArrival_frame (s : State) (g : Nat) (mark : Bool) :
    (s.markArrival g mark).pending = s.pending ∧ (s.markArrival g mark).now = s.now ∧
    (s.markArrival g mark).hdr = s.hdr ∧ (s.markArrival g mark).lines = s.lines ∧
    (s.markArrival g mark).out = s.out ∧ (s.markArrival g mark).reader = s.reader ∧
    (s.markArrival g mark).verifier = s.verifier ∧ (s.markArrival g mark).trav = s.trav ∧
    (s.markArrival g mark).link.butSlot = s.link.butSlot := by
  unfold State.markArrival; (repeat' split) <;> simp

@[simp] theorem drive_frame (s : State) (k : OpKind) :
    (s.drive k).pending = s.pending ∧ (s.drive k).now = s.now ∧ (s.drive k).hdr = s.hdr ∧
    (s.drive k).lines = s.lines ∧ (s.drive k).out = s.out ∧ (s.drive k).reader = s.reader ∧
    (s.drive k).verifier = s.verifier ∧ (s.drive k).tape = s.tape ∧ (s.drive k).table = s.table ∧
    (s.drive k).head = s.head ∧ (s.drive k).trav = s.trav ∧ (s.drive k).alarm = s.alarm ∧ (s.drive k).link = s.link := by
  unfold State.drive; simp

@[simp] theorem boardCleared_frame (s : State) :
    (s.boardCleared).pending = s.pending ∧ (s.boardCleared).now = s.now ∧ (s.boardCleared).hdr = s.hdr ∧
    (s.boardCleared).lines = s.lines ∧ (s.boardCleared).out = s.out ∧ (s.boardCleared).reader = s.reader ∧
    (s.boardCleared).verifier = s.verifier ∧ (s.boardCleared).tape = s.tape ∧ (s.boardCleared).table = s.table ∧
    (s.boardCleared).head = s.head ∧ (s.boardCleared).work = s.work ∧ (s.boardCleared).alarm = s.alarm ∧
    (s.boardCleared).link = s.link := by
  unfold State.boardCleared; split <;> simp

@[simp] theorem conveyorOutDone_frame (s : State) :
    (s.conveyorOutDone).pending = s.pending ∧ (s.conveyorOutDone).now = s.now ∧ (s.conveyorOutDone).hdr = s.hdr ∧
    (s.conveyorOutDone).lines = s.lines ∧ (s.conveyorOutDone).out = s.out ∧ (s.conveyorOutDone).reader = s.reader ∧
    (s.conveyorOutDone).verifier = s.verifier ∧ (s.conveyorOutDone).tape = s.tape ∧
    (s.conveyorOutDone).table = s.table ∧ (s.conveyorOutDone).head = s.head ∧ (s.conveyorOutDone).alarm = s.alarm ∧
    (s.conveyorOutDone).link = s.link := by
  unfold State.conveyorOutDone; split <;> simp

@[simp] theorem startConveyorOut_frame (s : State) :
    (s.startConveyorOut).pending = s.pending ∧ (s.startConveyorOut).now = s.now ∧ (s.startConveyorOut).hdr = s.hdr ∧
    (s.startConveyorOut).lines = s.lines ∧ (s.startConveyorOut).out = s.out ∧
    (s.startConveyorOut).reader = s.reader ∧ (s.startConveyorOut).verifier = s.verifier ∧
    (s.startConveyorOut).tape = s.tape ∧ (s.startConveyorOut).table = s.table ∧ (s.startConveyorOut).head = s.head ∧
    (s.startConveyorOut).alarm = s.alarm ∧ (s.startConveyorOut).link = s.link := by
  unfold State.startConveyorOut; dsimp only; split <;> simp

@[simp] theorem toConveyorOut_frame (s : State) :
    (s.toConveyorOut).pending = s.pending ∧ (s.toConveyorOut).now = s.now ∧ (s.toConveyorOut).hdr = s.hdr ∧
    (s.toConveyorOut).lines = s.lines ∧ (s.toConveyorOut).out = s.out ∧ (s.toConveyorOut).reader = s.reader ∧
    (s.toConveyorOut).verifier = s.verifier ∧ (s.toConveyorOut).tape = s.tape ∧ (s.toConveyorOut).table = s.table ∧
    (s.toConveyorOut).head = s.head ∧ (s.toConveyorOut).alarm = s.alarm ∧ (s.toConveyorOut).link = s.link := by
  unfold State.toConveyorOut; dsimp only; split <;> simp

@[simp] theorem startUnclamp_frame (s : State) :
    (s.startUnclamp).pending = s.pending ∧ (s.startUnclamp).now = s.now ∧ (s.startUnclamp).hdr = s.hdr ∧
    (s.startUnclamp).lines = s.lines ∧ (s.startUnclamp).out = s.out ∧ (s.startUnclamp).reader = s.reader ∧
    (s.startUnclamp).verifier = s.verifier ∧ (s.startUnclamp).tape = s.tape ∧ (s.startUnclamp).table = s.table ∧
    (s.startUnclamp).head = s.head ∧ (s.startUnclamp).alarm = s.alarm ∧ (s.startUnclamp).link = s.link := by
  unfold State.startUnclamp; dsimp only; split <;> simp

@[simp] theorem clampDone_frame (s : State) :
    (s.clampDone).pending = s.pending ∧ (s.clampDone).now = s.now ∧ (s.clampDone).hdr = s.hdr ∧
    (s.clampDone).lines = s.lines ∧ (s.clampDone).out = s.out ∧ (s.clampDone).reader = s.reader ∧
    (s.clampDone).verifier = s.verifier ∧ (s.clampDone).trav = s.trav ∧ (s.clampDone).link.butSlot = s.link.butSlot := by
  unfold State.clampDone; split <;> simp

@[simp] theorem startClamp_frame (s : State) :
    (s.startClamp).pending = s.pending ∧ (s.startClamp).now = s.now ∧ (s.startClamp).hdr = s.hdr ∧
    (s.startClamp).lines = s.lines ∧ (s.startClamp).out = s.out ∧ (s.startClamp).reader = s.reader ∧
    (s.startClamp).verifier = s.verifier ∧ (s.startClamp).trav = s.trav ∧
    (s.startClamp).link.butSlot = s.link.butSlot := by
  unfold State.startClamp; dsimp only; split <;> simp

@[simp] theorem boardMade_frame (s : State) (b : Board) :
    (s.boardMade b).pending = s.pending ∧ (s.boardMade b).now = s.now ∧ (s.boardMade b).hdr = s.hdr ∧
    (s.boardMade b).lines = s.lines ∧ (s.boardMade b).out = s.out ∧ (s.boardMade b).reader = s.reader ∧
    (s.boardMade b).verifier = s.verifier ∧ (s.boardMade b).trav = s.trav ∧
    (s.boardMade b).link.butSlot = s.link.butSlot := by
  unfold State.boardMade; dsimp only; (repeat' split) <;> simp

@[simp] theorem makeOwnBoard_frame (s : State) (reject : Option RejectReason) :
    (s.makeOwnBoard reject).pending = s.pending ∧ (s.makeOwnBoard reject).now = s.now ∧
    (s.makeOwnBoard reject).hdr = s.hdr ∧ (s.makeOwnBoard reject).lines = s.lines ∧
    (s.makeOwnBoard reject).out = s.out ∧ (s.makeOwnBoard reject).reader = s.reader ∧
    (s.makeOwnBoard reject).verifier = s.verifier ∧ (s.makeOwnBoard reject).trav = s.trav ∧
    (s.makeOwnBoard reject).link.butSlot = s.link.butSlot := by
  unfold State.makeOwnBoard; simp

@[simp] theorem makeUntracked_frame (s : State) :
    (s.makeUntracked).pending = s.pending ∧ (s.makeUntracked).now = s.now ∧ (s.makeUntracked).hdr = s.hdr ∧
    (s.makeUntracked).lines = s.lines ∧ (s.makeUntracked).out = s.out ∧ (s.makeUntracked).reader = s.reader ∧
    (s.makeUntracked).verifier = s.verifier ∧ (s.makeUntracked).trav = s.trav ∧
    (s.makeUntracked).link.butSlot = s.link.butSlot := by
  unfold State.makeUntracked; simp

@[simp] theorem makeMatched_frame (s : State) (t : Traveller) :
    (s.makeMatched t).pending = s.pending ∧ (s.makeMatched t).now = s.now ∧ (s.makeMatched t).hdr = s.hdr ∧
    (s.makeMatched t).lines = s.lines ∧ (s.makeMatched t).out = s.out ∧ (s.makeMatched t).reader = s.reader ∧
    (s.makeMatched t).verifier = s.verifier ∧ (s.makeMatched t).trav = s.trav ∧
    (s.makeMatched t).link.butSlot = s.link.butSlot := by
  unfold State.makeMatched; simp

@[simp] theorem beginMatching_frame (s : State) :
    (s.beginMatching).pending = s.pending ∧ (s.beginMatching).now = s.now ∧ (s.beginMatching).hdr = s.hdr ∧
    (s.beginMatching).lines = s.lines ∧ (s.beginMatching).out = s.out ∧ (s.beginMatching).reader = s.reader ∧
    (s.beginMatching).verifier = s.verifier ∧ (s.beginMatching).link.butSlot = s.link.butSlot := by
  unfold State.beginMatching; (repeat' split) <;> simp

@[simp] theorem arrive_frame (s : State) :
    (s.arrive).pending = s.pending ∧ (s.arrive).now = s.now ∧ (s.arrive).hdr = s.hdr ∧ (s.arrive).lines = s.lines ∧
    (s.arrive).out = s.out ∧ (s.arrive).reader = s.reader ∧ (s.arrive).verifier = s.verifier ∧
    (s.arrive).link.butSlot = s.link.butSlot := by
  unfold State.arrive; simp

@[simp] theorem startConveyorIn_frame (s : State) :
    (s.startConveyorIn).pending = s.pending ∧ (s.startConveyorIn).now = s.now ∧ (s.startConveyorIn).hdr = s.hdr ∧
    (s.startConveyorIn).lines = s.lines ∧ (s.startConveyorIn).out = s.out ∧ (s.startConveyorIn).reader = s.reader ∧
    (s.startConveyorIn).verifier = s.verifier ∧ (s.startConveyorIn).link.butSlot = s.link.butSlot := by
  unfold State.startConveyorIn; dsimp only; split <;> simp

@[simp] theorem startOp_frame (s : State) (k : OpKind) :
    (s.startOp k).pending = s.pending ∧ (s.startOp k).now = s.now ∧ (s.startOp k).hdr = s.hdr ∧
    (s.startOp k).lines = s.lines ∧ (s.startOp k).out = s.out ∧ (s.startOp k).reader = s.reader ∧
    (s.startOp k).verifier = s.verifier ∧ (s.startOp k).link.butSlot = s.link.butSlot := by
  unfold State.startOp; split <;> simp

@[simp] theorem restartOp_frame (s : State) :
    (s.restartOp).pending = s.pending ∧ (s.restartOp).now = s.now ∧ (s.restartOp).hdr = s.hdr ∧
    (s.restartOp).lines = s.lines ∧ (s.restartOp).out = s.out ∧ (s.restartOp).reader = s.reader ∧
    (s.restartOp).verifier = s.verifier ∧ (s.restartOp).link.butSlot = s.link.butSlot := by
  unfold State.restartOp; (repeat' split) <;> simp

@[simp] theorem releaseBoard_frame (s : State) :
    (s.releaseBoard).pending = s.pending ∧ (s.releaseBoard).now = s.now ∧ (s.releaseBoard).hdr = s.hdr ∧
    (s.releaseBoard).lines = s.lines ∧ (s.releaseBoard).out = s.out ∧ (s.releaseBoard).reader = s.reader ∧
    (s.releaseBoard).verifier = s.verifier ∧ (s.releaseBoard).tape = s.tape ∧ (s.releaseBoard).table = s.table ∧
    (s.releaseBoard).head = s.head ∧ (s.releaseBoard).alarm = s.alarm ∧ (s.releaseBoard).link = s.link := by
  unfold State.releaseBoard; split <;> simp


/-! ### Entering a run state (Entry.lean) -/

@[simp] theorem returnDone_frame (s : State) :
    (s.returnDone).pending = s.pending ∧ (s.returnDone).now = s.now ∧ (s.returnDone).hdr = s.hdr ∧
    (s.returnDone).lines = s.lines ∧ (s.returnDone).out = s.out ∧ (s.returnDone).reader = s.reader ∧
    (s.returnDone).verifier = s.verifier ∧ (s.returnDone).table = s.table ∧ (s.returnDone).trav = s.trav ∧
    (s.returnDone).link.butSlot = s.link.butSlot := by
  unfold State.returnDone; (repeat' split) <;> simp

@[simp] theorem dropHead_frame (s : State) :
    (s.dropHead).pending = s.pending ∧ (s.dropHead).now = s.now ∧ (s.dropHead).hdr = s.hdr ∧
    (s.dropHead).lines = s.lines ∧ (s.dropHead).out = s.out ∧ (s.dropHead).reader = s.reader ∧
    (s.dropHead).verifier = s.verifier ∧ (s.dropHead).tape = s.tape ∧ (s.dropHead).table = s.table ∧
    (s.dropHead).work = s.work ∧ (s.dropHead).trav = s.trav ∧ (s.dropHead).link.butSlot = s.link.butSlot := by
  unfold State.dropHead; simp

@[simp] theorem seeTop_frame (s : State) :
    (s.seeTop).pending = s.pending ∧ (s.seeTop).now = s.now ∧ (s.seeTop).hdr = s.hdr ∧
    (s.seeTop).lines = s.lines ∧ (s.seeTop).out = s.out ∧ (s.seeTop).reader = s.reader ∧
    (s.seeTop).verifier = s.verifier ∧ (s.seeTop).table = s.table ∧ (s.seeTop).trav = s.trav ∧
    (s.seeTop).link.butSlot = s.link.butSlot := by
  unfold State.seeTop; (repeat' split) <;> simp

/-- A TOP sample on which the head unit does not act changes nothing. -/
theorem seeTop_of_not (s : State) (h : ¬(s.head.phase = .returning ∧ s.lines.top = true))
    (h' : ¬(s.live ∧ s.head.phase = .top ∧ s.lines.top = false)) : s.seeTop = s := by
  unfold State.seeTop; rw [if_neg h, if_neg h']

/-- Where the head unit does not act on TOP, a sample moves the two lines alone. -/
theorem sample_of_not (s : State) (top bin : Bool) (h : ¬(s.head.phase = .returning ∧ top = true))
    (h' : ¬(s.live ∧ s.head.phase = .top ∧ top = false)) :
    s.sample top bin = s.modLines fun l => l.sampled top bin := by
  unfold State.sample; exact seeTop_of_not _ h h'

@[simp] theorem recoveryReturn_frame (s : State) :
    (s.recoveryReturn).pending = s.pending ∧ (s.recoveryReturn).now = s.now ∧ (s.recoveryReturn).hdr = s.hdr ∧
    (s.recoveryReturn).lines = s.lines ∧ (s.recoveryReturn).out = s.out ∧ (s.recoveryReturn).reader = s.reader ∧
    (s.recoveryReturn).verifier = s.verifier ∧ (s.recoveryReturn).table = s.table ∧
    (s.recoveryReturn).trav = s.trav ∧ (s.recoveryReturn).link.butSlot = s.link.butSlot := by
  unfold State.recoveryReturn; (repeat' split) <;> simp

@[simp] theorem followStopline_frame (s : State) :
    (s.followStopline).pending = s.pending ∧ (s.followStopline).now = s.now ∧ (s.followStopline).hdr = s.hdr ∧
    (s.followStopline).lines = s.lines ∧ (s.followStopline).out = s.out ∧ (s.followStopline).reader = s.reader ∧
    (s.followStopline).verifier = s.verifier ∧ (s.followStopline).tape = s.tape ∧
    (s.followStopline).table = s.table ∧ (s.followStopline).work = s.work ∧ (s.followStopline).trav = s.trav ∧
    (s.followStopline).link.butSlot = s.link.butSlot := by
  unfold State.followStopline; split <;> simp

@[simp] theorem enterWork_frame (s : State) (r : RunState) :
    (s.enterWork r).pending = s.pending ∧ (s.enterWork r).now = s.now ∧ (s.enterWork r).hdr = s.hdr ∧
    (s.enterWork r).lines = s.lines ∧ (s.enterWork r).out = s.out ∧ (s.enterWork r).reader = s.reader ∧
    (s.enterWork r).verifier = s.verifier ∧ (s.enterWork r).link.butSlot = s.link.butSlot := by
  unfold State.enterWork; simp

@[simp] theorem requestHoming_frame (s : State) :
    (s.requestHoming).pending = s.pending ∧ (s.requestHoming).now = s.now ∧ (s.requestHoming).hdr = s.hdr ∧
    (s.requestHoming).lines = s.lines ∧ (s.requestHoming).out = s.out ∧ (s.requestHoming).reader = s.reader ∧
    (s.requestHoming).verifier = s.verifier ∧ (s.requestHoming).tape = s.tape ∧ (s.requestHoming).head = s.head ∧
    (s.requestHoming).work = s.work ∧ (s.requestHoming).trav = s.trav ∧ (s.requestHoming).alarm = s.alarm ∧
    (s.requestHoming).link = s.link := by
  unfold State.requestHoming; split <;> simp

@[simp] theorem enterHoming_frame (s : State) (target : RunState) :
    (s.enterHoming target).pending = s.pending ∧ (s.enterHoming target).now = s.now ∧
    (s.enterHoming target).hdr = s.hdr ∧ (s.enterHoming target).lines = s.lines ∧
    (s.enterHoming target).out = s.out ∧ (s.enterHoming target).reader = s.reader ∧
    (s.enterHoming target).verifier = s.verifier ∧ (s.enterHoming target).trav = s.trav ∧
    (s.enterHoming target).link.butSlot = s.link.butSlot := by
  unfold State.enterHoming; simp

@[simp] theorem homingReported_frame (s : State) :
    (s.homingReported).pending = s.pending ∧ (s.homingReported).now = s.now ∧ (s.homingReported).hdr = s.hdr ∧
    (s.homingReported).lines = s.lines ∧ (s.homingReported).out = s.out ∧ (s.homingReported).reader = s.reader ∧
    (s.homingReported).verifier = s.verifier ∧ (s.homingReported).link.butSlot = s.link.butSlot := by
  unfold State.homingReported; split <;> simp

@[simp] theorem homingDone_frame (s : State) :
    (s.homingDone).pending = s.pending ∧ (s.homingDone).now = s.now ∧ (s.homingDone).hdr = s.hdr ∧
    (s.homingDone).lines = s.lines ∧ (s.homingDone).out = s.out ∧ (s.homingDone).reader = s.reader ∧
    (s.homingDone).verifier = s.verifier ∧ (s.homingDone).link.butSlot = s.link.butSlot := by
  unfold State.homingDone; simp

@[simp] theorem pressRun_frame (s : State) :
    (s.pressRun).pending = s.pending ∧ (s.pressRun).now = s.now ∧ (s.pressRun).hdr = s.hdr ∧
    (s.pressRun).lines = s.lines ∧ (s.pressRun).out = s.out ∧ (s.pressRun).reader = s.reader ∧
    (s.pressRun).verifier = s.verifier ∧ (s.pressRun).link.butSlot = s.link.butSlot := by
  unfold State.pressRun; split <;> simp

@[simp] theorem pressStep_frame (s : State) :
    (s.pressStep).pending = s.pending ∧ (s.pressStep).now = s.now ∧ (s.pressStep).hdr = s.hdr ∧
    (s.pressStep).lines = s.lines ∧ (s.pressStep).out = s.out ∧ (s.pressStep).reader = s.reader ∧
    (s.pressStep).verifier = s.verifier ∧ (s.pressStep).link.butSlot = s.link.butSlot := by
  unfold State.pressStep; split <;> simp

@[simp] theorem pressStop_frame (s : State) :
    (s.pressStop).pending = s.pending ∧ (s.pressStop).now = s.now ∧ (s.pressStop).hdr = s.hdr ∧
    (s.pressStop).lines = s.lines ∧ (s.pressStop).out = s.out ∧ (s.pressStop).reader = s.reader ∧
    (s.pressStop).verifier = s.verifier ∧ (s.pressStop).tape = s.tape ∧ (s.pressStop).table = s.table ∧
    (s.pressStop).work = s.work ∧ (s.pressStop).trav = s.trav ∧ (s.pressStop).link.butSlot = s.link.butSlot := by
  unfold State.pressStop; simp


/-! ### Tape and verifier units -/

@[simp] theorem giveVerdict_frame (s : State) (lap : Lap) (ordinal : Nat) (v : Verdict) (codes : List Nat) :
    (s.giveVerdict lap ordinal v codes).pending = s.pending ∧ (s.giveVerdict lap ordinal v codes).now = s.now ∧
    (s.giveVerdict lap ordinal v codes).hdr = s.hdr ∧ (s.giveVerdict lap ordinal v codes).lines = s.lines ∧
    (s.giveVerdict lap ordinal v codes).out = s.out ∧ (s.giveVerdict lap ordinal v codes).reader = s.reader ∧
    (s.giveVerdict lap ordinal v codes).table = s.table ∧ (s.giveVerdict lap ordinal v codes).work = s.work ∧
    (s.giveVerdict lap ordinal v codes).trav = s.trav ∧
    (s.giveVerdict lap ordinal v codes).link.butSlot = s.link.butSlot := by
  unfold State.giveVerdict; simp

@[simp] theorem measure_frame (s : State) (pres : Bool) (r : Record) :
    (s.measure pres r).pending = s.pending ∧ (s.measure pres r).now = s.now ∧ (s.measure pres r).hdr = s.hdr ∧
    (s.measure pres r).lines = s.lines ∧ (s.measure pres r).out = s.out ∧ (s.measure pres r).reader = s.reader ∧
    (s.measure pres r).table = s.table ∧ (s.measure pres r).work = s.work ∧ (s.measure pres r).trav = s.trav ∧
    (s.measure pres r).link.butSlot = s.link.butSlot := by
  unfold State.measure; (repeat' split) <;> simp

@[simp] theorem feedEnds_frame (s : State) (pres : Bool) (r : Record) (rest : List Record) :
    (s.feedEnds pres r rest).pending = s.pending ∧ (s.feedEnds pres r rest).now = s.now ∧
    (s.feedEnds pres r rest).hdr = s.hdr ∧ (s.feedEnds pres r rest).lines = s.lines ∧
    (s.feedEnds pres r rest).out = s.out ∧ (s.feedEnds pres r rest).table = s.table ∧
    (s.feedEnds pres r rest).trav = s.trav ∧ (s.feedEnds pres r rest).link.butSlot = s.link.butSlot := by
  unfold State.feedEnds; split <;> simp

@[simp] theorem resync_frame (s : State) :
    (s.resync).pending = s.pending ∧ (s.resync).now = s.now ∧ (s.resync).hdr = s.hdr ∧ (s.resync).lines = s.lines ∧
    (s.resync).out = s.out ∧ (s.resync).reader = s.reader ∧ (s.resync).verifier = s.verifier ∧
    (s.resync).table = s.table ∧ (s.resync).head = s.head ∧ (s.resync).work = s.work ∧ (s.resync).trav = s.trav ∧
    (s.resync).alarm = s.alarm ∧ (s.resync).link = s.link := by
  unfold State.resync; simp

@[simp] theorem breakTape_frame (s : State) :
    (s.breakTape).pending = s.pending ∧ (s.breakTape).now = s.now ∧ (s.breakTape).hdr = s.hdr ∧
    (s.breakTape).lines = s.lines ∧ (s.breakTape).out = s.out ∧ (s.breakTape).reader = s.reader ∧
    (s.breakTape).verifier = s.verifier ∧ (s.breakTape).table = s.table ∧ (s.breakTape).work = s.work ∧
    (s.breakTape).trav = s.trav ∧ (s.breakTape).link.butSlot = s.link.butSlot := by
  unfold State.breakTape; simp

@[simp] theorem raiseTapeLow_frame (s : State) :
    (s.raiseTapeLow).pending = s.pending ∧ (s.raiseTapeLow).now = s.now ∧ (s.raiseTapeLow).hdr = s.hdr ∧
    (s.raiseTapeLow).lines = s.lines ∧ (s.raiseTapeLow).out = s.out ∧ (s.raiseTapeLow).reader = s.reader ∧
    (s.raiseTapeLow).verifier = s.verifier ∧ (s.raiseTapeLow).tape = s.tape ∧ (s.raiseTapeLow).table = s.table ∧
    (s.raiseTapeLow).work = s.work ∧ (s.raiseTapeLow).trav = s.trav ∧
    (s.raiseTapeLow).link.butSlot = s.link.butSlot := by
  unfold State.raiseTapeLow; simp

@[simp] theorem recoverTape_frame (s : State) :
    (s.recoverTape).pending = s.pending ∧ (s.recoverTape).now = s.now ∧ (s.recoverTape).hdr = s.hdr ∧
    (s.recoverTape).lines = s.lines ∧ (s.recoverTape).out = s.out ∧ (s.recoverTape).table = s.table ∧
    (s.recoverTape).head = s.head ∧ (s.recoverTape).work = s.work ∧ (s.recoverTape).trav = s.trav ∧
    (s.recoverTape).alarm = s.alarm ∧ (s.recoverTape).link = s.link := by
  unfold State.recoverTape; dsimp only; split <;> simp

@[simp] theorem clearTape_frame (s : State) :
    (s.clearTape).pending = s.pending ∧ (s.clearTape).now = s.now ∧ (s.clearTape).hdr = s.hdr ∧
    (s.clearTape).lines = s.lines ∧ (s.clearTape).out = s.out ∧ (s.clearTape).table = s.table ∧
    (s.clearTape).head = s.head ∧ (s.clearTape).work = s.work ∧ (s.clearTape).trav = s.trav ∧
    (s.clearTape).alarm = s.alarm ∧ (s.clearTape).link = s.link := by
  unfold State.clearTape; (repeat' split) <;> simp


/-! ### Table, head and work-position units -/

@[simp] theorem raiseLimit_frame (s : State) (ordinal : Option Nat) :
    (s.raiseLimit ordinal).pending = s.pending ∧ (s.raiseLimit ordinal).now = s.now ∧
    (s.raiseLimit ordinal).hdr = s.hdr ∧ (s.raiseLimit ordinal).lines = s.lines ∧
    (s.raiseLimit ordinal).out = s.out ∧ (s.raiseLimit ordinal).reader = s.reader ∧
    (s.raiseLimit ordinal).verifier = s.verifier ∧ (s.raiseLimit ordinal).tape = s.tape ∧
    (s.raiseLimit ordinal).table = s.table ∧ (s.raiseLimit ordinal).work = s.work ∧
    (s.raiseLimit ordinal).trav = s.trav ∧ (s.raiseLimit ordinal).link.butSlot = s.link.butSlot := by
  unfold State.raiseLimit; simp

@[simp] theorem askAgain_frame (s : State) (p : Purpose) :
    (s.askAgain p).pending = s.pending ∧ (s.askAgain p).now = s.now ∧ (s.askAgain p).hdr = s.hdr ∧
    (s.askAgain p).lines = s.lines ∧ (s.askAgain p).out = s.out ∧ (s.askAgain p).reader = s.reader ∧
    (s.askAgain p).verifier = s.verifier ∧ (s.askAgain p).tape = s.tape ∧ (s.askAgain p).head = s.head ∧
    (s.askAgain p).work = s.work ∧ (s.askAgain p).trav = s.trav ∧ (s.askAgain p).alarm = s.alarm ∧
    (s.askAgain p).link = s.link := by
  unfold State.askAgain; split <;> simp

@[simp] theorem hitLimit_frame (s : State) :
    (s.hitLimit).pending = s.pending ∧ (s.hitLimit).now = s.now ∧ (s.hitLimit).hdr = s.hdr ∧
    (s.hitLimit).lines = s.lines ∧ (s.hitLimit).out = s.out ∧ (s.hitLimit).reader = s.reader ∧
    (s.hitLimit).verifier = s.verifier ∧ (s.hitLimit).tape = s.tape ∧ (s.hitLimit).work = s.work ∧
    (s.hitLimit).trav = s.trav ∧ (s.hitLimit).link.butSlot = s.link.butSlot := by
  unfold State.hitLimit; split <;> simp

@[simp] theorem startMove_frame (s : State) (p : Purpose) (goal : Target) :
    (s.startMove p goal).pending = s.pending ∧ (s.startMove p goal).now = s.now ∧ (s.startMove p goal).hdr = s.hdr ∧
    (s.startMove p goal).lines = s.lines ∧ (s.startMove p goal).out = s.out ∧
    (s.startMove p goal).reader = s.reader ∧ (s.startMove p goal).verifier = s.verifier ∧
    (s.startMove p goal).tape = s.tape ∧ (s.startMove p goal).head = s.head ∧ (s.startMove p goal).work = s.work ∧
    (s.startMove p goal).trav = s.trav ∧ (s.startMove p goal).alarm = s.alarm ∧ (s.startMove p goal).link = s.link := by
  unfold State.startMove; simp

@[simp] theorem refuseMove_frame (s : State) (ordinal : Option Nat) :
    (s.refuseMove ordinal).pending = s.pending ∧ (s.refuseMove ordinal).now = s.now ∧
    (s.refuseMove ordinal).hdr = s.hdr ∧ (s.refuseMove ordinal).lines = s.lines ∧
    (s.refuseMove ordinal).out = s.out ∧ (s.refuseMove ordinal).reader = s.reader ∧
    (s.refuseMove ordinal).verifier = s.verifier ∧ (s.refuseMove ordinal).tape = s.tape ∧
    (s.refuseMove ordinal).work = s.work ∧ (s.refuseMove ordinal).trav = s.trav ∧
    (s.refuseMove ordinal).link.butSlot = s.link.butSlot := by
  unfold State.refuseMove; simp

@[simp] theorem tryInsertMove_frame (s : State) :
    (s.tryInsertMove).pending = s.pending ∧ (s.tryInsertMove).now = s.now ∧ (s.tryInsertMove).hdr = s.hdr ∧
    (s.tryInsertMove).lines = s.lines ∧ (s.tryInsertMove).out = s.out ∧ (s.tryInsertMove).reader = s.reader ∧
    (s.tryInsertMove).verifier = s.verifier ∧ (s.tryInsertMove).tape = s.tape ∧ (s.tryInsertMove).work = s.work ∧
    (s.tryInsertMove).trav = s.trav ∧ (s.tryInsertMove).link.butSlot = s.link.butSlot := by
  unfold State.tryInsertMove; (repeat' split) <;> simp

@[simp] theorem strokeOutcome_frame (s : State) (e : Entry) (l : Leads) :
    (s.strokeOutcome e l).pending = s.pending ∧ (s.strokeOutcome e l).now = s.now ∧
    (s.strokeOutcome e l).hdr = s.hdr ∧ (s.strokeOutcome e l).lines = s.lines ∧ (s.strokeOutcome e l).out = s.out ∧
    (s.strokeOutcome e l).reader = s.reader ∧ (s.strokeOutcome e l).verifier = s.verifier ∧
    (s.strokeOutcome e l).table = s.table ∧ (s.strokeOutcome e l).trav = s.trav ∧
    (s.strokeOutcome e l).link.butSlot = s.link.butSlot := by
  unfold State.strokeOutcome; (repeat' split) <;> simp

@[simp] theorem strokeDone_frame (s : State) :
    (s.strokeDone).pending = s.pending ∧ (s.strokeDone).now = s.now ∧ (s.strokeDone).hdr = s.hdr ∧
    (s.strokeDone).lines = s.lines ∧ (s.strokeDone).out = s.out ∧ (s.strokeDone).reader = s.reader ∧
    (s.strokeDone).verifier = s.verifier ∧ (s.strokeDone).table = s.table ∧ (s.strokeDone).trav = s.trav ∧
    (s.strokeDone).link.butSlot = s.link.butSlot := by
  unfold State.strokeDone; split <;> simp

@[simp] theorem markAttempted_frame (s : State) :
    (s.markAttempted).pending = s.pending ∧ (s.markAttempted).now = s.now ∧ (s.markAttempted).hdr = s.hdr ∧
    (s.markAttempted).lines = s.lines ∧ (s.markAttempted).out = s.out ∧ (s.markAttempted).reader = s.reader ∧
    (s.markAttempted).verifier = s.verifier ∧ (s.markAttempted).table = s.table ∧ (s.markAttempted).head = s.head ∧
    (s.markAttempted).work = s.work ∧ (s.markAttempted).trav = s.trav ∧ (s.markAttempted).alarm = s.alarm ∧
    (s.markAttempted).link = s.link := by
  unfold State.markAttempted; simp

@[simp] theorem purgeBoard_frame (s : State) :
    (s.purgeBoard).pending = s.pending ∧ (s.purgeBoard).now = s.now ∧ (s.purgeBoard).hdr = s.hdr ∧
    (s.purgeBoard).lines = s.lines ∧ (s.purgeBoard).out = s.out ∧ (s.purgeBoard).reader = s.reader ∧
    (s.purgeBoard).verifier = s.verifier ∧ (s.purgeBoard).head = s.head ∧ (s.purgeBoard).link = s.link := by
  unfold State.purgeBoard; (repeat' split) <;> simp


/-! ### Program reader -/

@[simp] theorem failStart_frame (s : State) (reason : ConfigReason) (detail : Nat) :
    (s.failStart reason detail).pending = s.pending ∧ (s.failStart reason detail).now = s.now ∧
    (s.failStart reason detail).hdr = s.hdr ∧ (s.failStart reason detail).lines = s.lines ∧
    (s.failStart reason detail).out = s.out ∧ (s.failStart reason detail).verifier = s.verifier ∧
    (s.failStart reason detail).tape = s.tape ∧ (s.failStart reason detail).table = s.table ∧
    (s.failStart reason detail).head = s.head ∧ (s.failStart reason detail).work = s.work ∧
    (s.failStart reason detail).trav = s.trav ∧ (s.failStart reason detail).alarm = s.alarm ∧
    (s.failStart reason detail).link = s.link := by
  unfold State.failStart; simp

@[simp] theorem readNext_frame (s : State) (addr count : Nat) (scan : Scan) :
    (s.readNext addr count scan).pending = s.pending ∧ (s.readNext addr count scan).now = s.now ∧
    (s.readNext addr count scan).hdr = s.hdr ∧ (s.readNext addr count scan).lines = s.lines ∧
    (s.readNext addr count scan).out = s.out ∧ (s.readNext addr count scan).verifier = s.verifier ∧
    (s.readNext addr count scan).tape = s.tape ∧ (s.readNext addr count scan).table = s.table ∧
    (s.readNext addr count scan).head = s.head ∧ (s.readNext addr count scan).work = s.work ∧
    (s.readNext addr count scan).trav = s.trav ∧ (s.readNext addr count scan).alarm = s.alarm ∧
    (s.readNext addr count scan).link = s.link := by
  unfold State.readNext; simp

@[simp] theorem startUpEnds_frame (s : State) :
    (s.startUpEnds).pending = s.pending ∧ (s.startUpEnds).now = s.now ∧ (s.startUpEnds).lines = s.lines ∧
    (s.startUpEnds).out = s.out ∧ (s.startUpEnds).verifier = s.verifier ∧ (s.startUpEnds).trav = s.trav := by
  unfold State.startUpEnds; dsimp only; (repeat' split) <;> simp

@[simp] theorem nextRowEntry_frame (s : State) (addr : Nat) :
    (s.nextRowEntry addr).pending = s.pending ∧ (s.nextRowEntry addr).now = s.now ∧
    (s.nextRowEntry addr).hdr = s.hdr ∧ (s.nextRowEntry addr).lines = s.lines ∧ (s.nextRowEntry addr).out = s.out ∧
    (s.nextRowEntry addr).verifier = s.verifier ∧ (s.nextRowEntry addr).tape = s.tape ∧
    (s.nextRowEntry addr).table = s.table ∧ (s.nextRowEntry addr).head = s.head ∧
    (s.nextRowEntry addr).work = s.work ∧ (s.nextRowEntry addr).trav = s.trav ∧
    (s.nextRowEntry addr).alarm = s.alarm ∧ (s.nextRowEntry addr).link = s.link := by
  unfold State.nextRowEntry; split <;> simp

@[simp] theorem nextStepRecord_frame (s : State) (e : RowEntry) (rowAddr addr : Nat) (seen : List StepRecord) :
    (s.nextStepRecord e rowAddr addr seen).pending = s.pending ∧ (s.nextStepRecord e rowAddr addr seen).now = s.now ∧
    (s.nextStepRecord e rowAddr addr seen).hdr = s.hdr ∧ (s.nextStepRecord e rowAddr addr seen).lines = s.lines ∧
    (s.nextStepRecord e rowAddr addr seen).out = s.out ∧
    (s.nextStepRecord e rowAddr addr seen).verifier = s.verifier ∧
    (s.nextStepRecord e rowAddr addr seen).tape = s.tape ∧ (s.nextStepRecord e rowAddr addr seen).table = s.table ∧
    (s.nextStepRecord e rowAddr addr seen).head = s.head ∧ (s.nextStepRecord e rowAddr addr seen).work = s.work ∧
    (s.nextStepRecord e rowAddr addr seen).trav = s.trav ∧ (s.nextStepRecord e rowAddr addr seen).alarm = s.alarm ∧
    (s.nextStepRecord e rowAddr addr seen).link = s.link := by
  unfold State.nextStepRecord; split <;> simp

@[simp] theorem rowRead_frame (s : State) (h : Header) (e : RowEntry) (rowAddr : Nat) (steps : List StepRecord) :
    (s.rowRead h e rowAddr steps).pending = s.pending ∧ (s.rowRead h e rowAddr steps).now = s.now ∧
    (s.rowRead h e rowAddr steps).hdr = s.hdr ∧ (s.rowRead h e rowAddr steps).lines = s.lines ∧
    (s.rowRead h e rowAddr steps).out = s.out ∧ (s.rowRead h e rowAddr steps).verifier = s.verifier ∧
    (s.rowRead h e rowAddr steps).tape = s.tape ∧ (s.rowRead h e rowAddr steps).table = s.table ∧
    (s.rowRead h e rowAddr steps).head = s.head ∧ (s.rowRead h e rowAddr steps).work = s.work ∧
    (s.rowRead h e rowAddr steps).trav = s.trav ∧ (s.rowRead h e rowAddr steps).alarm = s.alarm ∧
    (s.rowRead h e rowAddr steps).link = s.link := by
  unfold State.rowRead; (repeat' split) <;> simp

@[simp] theorem takeHeader_frame (s : State) (ws : List Word) :
    (s.takeHeader ws).pending = s.pending ∧ (s.takeHeader ws).now = s.now ∧ (s.takeHeader ws).hdr = s.hdr ∧
    (s.takeHeader ws).lines = s.lines ∧ (s.takeHeader ws).out = s.out ∧ (s.takeHeader ws).verifier = s.verifier ∧
    (s.takeHeader ws).tape = s.tape ∧ (s.takeHeader ws).table = s.table ∧ (s.takeHeader ws).head = s.head ∧
    (s.takeHeader ws).work = s.work ∧ (s.takeHeader ws).trav = s.trav ∧ (s.takeHeader ws).alarm = s.alarm ∧
    (s.takeHeader ws).link = s.link := by
  unfold State.takeHeader; (repeat' split) <;> simp

@[simp] theorem takeRowHead_frame (s : State) (addr : Nat) (w0 : Word) :
    (s.takeRowHead addr w0).pending = s.pending ∧ (s.takeRowHead addr w0).now = s.now ∧
    (s.takeRowHead addr w0).lines = s.lines ∧ (s.takeRowHead addr w0).out = s.out ∧
    (s.takeRowHead addr w0).verifier = s.verifier ∧ (s.takeRowHead addr w0).trav = s.trav := by
  unfold State.takeRowHead; (repeat' split) <;> simp

@[simp] theorem takeRowBody_frame (s : State) (addr : Nat) (w0 : Word) (ws : List Word) :
    (s.takeRowBody addr w0 ws).pending = s.pending ∧ (s.takeRowBody addr w0 ws).now = s.now ∧
    (s.takeRowBody addr w0 ws).hdr = s.hdr ∧ (s.takeRowBody addr w0 ws).lines = s.lines ∧
    (s.takeRowBody addr w0 ws).out = s.out ∧ (s.takeRowBody addr w0 ws).verifier = s.verifier ∧
    (s.takeRowBody addr w0 ws).tape = s.tape ∧ (s.takeRowBody addr w0 ws).table = s.table ∧
    (s.takeRowBody addr w0 ws).head = s.head ∧ (s.takeRowBody addr w0 ws).work = s.work ∧
    (s.takeRowBody addr w0 ws).trav = s.trav ∧ (s.takeRowBody addr w0 ws).alarm = s.alarm ∧
    (s.takeRowBody addr w0 ws).link = s.link := by
  unfold State.takeRowBody; split <;> simp

@[simp] theorem takeStepRecord_frame (s : State) (e : RowEntry) (rowAddr addr : Nat) (seen : List StepRecord) (ws : List Word) :
    (s.takeStepRecord e rowAddr addr seen ws).pending = s.pending ∧
    (s.takeStepRecord e rowAddr addr seen ws).now = s.now ∧ (s.takeStepRecord e rowAddr addr seen ws).hdr = s.hdr ∧
    (s.takeStepRecord e rowAddr addr seen ws).lines = s.lines ∧
    (s.takeStepRecord e rowAddr addr seen ws).out = s.out ∧
    (s.takeStepRecord e rowAddr addr seen ws).verifier = s.verifier ∧
    (s.takeStepRecord e rowAddr addr seen ws).tape = s.tape ∧
    (s.takeStepRecord e rowAddr addr seen ws).table = s.table ∧
    (s.takeStepRecord e rowAddr addr seen ws).head = s.head ∧
    (s.takeStepRecord e rowAddr addr seen ws).work = s.work ∧
    (s.takeStepRecord e rowAddr addr seen ws).trav = s.trav ∧
    (s.takeStepRecord e rowAddr addr seen ws).alarm = s.alarm ∧
    (s.takeStepRecord e rowAddr addr seen ws).link = s.link := by
  unfold State.takeStepRecord; dsimp only; (repeat' split) <;> simp

@[simp] theorem takeStartUp_frame (s : State) (ws : List Word) :
    (s.takeStartUp ws).pending = s.pending ∧ (s.takeStartUp ws).now = s.now ∧ (s.takeStartUp ws).lines = s.lines ∧
    (s.takeStartUp ws).out = s.out ∧ (s.takeStartUp ws).verifier = s.verifier ∧ (s.takeStartUp ws).trav = s.trav := by
  unfold State.takeStartUp; split <;> simp

@[simp] theorem takeWalk_frame (s : State) (d : Read) (c : Cursor) (ws : List Word) :
    (s.takeWalk d c ws).pending = s.pending ∧ (s.takeWalk d c ws).now = s.now ∧ (s.takeWalk d c ws).hdr = s.hdr ∧
    (s.takeWalk d c ws).lines = s.lines ∧ (s.takeWalk d c ws).out = s.out ∧
    (s.takeWalk d c ws).verifier = s.verifier ∧ (s.takeWalk d c ws).tape = s.tape ∧
    (s.takeWalk d c ws).table = s.table ∧ (s.takeWalk d c ws).head = s.head ∧ (s.takeWalk d c ws).work = s.work ∧
    (s.takeWalk d c ws).trav = s.trav ∧ (s.takeWalk d c ws).alarm = s.alarm ∧ (s.takeWalk d c ws).link = s.link := by
  unfold State.takeWalk; simp


/-! ### Traveller and link units, operator lines, service -/

@[simp] theorem queueFrame_frame (s : State) (kind dest : Byte) (payload : List Byte) :
    (s.queueFrame kind dest payload).pending = s.pending ∧ (s.queueFrame kind dest payload).now = s.now ∧
    (s.queueFrame kind dest payload).hdr = s.hdr ∧ (s.queueFrame kind dest payload).lines = s.lines ∧
    (s.queueFrame kind dest payload).out = s.out ∧ (s.queueFrame kind dest payload).reader = s.reader ∧
    (s.queueFrame kind dest payload).verifier = s.verifier ∧ (s.queueFrame kind dest payload).tape = s.tape ∧
    (s.queueFrame kind dest payload).table = s.table ∧ (s.queueFrame kind dest payload).head = s.head ∧
    (s.queueFrame kind dest payload).work = s.work ∧ (s.queueFrame kind dest payload).trav = s.trav ∧
    (s.queueFrame kind dest payload).alarm = s.alarm := by
  unfold State.queueFrame; simp

@[simp] theorem handDone_frame (s : State) :
    (s.handDone).pending = s.pending ∧ (s.handDone).now = s.now ∧ (s.handDone).hdr = s.hdr ∧
    (s.handDone).lines = s.lines ∧ (s.handDone).out = s.out ∧ (s.handDone).reader = s.reader ∧
    (s.handDone).verifier = s.verifier ∧ (s.handDone).tape = s.tape ∧ (s.handDone).table = s.table ∧
    (s.handDone).head = s.head ∧ (s.handDone).work = s.work ∧ (s.handDone).trav = s.trav ∧
    (s.handDone).alarm = s.alarm := by
  unfold State.handDone; simp

@[simp] theorem grant_frame (s : State) (b : Board) (accept : BitVec 8) :
    (s.grant b accept).pending = s.pending ∧ (s.grant b accept).now = s.now ∧ (s.grant b accept).hdr = s.hdr ∧
    (s.grant b accept).lines = s.lines ∧ (s.grant b accept).out = s.out ∧ (s.grant b accept).reader = s.reader ∧
    (s.grant b accept).verifier = s.verifier ∧ (s.grant b accept).tape = s.tape ∧
    (s.grant b accept).table = s.table ∧ (s.grant b accept).head = s.head ∧ (s.grant b accept).alarm = s.alarm := by
  unfold State.grant; simp

@[simp] theorem tryGrant_frame (s : State) :
    (s.tryGrant).pending = s.pending ∧ (s.tryGrant).now = s.now ∧ (s.tryGrant).hdr = s.hdr ∧
    (s.tryGrant).lines = s.lines ∧ (s.tryGrant).out = s.out ∧ (s.tryGrant).reader = s.reader ∧
    (s.tryGrant).verifier = s.verifier ∧ (s.tryGrant).tape = s.tape ∧ (s.tryGrant).table = s.table ∧
    (s.tryGrant).head = s.head ∧ (s.tryGrant).alarm = s.alarm := by
  unfold State.tryGrant; split <;> simp

@[simp] theorem hearDownstream_frame (s : State) (fresh : Bool) (v : StatusView) :
    (s.hearDownstream fresh v).pending = s.pending ∧ (s.hearDownstream fresh v).now = s.now ∧
    (s.hearDownstream fresh v).hdr = s.hdr ∧ (s.hearDownstream fresh v).lines = s.lines ∧
    (s.hearDownstream fresh v).out = s.out ∧ (s.hearDownstream fresh v).reader = s.reader ∧
    (s.hearDownstream fresh v).verifier = s.verifier ∧ (s.hearDownstream fresh v).tape = s.tape ∧
    (s.hearDownstream fresh v).table = s.table ∧ (s.hearDownstream fresh v).head = s.head ∧
    (s.hearDownstream fresh v).alarm = s.alarm := by
  unfold State.hearDownstream; simp

@[simp] theorem arriveTraveller_frame (s : State) (t : Traveller) :
    (s.arriveTraveller t).pending = s.pending ∧ (s.arriveTraveller t).now = s.now ∧
    (s.arriveTraveller t).hdr = s.hdr ∧ (s.arriveTraveller t).lines = s.lines ∧ (s.arriveTraveller t).out = s.out ∧
    (s.arriveTraveller t).reader = s.reader ∧ (s.arriveTraveller t).verifier = s.verifier ∧
    (s.arriveTraveller t).link.butSlot = s.link.butSlot := by
  unfold State.arriveTraveller; (repeat' split) <;> simp

@[simp] theorem expire_frame (s : State) (serial : Serial) :
    (s.expire serial).pending = s.pending ∧ (s.expire serial).now = s.now ∧ (s.expire serial).hdr = s.hdr ∧
    (s.expire serial).lines = s.lines ∧ (s.expire serial).out = s.out ∧ (s.expire serial).reader = s.reader ∧
    (s.expire serial).verifier = s.verifier ∧ (s.expire serial).tape = s.tape ∧ (s.expire serial).table = s.table ∧
    (s.expire serial).head = s.head ∧ (s.expire serial).work = s.work ∧ (s.expire serial).alarm = s.alarm := by
  unfold State.expire; split <;> simp

@[simp] theorem testContents_frame (s : State) (f : Frame) :
    (s.testContents f).pending = s.pending ∧ (s.testContents f).now = s.now ∧ (s.testContents f).hdr = s.hdr ∧
    (s.testContents f).lines = s.lines ∧ (s.testContents f).out = s.out ∧ (s.testContents f).reader = s.reader ∧
    (s.testContents f).verifier = s.verifier ∧ (s.testContents f).tape = s.tape ∧
    (s.testContents f).table = s.table ∧ (s.testContents f).work = s.work ∧ (s.testContents f).trav = s.trav := by
  unfold State.testContents; (repeat' split) <;> simp

@[simp] theorem testFrame_frame (s : State) (own : Bool) (bytes : List Byte) :
    (s.testFrame own bytes).pending = s.pending ∧ (s.testFrame own bytes).now = s.now ∧
    (s.testFrame own bytes).hdr = s.hdr ∧ (s.testFrame own bytes).lines = s.lines ∧
    (s.testFrame own bytes).out = s.out ∧ (s.testFrame own bytes).reader = s.reader ∧
    (s.testFrame own bytes).verifier = s.verifier ∧ (s.testFrame own bytes).tape = s.tape ∧
    (s.testFrame own bytes).table = s.table ∧ (s.testFrame own bytes).work = s.work ∧
    (s.testFrame own bytes).trav = s.trav := by
  unfold State.testFrame; (repeat' split) <;> simp

@[simp] theorem takeByte_frame (s : State) (b : Byte) :
    (s.takeByte b).pending = s.pending ∧ (s.takeByte b).now = s.now ∧ (s.takeByte b).hdr = s.hdr ∧
    (s.takeByte b).lines = s.lines ∧ (s.takeByte b).out = s.out ∧ (s.takeByte b).reader = s.reader ∧
    (s.takeByte b).verifier = s.verifier ∧ (s.takeByte b).tape = s.tape ∧ (s.takeByte b).table = s.table ∧
    (s.takeByte b).work = s.work ∧ (s.takeByte b).trav = s.trav := by
  unfold State.takeByte; (repeat' split) <;> simp

@[simp] theorem takeBroken_frame (s : State) :
    (s.takeBroken).pending = s.pending ∧ (s.takeBroken).now = s.now ∧ (s.takeBroken).hdr = s.hdr ∧
    (s.takeBroken).lines = s.lines ∧ (s.takeBroken).out = s.out ∧ (s.takeBroken).reader = s.reader ∧
    (s.takeBroken).verifier = s.verifier ∧ (s.takeBroken).tape = s.tape ∧ (s.takeBroken).table = s.table ∧
    (s.takeBroken).head = s.head ∧ (s.takeBroken).work = s.work ∧ (s.takeBroken).trav = s.trav ∧
    (s.takeBroken).alarm = s.alarm := by
  unfold State.takeBroken; split <;> simp

@[simp] theorem characterEnds_frame (s : State) (ch : Character) :
    (s.characterEnds ch).pending = s.pending ∧ (s.characterEnds ch).now = s.now ∧ (s.characterEnds ch).hdr = s.hdr ∧
    (s.characterEnds ch).out = s.out ∧ (s.characterEnds ch).reader = s.reader ∧
    (s.characterEnds ch).verifier = s.verifier ∧ (s.characterEnds ch).tape = s.tape ∧
    (s.characterEnds ch).table = s.table ∧ (s.characterEnds ch).work = s.work ∧ (s.characterEnds ch).trav = s.trav := by
  unfold State.characterEnds; split <;> simp

@[simp] theorem clearAlarms_frame (s : State) :
    (s.clearAlarms).pending = s.pending ∧ (s.clearAlarms).now = s.now ∧ (s.clearAlarms).hdr = s.hdr ∧
    (s.clearAlarms).lines = s.lines ∧ (s.clearAlarms).out = s.out ∧ (s.clearAlarms).reader = s.reader ∧
    (s.clearAlarms).verifier = s.verifier ∧ (s.clearAlarms).tape = s.tape ∧ (s.clearAlarms).table = s.table ∧
    (s.clearAlarms).work = s.work ∧ (s.clearAlarms).trav = s.trav ∧ (s.clearAlarms).link.butSlot = s.link.butSlot := by
  unfold State.clearAlarms; dsimp only; split <;> simp

@[simp] theorem pressClear_frame (s : State) :
    (s.pressClear).pending = s.pending ∧ (s.pressClear).now = s.now ∧ (s.pressClear).hdr = s.hdr ∧
    (s.pressClear).lines = s.lines ∧ (s.pressClear).out = s.out ∧ (s.pressClear).table = s.table ∧
    (s.pressClear).work = s.work ∧ (s.pressClear).link.butSlot = s.link.butSlot := by
  unfold State.pressClear; simp

@[simp] theorem report_frame (s : State) (payload : List Byte) :
    (s.report payload).pending = s.pending ∧ (s.report payload).now = s.now ∧ (s.report payload).hdr = s.hdr ∧
    (s.report payload).lines = s.lines ∧ (s.report payload).out = s.out ∧ (s.report payload).reader = s.reader ∧
    (s.report payload).verifier = s.verifier ∧ (s.report payload).tape = s.tape ∧
    (s.report payload).table = s.table ∧ (s.report payload).head = s.head ∧ (s.report payload).work = s.work ∧
    (s.report payload).trav = s.trav ∧ (s.report payload).alarm = s.alarm := by
  unfold State.report; split <;> simp

@[simp] theorem answer_frame (s : State) (item part : Byte) (run : List Byte) :
    (s.answer item part run).pending = s.pending ∧ (s.answer item part run).now = s.now ∧
    (s.answer item part run).hdr = s.hdr ∧ (s.answer item part run).lines = s.lines ∧
    (s.answer item part run).out = s.out ∧ (s.answer item part run).reader = s.reader ∧
    (s.answer item part run).verifier = s.verifier ∧ (s.answer item part run).tape = s.tape ∧
    (s.answer item part run).table = s.table ∧ (s.answer item part run).head = s.head ∧
    (s.answer item part run).work = s.work ∧ (s.answer item part run).trav = s.trav ∧
    (s.answer item part run).alarm = s.alarm := by
  unfold State.answer; simp


end Sys2Proof.Machine.State
end

