-- ==== Sys2Proof/WellFormed.lean ====
section
/-! DEFINITION. Well-formed commands: what a command's operands must be for the event of its row to be one the part
can meet. `exec` is total and does not read this. -/

namespace Sys2Proof

/-- The operands keep to what the row's rule says of them. -/
def Instr.wf : Instr → Bool
  | .pmemReadCompletion words =>                                    -- R1: a read names at least one word
      decide (1 ≤ words.length) && decide (words.length ≤ Config.headerWords)
  | .travellerExpiry serial => serial != 0xFFFF                     -- R126
  | .frameBroken ch =>                                              -- R167: an error, or a length above 200
      Machine.characterEnd ch != .good || decide (Config.maxPayload < ch.data.toNat)
  | .frameReceived ch => Machine.characterEnd ch == .good           -- R167
  | .goodCharacter ch => Machine.characterEnd ch == .good           -- R165
  | .peerStale addr => decide (1 ≤ addr.toNat) && decide (addr.toNat ≤ 30)   -- R176
  | .frameSendStart idle => decide (Config.idleToSend ≤ idle)       -- R170
  | _ => true

end Sys2Proof
end

