-- ==== Sys2Proof/Tests/Slice0.lean ====
section
/-! SUPPORT. Tests: the smoke tests of WellFormed, the worked examples of the manual, one step of every command on a
small state, and for every statement with hypotheses a witness that meets them. Expected values come from the manual's
examples and rules, named at each test. -/

namespace Sys2Proof.Tests

open Sys2Proof Sys2Proof.Machine

/-! ## The panel and the states that the tests use -/

/-- The header of the worked sequences: D = 4, the first worked plan's table, TQ = 60, FS = 2, settle 8. -/
def hdr : Header :=
  { divisor := 1, depth := 4, xmax := 10000, ymax := 8000, spanMin := 60, spanMax := 200, fs := 2, tq := 60, settle := 8,
    times := [40, 58, 71, 82, 92, 101, 109, 117, 124] ++ List.replicate 22 124 ++ [900], vEnd := 20,
    feedTimeout := 100, homeTimeout := 10, downTimeout := 110, clinchTimeout := 120, upTimeout := 130,
    arriveTimeout := 1000, clampTimeout := 500, outTimeout := 2000, travWait := 500, travExpiry := 30,
    handoffTimeout := 5, monitors := List.replicate 6 ⟨0, 0, 1, false, false, false⟩,
    options := ⟨false, false, false, false, false, false, false, false, false, false⟩, rejectMisses := 2,
    diodeLo := 1200, diodeHi := 2200, jumperMax := 40, statusPeriod := 100, panelAddr := 100 }

/-- The two rows of the worked walk (chapter 1). -/
def rows : List Row :=
  [⟨⟨200, 2, 2000, 1000, 4000, 0, .imageMajor, false, false, 0, 0⟩, 3, 0, 0⟩,
   ⟨⟨300, 3, 2000, 6000, 3000, 0, .stepMajor, false, true, 10, 20⟩, 2, 2, 6⟩]

/-- A record of ordinal `k` of lap `lap`, its cursor's place in the worked walk, at (1000, 2000). -/
def rc (lap : Lap) (k : Nat) (kind : CheckKind := .none) : Record :=
  { lap := lap, ordinal := k, row := (cursorAt rows lap k).row, image := k % 5, step := (cursorAt rows lap k).step,
    x := 1000, y := 2000, span := 100, turret := 1, kind := kind, m := 47, e := 3, tol := 3, rowFirst := k == 0 || k == 6 }

/-- A tape-queue entry of a record. -/
def en (lap : Lap) (k : Nat) (v : Verdict) (d : Option Decision := none) (attempted : Bool := false) : Entry :=
  ⟨rc lap k, v, [], d, attempted⟩

/-- A board of a serial, on a lap or none. -/
def bd (serial : Serial) (lap : Option Lap) : Board := { newBoard serial 0 none [] 0 with lap := lap }

/-- A middle station 7 past a valid start-up, homed, the head at TOP, the line idle. -/
def st (run : RunState) : State :=
  { State.reset with
    now := 5000, hdr := some hdr
    reader := { Reader.atReset with phase := .walking, straps := some ⟨7, .middle, false⟩, rows := rows, cursor := ⟨2, 9, 1, 0, 1⟩ }
    table := { Table.atReset with homed := true, commanded := ⟨1000, 2000, 0, 100⟩ }
    head := { Head.atReset with phase := .top }
    alarm := { Alarm.atReset with run := run, windowTimer := some 1000 }
    link := { Link.atReset with assembly := .between } }

/-- The station with another tape queue. -/
def withQueue (s : State) (q : List Entry) : State := { s with tape := { s.tape with queue := q } }

/-- The station with a board in a work-position state. -/
def withBoard (s : State) (w : WorkState) (b : Board) : State := { s with work := { s.work with state := w, board := some b } }

/-- The station with another strapped role. -/
def withRole (s : State) (r : Role) : State :=
  { s with reader := { s.reader with straps := some ⟨7, r, false⟩ } }

/-- The station with the LOCAL strap set. -/
def withLocal (s : State) : State :=
  { s with reader := { s.reader with straps := some ⟨7, .middle, true⟩ } }

/-- The station with other header values. -/
def withHdr (s : State) (f : Header → Header) : State := { s with hdr := s.hdr.map f }

/-- The station with other levels of its lines. -/
def withLines (s : State) (f : Lines → Lines) : State := { s with lines := f s.lines }

/-- A frame of the receive queue being handed on. -/
def handing (s : State) (fs : List Frame) : State := { s with link := { s.link with rx := fs, handing := true } }

/-- What the station comes to; the station itself where it does not answer a next state. -/
def after (c : Instr) (s : State) : State :=
  match exec c s with
  | .next t => t
  | _ => s

/-- The command leaves the station as it was. -/
def idles (c : Instr) (s : State) : Bool :=
  match exec c s with
  | .next t => decide (t = s)
  | _ => false

/-! ## WellFormed: an ill-formed term for each check, which the check refuses -/

theorem test_wf_read_of_no_words : (Instr.pmemReadCompletion []).wf = false := by decide
theorem test_wf_read_of_too_many_words : (Instr.pmemReadCompletion (List.replicate 80 0)).wf = false := by decide
theorem test_wf_read_of_a_word : (Instr.pmemReadCompletion [0]).wf = true := by decide
theorem test_wf_no_serial : (Instr.travellerExpiry 0xFFFF).wf = false := by decide
theorem test_wf_broken_by_nothing : (Instr.frameBroken ⟨3, false, true⟩).wf = false := by decide
theorem test_wf_broken_by_length : (Instr.frameBroken (goodCharacterOf 201)).wf = true := by decide
theorem test_wf_received_with_bad_parity : (Instr.frameReceived ⟨3, true, true⟩).wf = false := by decide
theorem test_wf_good_with_bad_stop : (Instr.goodCharacter ⟨3, false, false⟩).wf = false := by decide
theorem test_wf_peer_zero : (Instr.peerStale 0).wf = false := by decide
theorem test_wf_peer_thirty_one : (Instr.peerStale 31).wf = false := by decide
theorem test_wf_send_too_early : (Instr.frameSendStart 11).wf = false := by decide

/-- The table gives its rows no bits, so no word spells a command. -/
theorem test_no_word_spells_a_command : decodeTableWord 16 0x1234 = none ∧ decodeTableWord 0 0 = none := by decide

/-! ## The worked examples of the manual -/

/-- Chapter 2, "Worked windows": 4.7 kΩ at 5 %, 10 Ω at 20 %, 4.7 kΩ at 0 %; the 6.0 kΩ window is one code wide. -/
theorem test_worked_windows :
    (codeLo 47 5, codeHi 47 5) = (2449, 2547) ∧ (codeLo 10 20, codeHi 10 20) = (862, 1170) ∧
    (codeLo 47 0, codeHi 47 0) = (2499, 2500) ∧ codeLo 60 0 = codeHi 60 0 := by decide

/-- R29, the example codes with DIODE_LO = 1200 and DIODE_HI = 2200. -/
theorem test_worked_diodes :
    [(1650, 4095), (4095, 1650), (4095, 4095), (3, 4095), (1650, 2), (900, 4095), (2600, 4095), (1650, 3000),
      (4095, 3000), (4095, 900)].map (fun p => classifyDiode 1200 2200 p.1 p.2) =
    [.pass, .reversed, .openCircuit, .short, .short, .failLow, .failHigh, .failLow, .failHigh, .failHigh] := by decide

/-- Chapter 4, "Worked plans": an ordinary insertion, a corrected diode, a long traverse. -/
theorem test_worked_plans :
    planOf hdr (driveTimes hdr ⟨1000, 2000, 0, 100⟩ ⟨5300, 2400, 1, 150⟩) = 128 ∧
    planOf hdr (driveTimes hdr ⟨2900, 6400, 1, 100⟩ ⟨5900, 6400, 3, 100⟩) = 128 ∧
    planOf hdr (driveTimes hdr ⟨500, 0, 0, 100⟩ ⟨20500, 0, 0, 100⟩) = 1089 := by decide

/-- R3: a table that dips is used as its running maximum. -/
theorem test_worked_clamp : runningMax 0 [40, 58, 55, 82, 80, 101] = [40, 58, 58, 82, 82, 101] := by decide

/-- Chapter 1, "Worked walk": row, image within the row and step of the twelve ordinals. -/
theorem test_worked_walk :
    (List.range 12).map (fun k => ((cursorAt rows 0 k).row, (cursorAt rows 0 k).image, (cursorAt rows 0 k).step)) =
    [(0, 0, 0), (0, 0, 1), (0, 0, 2), (0, 1, 0), (0, 1, 1), (0, 1, 2), (1, 0, 0), (1, 1, 0), (1, 2, 0), (1, 0, 1),
      (1, 1, 1), (1, 2, 1)] := by decide

/-- Chapter 1, "Worked walk": the target of ordinal 10, and the lap that follows ordinal 11. -/
theorem test_worked_targets :
    ((resolve rows (cursorAt rows 0 10) [900, 400, 0, 0]).x, (resolve rows (cursorAt rows 0 10) [900, 400, 0, 0]).y,
      (resolve rows (cursorAt rows 0 10) [900, 400, 0, 0]).image) = (5900, 6400, 3) ∧
    (cursorAt rows 255 11).next rows = cursorAt rows 0 0 := by decide

/-- Chapter 10, the example row words: 0x0503, 0x0C03 and 0x2900. -/
theorem test_worked_row_words :
    ((rowEntryOf 0x0503 [200, 0, 0, 0, 0, 0, 0]).map fun e => (e.images, e.order, e.rowHold, e.markCheck)) =
      some (3, .imageMajor, true, false) ∧
    rowEntryOf 0x0C03 [200, 0, 0, 0, 0, 0, 0] = none ∧ rowImages 0x2900 = 0 := by decide

/-- R166: bytes that sum to 727 take the check byte 41. -/
theorem test_worked_check_byte :
    (Frame.bytes ⟨200, 200, 200, List.replicate 1 126⟩).getLast? = some 41 := by decide

/-- R111: after 0 comes serial 1, and 65535 is passed over. -/
theorem test_worked_serials : nextSerial 0 = 1 ∧ nextSerial 65534 = 0 := by decide

/-- R127: station 7 adds its stage to those of stations 1 to 6. -/
theorem test_worked_stages :
    ((addStage ([1, 2, 3, 4, 5, 6].map fun a => ⟨a, 0, 0, []⟩) 0 ⟨7, 0, 0, []⟩).1.map Stage.addr,
      (addStage ([1, 2, 3, 4, 5, 6].map fun a => ⟨a, 0, 0, []⟩) 0 ⟨7, 0, 0, []⟩).2) = ([2, 3, 4, 5, 6, 7], 1) := by decide

/-- R183: two stages of missed-list lengths 0 and 3 take 30 bytes; a byte more, or fewer missed than entries, is
malformed. -/
theorem test_worked_traveller :
    (travellerBytes ⟨0x310, none, 2, [⟨6, 12, 0, []⟩, ⟨7, 9, 3, [(5, .absent), (6, .short), (7, .unchecked)]⟩], 0⟩).length = 30 ∧
    travellerOfBytes (travellerBytes ⟨0x310, none, 2, [⟨6, 12, 0, []⟩], 0⟩ ++ [0]) = none ∧
    travellerOfBytes (travellerBytes ⟨0x310, none, 2, [⟨7, 9, 2, [(5, .absent), (6, .short), (7, .unchecked)]⟩], 0⟩) = none := by
  decide

/-- R157: with A = 4 and P = 3 the values 5, 6, 2, 4, 4, 4 give the counts 1, 2, 0, 1, 2, 3 and ALARM at the sixth. -/
theorem test_worked_persistence :
    ([5, 6, 2, 4, 4, 4].foldl (fun (p : Monitor × List (Nat × Bool)) v =>
        let m := p.1.after ⟨0, 4, 3, false, false, false⟩ v
        (m, p.2 ++ [(m.count, m.alarm)])) (Monitor.atReset, [])).2 =
      [(1, false), (2, false), (0, false), (1, false), (2, false), (3, true)] := by decide

/-- R150, the example of a full list: 43 leaves, 41 joins with its stop bit, MORE is set. -/
theorem test_worked_full_list :
    let codes : List AlarmCode :=
      [.tapeLow, .arrivalFull, .leadMiss, .arriveTimeout, .addressClash, .handoffTimeout, .boardLost, .boardMisses]
    let s := { st .running with alarm := { (st .running).alarm with list := codes.map fun c => ⟨c, 1, none, none, false, false⟩ } }
    let t := s.raise ⟨.tapeJam, none, none, false⟩
    t.alarm.list.map AlarmEntry.code = codes.tail ++ [.tapeJam] ∧ t.alarm.more = true ∧ t.alarm.run = .alarm := by decide

/-! ## The station, reset and the program reader -/

/-- Every list of fixed room full, an entry attempted and decided, a board with eight misses, every timer running. -/
def full : State :=
  let s := st .alarm
  { s with
    pending := [.stop]
    reader := { s.reader with buffer := [rc 2 5, rc 2 6, rc 2 7, rc 2 8] }
    tape := { s.tape with
      queue := [en 2 1 .pass (some .insert) true, en 2 2 .pass, en 2 3 .pass, en 2 4 .pending], feeding := false }
    work := { s.work with
      state := .releasing, op := some (.conveyorOut, .driving), opTimer := some 5
      board := some { bd 0x51 (some 2) with missed := 9, missList := List.replicate 8 (1, .absent), overflow := 1 } }
    trav := { s.trav with
      phase := .timing, timer := some 7, arrivals := List.replicate 3 ⟨⟨4, none, 0, [], 0⟩, 100⟩ }
    alarm := { s.alarm with
      list := [⟨.tapeJam, 1, none, none, true, false⟩] ++ List.replicate 7 ⟨.tapeLow, 2, none, none, false, true⟩ }
    link := { s.link with tx := List.replicate 4 ⟨7, 3, 0, [1, 0]⟩, rx := List.replicate 4 ⟨3, 3, 0, [1, 0]⟩ } }

theorem witness_StepTakesTheFrontCommand : full.pending = .stop :: [] := rfl

theorem witness_EmptyQueueRunsTheDueRowOrTime :
    (State.reset.pending = [] ∧ State.reset.reader.straps = none) ∧
    ((st .running).pending = [] ∧ (st .running).reader.straps = some ⟨7, .middle, false⟩ ∧
      (st .running).dueCommand = none) ∧
    ((withQueue (st .running) [en 2 1 .pass (some .insert)]).dueCommand = some .insertMoveStart) ∧
    ((st .running).link.inCharacter = false ∧ (st .running).link.sending = none ∧ (st .running).lines.link = true ∧
      (st .running).link.peer 30 = some Peer.atReset) := by decide

/-- Log entry 3: one ms on, every running timer has one ms less. -/
theorem test_time_passes : (match step (st .stopped) with
    | .next t => (t.now, t.alarm.windowTimer)
    | _ => (0, none)) = (5001, some 999) := by decide

theorem witness_OutputsFollowTheRules : State.reset.OutputsRight ∧ step State.reset = .next State.reset := by
  have h : ∀ a t, ¬State.reset.Driven a t := by
    rintro a t (⟨h, -⟩ | ⟨h, -⟩) <;> cases h
  have hx : ∀ a t, (false = true ↔ State.reset.Driven a t) := fun a t => ⟨nofun, fun k => absurd k (h a t)⟩
  exact ⟨⟨rfl, hx _ _, hx _ _, hx _ _, hx _ _, by decide, by decide, by decide, rfl, rfl, rfl, fun _ => rfl,
    fun k => absurd rfl k⟩, rfl⟩

theorem witness_RoomIsKept :
    full.WithinRoom ∧ full.QueueWithinDepth ∧ full.BufferWithinRoom ∧ (∃ t, step full = .next t) := by
  refine ⟨by unfold State.WithinRoom; decide, ?_, ⟨by decide, ?_⟩, ⟨_, rfl⟩⟩
  · unfold State.QueueWithinDepth State.StartUpQuiet; decide
  · intro d hd; cases hd

/-- R105 of a state from the kind of its operation. -/
theorem workFits_of (s : State) (k : Option OpKind) (hk : s.work.op.map Prod.fst = k)
    (hb : s.work.board.isSome = true ↔ s.work.state ∈ [WorkState.clamping, .scanning, .ready, .working, .done, .releasing])
    (h1 : s.work.state = .entering ↔ k = some .conveyorIn) (h2 : s.work.state = .clamping ↔ k = some .clamp)
    (h3 : s.work.state = .releasing ↔ k = some .unclamp ∨ k = some .conveyorOut) : s.WorkFits := by
  subst hk
  refine ⟨hb, h1.trans ?_, h2.trans ?_, h3.trans ?_⟩ <;> rcases s.work.op with _ | ⟨_ | _ | _ | _, c⟩ <;> simp

theorem witness_RecordsStayConsistent :
    full.OnlyOldestDecided ∧ full.MissesCounted ∧ full.TimersFit ∧ full.WorkFits ∧ full.PeersFit ∧
    (∃ t, step full = .next t) := by
  refine ⟨by unfold State.OnlyOldestDecided; decide, ?_, by unfold State.TimersFit; decide, workFits_of _ _ rfl (by decide) (by decide) (by decide) (by decide),
    by unfold State.PeersFit; decide, ⟨_, rfl⟩⟩
  intro b hb; cases hb; decide

theorem witness_AlarmExactlyWithAStopEntry : full.AlarmFitsList ∧ (∃ t, step full = .next t) := by
  refine ⟨⟨by decide, by decide, by decide, by decide, ?_, by decide⟩, ⟨_, rfl⟩⟩
  intro r hr; cases hr

theorem witness_ProgramDataHeldUntilReset :
    Instr.clear ≠ .reset ∧ (st .alarm).reader.phase = .walking ∧ (st .alarm).reader.scan = .idle ∧
    (st .alarm).reader.straps.isSome = true ∧ (∃ t, exec .clear (st .alarm) = .next t) :=
  ⟨by decide, rfl, rfl, rfl, ⟨_, rfl⟩⟩

/-- R21: RESET empties the buffer and forgets the header; the pins stay. -/
theorem test_reset :
    ((after .reset (withLines full fun l => { l with bwk := true })).reader.buffer,
      (after .reset full).hdr, (after .reset full).alarm.run,
      (after .reset (withLines full fun l => { l with bwk := true })).lines.bwk) = ([], none, .configFault, true) := by
  decide

theorem witness_ReleaseSamplesTheStrapsAndBegins :
    State.reset.reader.straps = none ∧ ((1 : BitVec 5) ≠ 0 ∧ (1 : BitVec 5) ≠ 31) ∧ ((30 : BitVec 5) ≠ 0 ∧ (30 : BitVec 5) ≠ 31) ∧
    ((0 : BitVec 5) = 0 ∨ (0 : BitVec 5) = 31) ∧ ((31 : BitVec 5) = 0 ∨ (31 : BitVec 5) = 31) ∧
    (st .stopped).reader.straps ≠ none := by decide

/-- R7 and R9: the header is read first; a strapped address 31 is C07 before any word is read. -/
theorem test_resetRelease :
    (after (.resetRelease 5 .middle false) .reset).reader.read = some ⟨0, 79, none, false⟩ ∧
    (after (.resetRelease 31 .middle false) .reset).reader.reason = .c07 ∧
    (after (.resetRelease 31 .middle false) .reset).reader.read = none := by decide

/-- The worked rewind sequence of chapter 1, with a read in flight for the cursor of (0, 3). -/
def walking (discarded : Bool) (n : Nat) : State :=
  let s := st .stopped
  { s with reader := { s.reader with
    buffer := (List.range n).map fun k => rc 0 k, read := some ⟨200, 4, some (cursorAt rows 0 n), discarded⟩,
    cursor := cursorAt rows 0 (n + 1) } }

theorem witness_WalkingReadsFillTheBuffer :
    ((walking false 3).reader.read = some ⟨200, 4, some (cursorAt rows 0 3), false⟩ ∧
      (some (cursorAt rows 0 3) : Option Cursor) = some (cursorAt rows 0 3)) ∧
    [1, 2, 3].length ≠ 4 ∧ [100, 200, 0, 0].length = 4 ∧ rows[0]? = rows.head? ∧
    (0x0C00 / 1024 % 8 ≤ 3 ∧ ¬(0x1000 / 1024 % 8 ≤ 3)) ∧ (∀ r ∈ rows, 0 < r.entry.images ∧ 0 < r.steps) := by decide

/-- Chapter 1, "buffer, reads and a rewind": (0, 3) joins the full buffer and no read follows; a discarded read is
dropped and the read of the rewind point follows. -/
theorem test_pmemReadCompletion_walking :
    ((after (.pmemReadCompletion [100, 200, 0, 0]) (walking false 3)).reader.buffer.map fun r => (r.lap, r.ordinal)) =
      [(0, 0), (0, 1), (0, 2), (0, 3)] ∧
    (after (.pmemReadCompletion [100, 200, 0, 0]) (walking false 3)).reader.read = none ∧
    (after (.pmemReadCompletion [100, 200, 0, 0]) (walking true 0)).reader.buffer = [] ∧
    (after (.pmemReadCompletion [100, 200, 0, 0]) (walking true 0)).reader.read =
      some ⟨stepAddr rows (cursorAt rows 0 1), 4, some (cursorAt rows 0 1), false⟩ := by decide

/-- R18, the fault of log entry 18. -/
theorem test_pmemReadCompletion_words_not_as_named :
    (match exec (.pmemReadCompletion [1, 2, 3]) (walking false 3) with
      | .fault .wordsNotAsNamed => true
      | _ => false) = true := by decide

theorem rows_sound : RowsSound rows := by
  intro i r h
  match i with
  | 0 => cases h; decide
  | 1 => cases h; decide
  | _ + 2 => cases h

theorem witness_RowTableStaysSound : (st .stopped).RowTableFits ∧ (∃ t, step (st .stopped) = .next t) := by
  refine ⟨⟨rows_sound, ?_, ?_⟩, ⟨_, rfl⟩⟩
  · intro a w h; cases h
  · intro e ra a seen h; cases h

theorem witness_RewindPointsFollowTheWalk : RowsSound rows ∧ 0 < panelSteps rows ∧ 11 < panelSteps rows ∧ 11 + 1 = panelSteps rows :=
  ⟨rows_sound, by decide, by decide, by decide⟩

/-- Start-up reading at a place, with the worked rows so far. -/
def starting (scan : Scan) (count : Nat) (rs : List Row) : State :=
  { State.reset with reader := { Reader.atReset with
    straps := some ⟨7, .middle, false⟩, scan := scan, rows := rs, draft := some hdr, read := some ⟨0, count, none, false⟩ } }

/-- A header whose words pass every check. -/
def goodHeader : List Word :=
  [0xC3A5, 1, 4, 10000, 8000, 60, 200, 2, 60, 8] ++ (List.range 32).map (fun b => BitVec.ofNat 16 (40 + 10 * b)) ++
  [20, 100, 10, 110, 120, 130, 1000, 500, 2000, 500, 30, 5] ++
  (List.replicate 6 [(0 : Word), 0, 1]).flatten ++ [0, 2, 1200, 2200, 0xFFFF, 0xFFFF, 100]

/-- A row entry: two images, one step list at word 200. -/
def anEntry : RowEntry := ⟨200, 2, 2000, 1000, 4000, 0, .imageMajor, false, false, 0, 0⟩

theorem witness_StartUpChecksInOrder :
    ((starting .header 79 []).reader.read = some ⟨0, 79, none, false⟩ ∧ goodHeader.length = 79 ∧
      goodHeader.getD 0 0 = 0xC3A5 ∧ headerFault (wordAt goodHeader) = none) ∧
    (headerFault (wordAt (goodHeader.set 1 24)) = some 1 ∧ headerFault (wordAt (goodHeader.set 78 78)) = some 66) ∧
    ((0x0502 : Word).toNat % 32 ≠ 0 ∧ (0x2900 : Word).toNat % 32 = 0 ∧ rows.length < 8 ∧ 65535 < 65529 + 7 ∧
      65528 + 7 ≤ 65535 ∧ 8 ≤ (List.replicate 8 (rows.getD 0 default)).length) ∧
    (rowEntryOf 0x0502 [200, 0, 0, 0, 0, 0, 0] ≠ none ∧ rowEntryOf 0x0C03 [200, 0, 0, 0, 0, 0, 0] = none ∧
      (rowEntryOf 0x0502 [65533, 0, 0, 0, 0, 0, 0]).map RowEntry.listAddr = some 65533 ∧
      (rowEntryOf 0x0502 [65532, 0, 0, 0, 0, 0, 0]).map RowEntry.listAddr = some 65532) ∧
    (firstTargetOut 10000 8000 anEntry [⟨4001, 0, 100, 0, .none, 0, 0, 0⟩] = some 0 ∧
      firstTargetOut 10000 8000 anEntry [⟨4000, 0, 100, 0, .none, 0, 0, 0⟩] = none ∧
      markPointOut 10000 8000 { anEntry with markCheck := true, mx := 5000 } = true ∧
      markPointOut 10000 8000 anEntry = false) ∧
    (imageTotal [⟨{ anEntry with images := 31 }, 1, 0, 0⟩] + anEntry.images = 33 ∧
      imageTotal [⟨{ anEntry with images := 30 }, 1, 0, 0⟩] + anEntry.images = 32) ∧
    (checkedStep 60 200 [0, 0, 100, 0] ≠ none ∧ checkedStep 60 200 [0, 0, 59, 0] = none) := by decide

/-- R9: the ident word is C01, a header field C02 with its index, and a good header reads on at PANEL_ADDR. -/
theorem test_pmemReadCompletion_header :
    (after (.pmemReadCompletion (goodHeader.set 0 1)) (starting .header 79 [])).reader.reason = .c01 ∧
    ((after (.pmemReadCompletion (goodHeader.set 42 0)) (starting .header 79 [])).reader.reason,
      (after (.pmemReadCompletion (goodHeader.set 42 0)) (starting .header 79 [])).reader.detail) = (.c02, 42) ∧
    (after (.pmemReadCompletion goodHeader) (starting .header 79 [])).reader.read = some ⟨100, 1, none, false⟩ := by decide

/-- Chapter 1, "Worked validation": 8050 > 8000 at step 0 of image 2 is C05 with the step record's word address. -/
theorem test_pmemReadCompletion_worked_validation :
    let e : RowEntry := ⟨300, 3, 2000, 6000, 3000, 0, .stepMajor, false, false, 0, 0⟩
    firstTargetOut 8000 8000 e [⟨50, 50, 100, 0, .none, 0, 0, 0⟩, ⟨900, 400, 100, 0, .none, 0, 0, 0⟩] = some 0 ∧
    firstTargetOut 10000 8000 e [⟨50, 50, 100, 0, .none, 0, 0, 0⟩, ⟨900, 400, 100, 0, .none, 0, 0, 0⟩] = none := by decide

/-- The last word of a program read with every start-up line active. -/
def ending : State := withLines (starting (.rowHead 500) 1 rows) fun l => { l with tbrk := true, tend := true, top := true, bwk := true }

theorem witness_ValidStartUpEndsInStopped :
    ending.reader.read = some ⟨0, 1, none, false⟩ ∧ ending.reader.scan = .rowHead 500 ∧ (0x2900 : Word).toNat % 32 = 0 ∧
    ending.reader.rows ≠ [] ∧ ending.reader.draft = some hdr ∧ ending.reader.buffer = [] ∧
    ending.alarm.run = .configFault ∧ ending.alarm.list = [] ∧ ending.work.state = .empty := by decide

/-- R14: STOPPED with nothing active; 42 and 43 from TBRK and TEND, and a board on BWK is UNTRACKED. -/
theorem test_pmemReadCompletion_ends_start_up :
    (after (.pmemReadCompletion [0x2900]) (starting (.rowHead 500) 1 rows)).alarm.run = .stopped ∧
    ((after (.pmemReadCompletion [0x2900]) ending).alarm.list.map AlarmEntry.code) = [.tapeBreak, .tapeLow] ∧
    ((after (.pmemReadCompletion [0x2900]) ending).work.board.map fun b => (b.serial, b.reject)) =
      some (1, some .untracked) := by decide

/-! ## Component verification and the tape queue -/

/-- A measurement of a kind in flight on the newest entry, in conversion 1 or 2. -/
def measuring (kind : CheckKind) (phase : VerifierPhase) (abandoned : Bool) : State :=
  let s := withQueue (st .running) [en 2 0 .pass, ⟨rc 2 1 kind, .pending, [], none, false⟩]
  { s with verifier := { s.verifier with
    phase := phase, measured := some (2, 1), setup := some ⟨kind, 3, windowOf hdr (rc 2 1 kind)⟩, jawsClosed := true
    forward := if phase = .converting2 then some 4095 else none, conversion := some ⟨3, .ab, abandoned, 0⟩ } }

theorem witness_VerdictsFollowTheTests :
    (10 ≤ 10 ∧ 10 ≤ 99 ∧ 20 ∈ [0, 1, 2, 5, 10, 20] ∧ 10 ≤ 99 ∧ 99 ≤ 99 ∧ 0 ∈ [0, 1, 2, 5, 10, 20]) ∧
    ((rc 0 0 .res).kind = .res ∧ (rc 0 0 .jumper).kind = .jumper) ∧
    (((⟨.res, 2, some (862, 3270)⟩ : Setup).window = some (862, 3270)) ∧ (⟨.jumper, 0, some (0, 40)⟩ : Setup).kind = .jumper) ∧
    (5 < 862 ∧ 862 ≤ 3270 ∧ 3270 < 4090) ∧ 40 < 4090 ∧ (6 ≤ 6 ∧ 6 ≤ 4089 ∧ 4089 ≤ 4089) := by decide

theorem witness_ConversionsComplete :
    (st .running).verifier.conversion = none ∧
    ((measuring .res .converting1 true).verifier.conversion = some ⟨3, .ab, true, 0⟩) ∧
    ((measuring .diode .converting1 false).verifier.conversion = some ⟨3, .ab, false, 0⟩ ∧
      (measuring .diode .converting1 false).verifier.setup = some ⟨.diode, 3, none⟩ ∧
      (measuring .diode .converting1 false).verifier.measured = some (2, 1) ∧
      (measuring .diode .converting1 false).verifier.phase = .converting1) ∧
    ((measuring .res .converting1 false).verifier.phase = .converting1 ∧ CheckKind.res ≠ .diode) ∧
    ((measuring .diode .converting2 false).verifier.phase = .converting2 ∧
      (measuring .diode .converting2 false).verifier.forward = some 4095 ∧ (st .running).alarm.run ≠ .configFault) := by
  decide

/-- Chapter 2: a 4.7 kΩ part that reads 2510 is PASS, one that reads 2578 FAIL_HIGH; (4095, 1650) is REVERSED. -/
theorem test_conversionCompletion :
    ((after (.conversionCompletion 2510) (measuring .res .converting1 false)).tape.queue.map Entry.verdict,
      (after (.conversionCompletion 2510) (measuring .res .converting1 false)).verifier.phase) = ([.pass, .pass], .idle) ∧
    ((after (.conversionCompletion 2578) (measuring .res .converting1 false)).tape.queue.map Entry.verdict,
      (after (.conversionCompletion 2578) (measuring .res .converting1 false)).alarm.m1.value) = ([.pass, .failHigh], 1) ∧
    ((after (.conversionCompletion 1650) (measuring .diode .converting2 false)).tape.queue.map Entry.codes) =
      [[], [4095, 1650]] ∧
    ((after (.conversionCompletion 1650) (measuring .diode .converting2 false)).tape.queue.map Entry.verdict) =
      [.pass, .reversed] := by decide

/-- A running station with a record buffered and room in the queue. -/
def feedable : State :=
  let s := withQueue (st .running) [en 2 0 .pass, en 2 1 .pass]
  { s with reader := { s.reader with buffer := [rc 2 2 .res] } }

/-- A feed in flight since 40 ms. -/
def feeding : State := { feedable with tape := { feedable.tape with feeding := true, timer := some 60, startedAt := 4960 } }

theorem witness_FeedStartsWhenItMay : feedable.CanFeed ∧ ¬feeding.CanFeed := by
  constructor
  · refine ⟨Or.inl rfl, rfl, rfl, rfl, ?_, by decide, by decide⟩
    intro e he; cases he; decide
  · intro h; exact absurd h.2.2.1 (by decide)

theorem test_feedStart :
    ((after .feedStart feedable).tape.feeding, (after .feedStart feedable).tape.timer, (after .feedStart feedable).out.feed) =
      (true, some 100, true) ∧ idles .feedStart feeding = true := by decide

theorem witness_IndexEventEndsTheFeed :
    feedable.tape.feeding = false ∧ feeding.tape.feeding = true ∧ feeding.reader.buffer = rc 2 2 .res :: [] ∧
    (rc 2 2 .res).kind ≠ .none ∧ (rc 2 2 .none).kind = .none ∧ feeding.verifier.conversion = none ∧
    feeding.alarm.run ≠ .configFault ∧ { feeding with reader := { feeding.reader with buffer := [] } }.reader.buffer = [] := by
  decide

/-- R31 and R30: the PASS of a NONE record resets M1's count of failed verdicts; with none at its pocket M1 goes up. -/
theorem test_indexEvent_counts_in_m1 :
    let s := { feeding with
      reader := { feeding.reader with buffer := [rc 2 2 .none] }
      alarm := { feeding.alarm with m1 := { feeding.alarm.m1 with value := 2 } } }
    ((after (.indexEvent true) s).alarm.m1.value, (after (.indexEvent false) s).alarm.m1.value) = (0, 3) := by decide

/-- R43 and R24: the entry joins PENDING with the jaws closed, or ABSENT at once; M3 takes the feed time of 40 ms. -/
theorem test_indexEvent :
    ((after (.indexEvent true) feeding).tape.queue.map Entry.verdict, (after (.indexEvent true) feeding).verifier.jawsClosed,
      (after (.indexEvent true) feeding).alarm.m3.value) = ([.pass, .pass, .pending], true, 40) ∧
    ((after (.indexEvent false) feeding).tape.queue.map Entry.verdict,
      (after (.indexEvent false) feeding).alarm.m1.value) = ([.pass, .pass, .absent], 1) := by decide

/-- The oldest of four entries with a PASS decision, a board WORKING on lap 2. -/
def passing (d : Decision) : State :=
  withBoard (withQueue (st .running) [en 2 11 .pass (some d), en 3 0 .pass, en 3 1 .pass, en 3 2 .pass]) .working
    { bd 0x51 (some 2) with inserted := 10, passed := 1 }

theorem witness_PassesLeaveTheQueueAndAreCounted :
    (passing .passBad).CanPass (en 2 11 .pass (some .passBad)) ∧
    (passing (.passMiss .absent)).CanPass (en 2 11 .pass (some (.passMiss .absent))) ∧
    (passing .passFlush).CanPass (en 2 11 .pass (some .passFlush)) ∧ ¬(∃ e, (passing .insert).CanPass e) ∧
    ((passing (.passMiss .absent)).missesAfter 2 = some 1 ∧ (passing (.passMiss .absent)).missesAfter 3 = none) := by
  refine ⟨⟨rfl, ⟨_, rfl, Or.inl rfl⟩, rfl, rfl, rfl, Or.inl rfl⟩, ⟨rfl, ⟨_, rfl, Or.inr (Or.inl ⟨_, rfl⟩)⟩, rfl, rfl, rfl, Or.inl rfl⟩,
    ⟨rfl, ⟨_, rfl, Or.inr (Or.inr rfl)⟩, rfl, rfl, rfl, Or.inl rfl⟩, ?_, by decide⟩
  rintro ⟨e, he, ⟨d, hd, hp⟩, -⟩
  cases he; cases hd
  rcases hp with h | ⟨r, h⟩ | h <;> cases h

/-- Chapter 11, "A panel with a bad image": the pass of ordinal 11 leaves 10, 0, 2 and the board is DONE. -/
theorem test_passExecution :
    ((after .passExecution (passing .passBad)).work.state,
      (after .passExecution (passing .passBad)).work.board.map fun b => (b.inserted, b.missed, b.passed)) =
      (.done, some (10, 0, 2)) ∧
    ((after .passExecution (passing (.passMiss .absent))).work.board.map fun b => (b.missed, b.missList)) =
      some (1, [(11, .absent)]) := by decide

/-- Chapter 11, "A tape jam with STRICT set": before the expiry. -/
def strictJam : State :=
  let s := withHdr (withBoard (withQueue (st .running) [en 3 5 .pass (some .insert), en 3 6 .pass, en 3 7 .pass]) .working
    { bd 0x201 (some 3) with inserted := 5 }) fun h => { h with options := { h.options with strict := true } }
  { s with
    reader := { s.reader with buffer := [rc 3 8] }
    tape := { s.tape with feeding := true, timer := some 0, startedAt := 4900 } }

theorem witness_TapeJamResynchronisesTheQueue : feedable.tape.feeding = false ∧ strictJam.tape.feeding = true := by decide

theorem test_tapeJam :
    ((after .tapeJam strictJam).tape.queue.map fun e => (e.verdict, e.decision)) =
      [(.unchecked, some (.passMiss .unchecked)), (.unchecked, none), (.unchecked, none)] ∧
    (after .tapeJam strictJam).alarm.list = [⟨.tapeJam, 1, some 0x201, some 8, true, false⟩] ∧
    (after .tapeJam strictJam).alarm.run = .alarm := by decide

theorem witness_TapeSensorsRaiseAndReport :
    (starting .header 79 []).alarm.run = .configFault ∧ (st .running).alarm.run ≠ .configFault := by decide

/-- Chapter 11, "A tape break during a stroke": 42 with its stop bit and its condition active. -/
theorem test_tapeBreak :
    ((after .tapeBreak (withBoard (st .running) .working (bd 0x150 (some 2)))).alarm.list,
      (after .tapeBreak (st .running)).tape.fault) =
      ([⟨.tapeBreak, 1, some 0x150, none, true, true⟩], .broken) := by decide
theorem test_tbrkInactive :
    ((after .tbrkInactive (after .tapeBreak (st .running))).alarm.list.map AlarmEntry.persists,
      (after .tbrkInactive (after .tapeBreak (st .running))).tape.fault) = ([false], .broken) := by decide
theorem test_tapeLow :
    ((after .tapeLow (st .running)).alarm.list, (after .tapeLow (st .running)).alarm.run) =
      ([⟨.tapeLow, 1, none, none, false, true⟩], .running) := by decide
theorem test_tendInactive :
    ((after .tendInactive (after .tapeLow (st .running))).alarm.list.map AlarmEntry.persists) = [false] := by decide

/-- An oldest entry of lap 2 that a board WORKING on lap 2 lets decide. -/
def deciding (v : Verdict) : State := withBoard (withQueue (st .alarm) [en 2 1 v, en 2 2 .pass]) .working (bd 0x51 (some 2))

theorem witness_TheOldestEntryIsDecidedByTheTable :
    (deciding .reversed).tape.queue = en 2 1 .reversed :: [en 2 2 .pass] ∧
    (deciding .reversed).CanDecide (en 2 1 .reversed) ∧ (deciding .reversed).tape.flush ≠ some (en 2 1 .reversed).record.lap ∧
    (deciding .reversed).work.board = some (bd 0x51 (some 2)) ∧ (bd 0x51 (some 2)).mask.getLsbD 1 = false ∧
    (bd 0x51 none).mask.getLsbD 31 = false ∧ ¬(deciding .pending).CanDecide (en 2 1 .pending) := by
  refine ⟨rfl, ⟨rfl, by decide, rfl, Or.inr ⟨_, rfl, rfl, rfl, by decide⟩⟩, by decide, rfl, by decide, by decide, ?_⟩
  intro h; exact h.2.1 rfl

/-- A board CLAMPING, CLAMPED not yet active, an entry of lap 2 at its ordinal `k` the oldest of the queue. -/
def clamping (k : Nat) : State :=
  { withBoard (withQueue (st .running) [en 2 k .pending]) .clamping (bd 0x51 none) with
    pending := [.clampedActive]
    work := { (st .running).work with
      state := .clamping, op := some (.clamp, .driving), opTimer := some 77, board := some (bd 0x51 none) } }

/-- The row table with a row hold on each row. -/
def heldRows : List Row := rows.map fun r => { r with entry := { r.entry with rowHold := true } }

/-- A pass at the last ordinal of row 0, the first entry of a held row behind it, a board WORKING on lap 2. -/
def rowEnding : State :=
  let s := withBoard (withQueue (st .running) [en 2 5 .pass (some .passBad), en 2 6 .pass, en 2 7 .pass, en 2 8 .pass]) .working
    (bd 0x51 (some 2))
  { s with pending := [.passExecution], reader := { s.reader with rows := heldRows } }

/-- The station in a run state, a board READY to start on the lap of the oldest entry. -/
def readyIn (run : RunState) : State := withBoard (withQueue (st run) [en 2 0 .pass, en 2 1 .pass]) .ready (bd 0x51 none)

/-- The station in a run state, a board WORKING on lap 2, the first entry of a held row the oldest. -/
def heldIn (run : RunState) : State :=
  let s := withBoard (withQueue (st run) [en 2 6 .pass, en 2 7 .pass]) .working (bd 0x51 (some 2))
  { s with reader := { s.reader with rows := heldRows } }

/-- The station in a run state with TOP as given, the head HALTED over an oldest entry attempted or not. -/
def haltedIn (run : RunState) (top attempted : Bool) : State :=
  let s := withBoard (withQueue (st run) [en 4 7 .pass (some .insert) attempted, en 4 8 .pass]) .working (bd 0x202 (some 4))
  { s with lines := { s.lines with top := top }, head := { s.head with phase := .halted } }

/-- The station with homing for RUNNING in flight, the last drive not yet home, the stop line as given. -/
def homingFor (s : State) (stop : Bool) : State :=
  { s with
    lines := { s.lines with stopline := stop }
    table := { s.table with activity := .homing, homed := false, homingTimer := some 9000, seeking := [.x] }
    alarm := { s.alarm with run := .homing, homingTarget := some .running } }

/-- What the entry to RUNNING, STEPPING or HOLDING asks of the station besides its run state: no entry removed by a return;
a board that starts, a row hold that is due; a return that removes an entry. -/
theorem witness_entering (run : RunState) :
    ((readyIn run).NoneRemoved true [.halted, .returning] ∧ (∀ k, (readyIn run).work.op ≠ some (k, .stalled)) ∧
      (readyIn run).work.state = .ready ∧ (readyIn run).work.board.isSome = true ∧ (readyIn run).TapeLetsStart) ∧
    ((heldIn run).NoneRemoved true [.halted, .returning] ∧ (∀ k, (heldIn run).work.op ≠ some (k, .stalled)) ∧
      State.HoldDue { heldIn run with alarm := { (heldIn run).alarm with run := .running } } (en 2 6 .pass) (bd 0x51 (some 2))) ∧
    ((haltedIn run true false).NoneRemoved true [.halted, .returning] ∧
      (haltedIn run false true).NoneRemoved false [.halted, .returning] ∧
      (∀ k, (haltedIn run true false).work.op ≠ some (k, .stalled))) ∧
    ((haltedIn run true true).lines.top = true ∧ (haltedIn run true true).head.phase = .halted ∧
      (haltedIn run true true).tape.queue.head? = some (en 4 7 .pass (some .insert) true) ∧
      (∀ k, (haltedIn run true true).work.op ≠ some (k, .stalled))) :=
  ⟨⟨fun _ h => absurd h (show HeadPhase.top ∉ _ by decide), fun _ h => (by cases h), rfl, rfl, _, rfl, rfl, rfl⟩,
    ⟨fun _ h => absurd h (show HeadPhase.top ∉ _ by decide), fun _ h => (by cases h),
      rfl, rfl, rfl, rfl, rfl, rfl, rfl, by decide, rfl, rfl, fun h => (by cases h), Or.inl rfl⟩,
    ⟨fun _ _ e he => (by cases he; rfl), fun h => (by cases h), fun _ h => (by cases h)⟩,
    rfl, rfl, rfl, fun _ h => (by cases h)⟩

theorem witness_TheOldestEntryIsDecidedByTheTable_step :
    ((clamping 0).NothingLeft ∧ (clamping 0).WorkFits ∧ (clamping 0).work.state ≠ .working ∧
      (match step (clamping 0) with | .next t => t.work.state | _ => .empty) = .working) ∧
    (rowEnding.NothingLeft ∧ rowEnding.WorkFits ∧ rowEnding.trav.takeOpen = false ∧ rowEnding.reader.scan = .idle ∧
      rowEnding.work.board = some (bd 0x51 (some 2)) ∧ rowEnding.work.state = .working ∧
      (match step rowEnding with
        | .next t => (t.work.state, t.work.board.map Board.holds)
        | _ => (.empty, none)) = (.working, some 2)) := by
  refine ⟨⟨⟨⟨by decide, by decide⟩, ?_, fun h => absurd h.1 (by decide)⟩,
      workFits_of _ _ rfl (by decide) (by decide) (by decide) (by decide), by decide, by decide⟩,
    ⟨⟨by decide, by decide⟩, ?_, fun h => absurd h.1 (by decide)⟩,
      workFits_of _ _ rfl (by decide) (by decide) (by decide) (by decide), rfl, rfl, rfl, rfl, by decide⟩
  · intro e he; cases he
    exact ⟨fun h => h.2.1 rfl, Or.inl rfl, fun b h => absurd h.1 (by decide)⟩
  · intro e he; cases he
    exact ⟨fun h => absurd h.1 (by decide), Or.inl rfl, fun b h => absurd h.2.2.2.2.1 (by decide)⟩

/-- R117 and R118: the board takes the lap of an oldest entry of ordinal 0; at ordinal 6 the hold of row 1 is taken and the
station comes to rest with the hold reason ROW. -/
theorem test_board_start_and_row_hold :
    ((after .clampedActive (clamping 0)).work.board.map Board.lap, (after .clampedActive (clamping 1)).work.state) =
      (some (some 2), .ready) ∧
    ((after .passExecution rowEnding).alarm.run, (after .passExecution rowEnding).alarm.rowHold,
      (after .passExecution rowEnding).tape.queue.map Entry.decision) = (.stopped, true, [some .insert, none, none]) := by decide

/-- R47: the decision table on a PASS, an UNCHECKED, a REVERSED and an ABSENT entry, all options clear. -/
theorem test_decisions :
    [Verdict.pass, .unchecked, .reversed, .absent].map (fun v => ((deciding v).decideOldest.tape.queue.map Entry.decision).head?) =
      [some (some .insert), some (some .insert), some (some (.passMiss .reversed)), some (some (.passMiss .absent))] := by
  decide

/-! ## The table -/

theorem witness_PlansAreZeroOnlyAtTheTarget :
    headerFault (wordAt goodHeader) = none ∧ hdr.MovesFit ∧ (1 ≤ 32 ∧ 32 ≤ 32) ∧ (31 < 32 ∧ 511 < 512) ∧ 16383 ≤ 16384 ∧
    (⟨1, 0, 0, 100⟩ : Target) ≠ ⟨0, 0, 0, 100⟩ := by
  refine ⟨by decide, ⟨by decide, ?_, by decide, by decide, by decide, by decide⟩, by decide, by decide, by decide, by decide⟩
  have h : ∀ j < 32, ∀ i ≤ j, hdr.times.getD i 0 ≤ hdr.times.getD j 0 := by decide
  exact fun i j hij hj => h j hj i hij

/-- R69: with T[1] = 40, d = 511 and 512 both take 40; T[b] at 512·b, and V_END beyond 16384. -/
theorem test_axis_times :
    (axisTime hdr 0, axisTime hdr 1, axisTime hdr 511, axisTime hdr 512, axisTime hdr 16384, axisTime hdr 20000) =
      (0, 1, 40, 40, 900, 1081) := by decide

/-- A homing request that waits, unhomed. -/
def homeable : State :=
  let s := st .homing
  { s with
    table := { s.table with homed := false, homingTimer := some 9000 }
    alarm := { s.alarm with homingTarget := some .running } }

/-- Homing with some drives still running. -/
def seekingHome (left : List Axis) : State :=
  { homeable with table := { homeable.table with activity := .homing, seeking := left } }

theorem witness_HomingRunsEachDriveHome :
    homeable.CanHome ∧ ¬(st .running).CanHome ∧
    (withLines homeable fun l => { l with xlim := true }).CanHome ∧
    (withLines homeable fun l => { l with xlim := true }).lines.xlim = true ∧
    (homeable.lines.xlim = false ∧ homeable.lines.ylim = false) ∧
    (⟨true, true, false, true⟩ : HomeLevels) ≠ ⟨true, true, true, true⟩ ∧
    (homeable.alarm.run = .homing ∧ homeable.alarm.homingTarget = some .running ∧ homeable.work.state = .empty ∧
      homeable.work.op = none ∧ homeable.head.phase = .top ∧ homeable.lines.stopline = false) ∧
    (∃ a ∈ (seekingHome [.x, .y]).table.seeking, a ≠ Axis.x) ∧ (∀ a ∈ (seekingHome [.x]).table.seeking, a = Axis.x) ∧
    (seekingHome [.x]).table.activity = .homing ∧ homeable.table.activity ≠ .homing := by
  refine ⟨⟨by decide, rfl, rfl⟩, fun h => h.1 rfl, ⟨by decide, rfl, rfl⟩, ?_⟩
  decide

/-- A board in an operation that is STALLED, the run state HOMING. -/
def stalledHoming : State :=
  { homeable with work := { homeable.work with
    state := .clamping, op := some (.clamp, .stalled), board := some (bd 0x51 none) } }

theorem witness_HomingRunsEachDriveHome_stalled :
    stalledHoming.CanHome ∧ stalledHoming.alarm.run = .homing ∧ stalledHoming.alarm.homingTarget = some .running ∧
    stalledHoming.lines.stopline = false ∧ stalledHoming.NoneRemoved stalledHoming.lines.top [.halted] ∧
    stalledHoming.WorkFits ∧ stalledHoming.work.op = some (.clamp, .stalled) :=
  ⟨⟨by decide, rfl, rfl⟩, rfl, rfl, rfl, fun h => absurd h (by decide),
    workFits_of _ _ rfl (by decide) (by decide) (by decide) (by decide), rfl⟩

/-- Homing for RUNNING in flight with the boards and heads of `witness_entering`, under the stop line and without. -/
theorem witness_HomingRunsEachDriveHome_entered (run : RunState) (stop : Bool) :
    ∀ s ∈ [readyIn run, heldIn run, haltedIn run true false, haltedIn run false true, haltedIn run true true],
      (homingFor s stop).table.activity = .homing ∧ (∀ a ∈ (homingFor s stop).table.seeking, a = Axis.x) ∧
      (homingFor s stop).alarm.run = .homing ∧ (homingFor s stop).alarm.homingTarget = some .running ∧
      (homingFor s stop).lines.stopline = stop ∧ (homingFor s stop).work = s.work ∧ (homingFor s stop).head = s.head ∧
      (homingFor s stop).tape = s.tape ∧ (homingFor s stop).lines.top = s.lines.top := by
  intro s _
  exact ⟨rfl, fun a h => by simpa [homingFor] using h, rfl, rfl, rfl, rfl, rfl, rfl, rfl⟩

/-- R149 and R148: RUNNING, or HOLDING under the stop line, with a board at the work position; the READY board starts, the row
hold stops the station, a HALTED head starts its return or ends it. -/
theorem test_home_with_a_board :
    let t := fun s stop => after (.homeSensor .x false) (homingFor s stop)
    ((t (readyIn .homing) false).alarm.run, (t (readyIn .homing) false).work.state) = (.running, .working) ∧
    (t (readyIn .homing) true).alarm.run = .holding ∧
    ((t (heldIn .homing) false).alarm.run, (t (heldIn .homing) false).alarm.rowHold) = (.stopped, true) ∧
    ((t (haltedIn .homing false true) true).alarm.run, (t (haltedIn .homing false true) true).head.phase) =
      (.holding, .returning) ∧
    ((t (haltedIn .homing true true) false).alarm.run, (t (haltedIn .homing true true) false).tape.queue.length,
      (t (haltedIn .homing true true) false).work.board.map Board.missed) = (.running, 1, some 1) := by decide

/-- R66: three drives run, the one already home does not. -/
theorem test_homingBegin :
    (after (.homingBegin ⟨true, false, false, false⟩ false) homeable).table.seeking = [.y, .turret, .former] ∧
    ((after (.homingBegin ⟨true, true, true, true⟩ false) homeable).table.commanded,
      (after (.homingBegin ⟨true, true, true, true⟩ false) homeable).alarm.run) = (⟨0, 0, 0, 60⟩, .running) ∧
    (after (.homingBegin ⟨true, true, true, true⟩ false) stalledHoming).work.op = some (.clamp, .driving) := by decide

/-- Chapter 4, "a limit stop and rehoming": XHOME is the last; homed at (0, 0), turret 0, SPAN_MIN, RUNNING. -/
theorem test_homeSensor :
    (after (.homeSensor .y false) (seekingHome [.x, .y])).table.seeking = [.x] ∧
    ((after (.homeSensor .x false) (seekingHome [.x])).table.commanded, (after (.homeSensor .x false) (seekingHome [.x])).table.homed,
      (after (.homeSensor .x false) (seekingHome [.x])).alarm.run) = (⟨0, 0, 0, 60⟩, true, .running) := by decide

/-- The table moving for an entry, or for a mark point. -/
def moving (p : Purpose) : State :=
  let s := withQueue (st .running) [en 4 17 .pass (some .insert)]
  { s with table := { s.table with
    activity := .moving, slot := some ⟨p, ⟨9800, 3000, 0, 100⟩, ⟨1, 1, 0, 0⟩, false, 9, 4990⟩, commanded := ⟨9800, 3000, 0, 100⟩ } }

/-- A board being scanned, the request for image 3 out. -/
def scanning : State :=
  let s := withBoard (moving (.mark 3)) .scanning (bd 0x51 none)
  { s with work := { s.work with scan := some 3 } }

theorem witness_HomeFailAndLimitsEndMotion :
    (st .running).table.homingTimer = none ∧ homeable.table.homingTimer ≠ none ∧ homeable.table.activity ≠ .moving ∧
    (starting .header 79 []).alarm.run = .configFault ∧
    ((seekingHome [.x]).alarm.run ≠ .configFault ∧ (seekingHome [.x]).table.activity = .homing) ∧
    ((moving (.insert 4 17)).table.activity = .moving ∧
      (moving (.insert 4 17)).table.slot.map Move.purpose = some (.insert 4 17)) ∧
    (scanning.table.slot.map Move.purpose = some (.mark 3) ∧ scanning.work.state = .scanning ∧ scanning.work.scan ≠ none) ∧
    ((moving (.mark 3)).work.state ≠ .scanning) ∧ ((st .running).table.activity = .idle) := by decide

theorem test_homeFail :
    ((after .homeFail (seekingHome [.x])).table.activity, (after .homeFail (seekingHome [.x])).alarm.list.map AlarmEntry.code,
      (after .homeFail (seekingHome [.x])).alarm.homingTarget) = (.idle, [.homeFail], none) := by decide

/-- Chapter 4, "a limit stop and rehoming": 22 with its condition, the board's serial and ordinal 17. -/
theorem test_tableLimit :
    ((after (.tableLimit .x) (withBoard (moving (.insert 4 17)) .working (bd 0x210 (some 4)))).alarm.list,
      (after (.tableLimit .x) (moving (.insert 4 17))).table.homed,
      (after (.tableLimit .x) (moving (.insert 4 17))).table.commanded) =
      ([⟨.tableLimit, 1, some 0x210, some 17, true, true⟩], false, ⟨9800, 3000, 0, 100⟩) ∧
    (after (.tableLimit .y) scanning).table.markRequest = some 3 := by decide
theorem test_limitInactive :
    ((after .limitInactive (after (.tableLimit .x) (moving (.insert 4 17)))).alarm.list.map AlarmEntry.persists,
      (after .limitInactive (after (.tableLimit .x) (moving (.insert 4 17)))).lines.xlim) = ([false], false) := by decide

/-- The corrected diode of chapter 4: the table at turret 1, the entry REVERSED and decided INSERT_CORRECTED. -/
def movable (d : Decision) : State :=
  let s := withQueue (st .running) [{ en 6 10 .reversed (some d) with record := { rc 6 10 with x := 5900, y := 6400 } }]
  { s with table := { s.table with commanded := ⟨2900, 6400, 1, 100⟩ } }

theorem witness_InsertMovesStartFromTheCommandedValues :
    (∃ e, (movable .insertCorrected).CanMove e ⟨5900, 6400, 3, 100⟩) ∧ (∃ e, (movable .insert).CanMove e ⟨5900, 6400, 1, 100⟩) ∧
    ¬(∃ e goal, (movable .passBad).CanMove e goal) ∧
    ((movable .insert).lines.xlim = false ∧ (movable .insert).lines.ylim = false) ∧
    (∃ e, (withLines (movable .insert) fun l => { l with ylim := true }).CanMove e ⟨5900, 6400, 1, 100⟩) := by
  refine ⟨⟨_, Or.inl rfl, rfl, rfl, rfl, by decide, rfl, by decide, rfl⟩, ⟨_, Or.inl rfl, rfl, rfl, rfl, by decide, rfl, by decide, rfl⟩, ?_,
    by decide, ⟨_, Or.inl rfl, rfl, rfl, rfl, by decide, rfl, by decide, rfl⟩⟩
  rintro ⟨e, goal, -, -, -, he, ht, -⟩
  cases he; cases ht

/-- Chapter 4, "a corrected diode": plan 128 ms, turret 3. -/
theorem test_insertMoveStart :
    ((after .insertMoveStart (movable .insertCorrected)).table.slot.map fun m => (m.purpose, m.plan, m.turretUp),
      (after .insertMoveStart (movable .insertCorrected)).table.commanded) =
      (some (.insert 6 10, 128, true), ⟨5900, 6400, 3, 100⟩) := by decide

/-- A mark request for an image, the table somewhere. -/
def markable (g : Nat) (at_ : Target) : State :=
  let s := withBoard (st .running) .scanning (bd 0x51 none)
  { s with table := { s.table with markRequest := some g, commanded := at_ }, work := { s.work with scan := some g } }

/-- The mark point of image 3 of the worked walk: (2000 + 1·3000 + 10, 6000 + 20). -/
def markPoint3 : Target := ⟨5010, 6020, 0, 100⟩

theorem witness_MarkMovesVisitTheMarkPoint :
    (markable 3 markPoint3).CanMarkMove 3 ∧ (markable 3 ⟨0, 0, 0, 100⟩).CanMarkMove 3 ∧
    ¬(∃ g, (st .running).CanMarkMove g) ∧ rowOfImage rows 3 = rows[1]? ∧
    (markPoint3.x = 2000 + (3 - 2 : Nat) * 3000 + 10 ∧ markPoint3.y = 6000 + (3 - 2 : Nat) * 0 + 20) ∧
    markPoint3 = (markable 3 markPoint3).table.commanded ∧ markPoint3 ≠ (markable 3 ⟨0, 0, 0, 100⟩).table.commanded ∧
    (withLines (markable 3 ⟨0, 0, 0, 100⟩) fun l => { l with xlim := true }).CanMarkMove 3 := by
  refine ⟨⟨Or.inl rfl, rfl, rfl, rfl, rfl⟩, ⟨Or.inl rfl, rfl, rfl, rfl, rfl⟩, ?_, by decide, by decide, by decide, by decide,
    ⟨Or.inl rfl, rfl, rfl, rfl, rfl⟩⟩
  rintro ⟨g, -, -, -, -, h⟩
  cases h

/-- R77 and R78: the move to the mark point; at a plan of 0 the arrival at once, and the scan goes on to image 4. -/
theorem test_markMoveStart :
    ((after (.markMoveStart true) (markable 3 ⟨0, 0, 0, 100⟩)).table.slot.map Move.target,
      (after (.markMoveStart true) (markable 3 ⟨0, 0, 0, 100⟩)).table.markRequest) = (some markPoint3, none) ∧
    ((after (.markMoveStart true) (markable 3 markPoint3)).work.board.map Board.mask,
      (after (.markMoveStart true) (markable 3 markPoint3)).work.scan) = (some 8, some 4) := by decide

theorem witness_CompletedMovesFreeTheTable :
    (st .running).table.activity ≠ .moving ∧
    ((moving (.insert 4 17)).table.activity = .moving ∧
      (moving (.insert 4 17)).table.slot.map Move.purpose = some (.insert 4 17)) ∧
    (scanning.table.slot.map Move.purpose = some (.mark 3)) ∧
    (∃ e, (moving (.insert 4 17)).freeTable.CanMove e ⟨1000, 2000, 1, 100⟩) ∧
    ¬(∃ e goal, (withQueue (moving (.insert 4 17)) []).freeTable.CanMove e goal) := by
  refine ⟨by decide, by decide, by decide, ⟨_, Or.inl rfl, rfl, rfl, rfl, by decide, rfl, by decide, rfl⟩, ?_⟩
  rintro ⟨e, goal, -, -, -, he, -⟩
  cases he

/-- R76 and R116: the slot is emptied; MARK active at image 3 joins the mask. R82: the next move starts. -/
theorem test_moveComplete :
    ((after (.moveComplete true) scanning).work.board.map Board.mask, (after (.moveComplete true) scanning).work.scan) =
      (some 8, some 4) ∧
    ((after (.moveComplete false) (withQueue (moving (.insert 4 17)) [])).table.activity) = .idle ∧
    ((after (.moveComplete false) (moving (.insert 4 17))).table.slot.map Move.target) = some ⟨1000, 2000, 1, 100⟩ := by decide

/-! ## The head -/

/-- The cycle gate open: four entries, the table at the oldest's target, a clamped board WORKING on lap 2. -/
def gate : State :=
  let s := withBoard (withQueue (st .running) [en 2 5 .pass (some .insert), en 2 6 .pass, en 2 7 .pass, en 2 8 .pass]) .working
    (bd 0x150 (some 2))
  { s with
    table := { s.table with commanded := ⟨1000, 2000, 1, 100⟩ }
    work := { s.work with clamped := true }
    head := { s.head with lastCycle := some 4700 } }

theorem witness_StrokesStartAtTheOpenGate :
    (∃ e, gate.GateOpen e) ∧ ¬(∃ e, feedable.GateOpen e) ∧ gate.head.lastCycle = some 4700 ∧
    (∃ e, { gate with head := { gate.head with lastCycle := none } }.GateOpen e) := by
  have h : ∀ s : State, s.alarm.run = .running → s.head.phase = .top → s.tape = gate.tape → s.hdr = gate.hdr →
      s.table = gate.table → s.work = gate.work → ∃ e, s.GateOpen e := by
    intro s h1 h2 h3 h4 h5 h6
    refine ⟨en 2 5 .pass (some .insert), Or.inl h1, h2, by rw [h3]; rfl, rfl, ?_, by rw [h3]; rfl, by rw [h5]; rfl, by rw [h5]; rfl,
      by rw [h5]; rfl, bd 0x150 (some 2), by rw [h6]; rfl, by rw [h6]; rfl, by rw [h6]; rfl, rfl⟩
    unfold State.header; rw [h3, h4]; rfl
  refine ⟨h _ rfl rfl rfl rfl rfl rfl, ?_, rfl, h _ rfl rfl rfl rfl rfl rfl⟩
  rintro ⟨e, -, -, -, -, h, -⟩
  exact absurd h (by decide)

/-- R88 and R101: DOWN under DOWN_TIMEOUT, M0 takes the 300 ms from the last cycle start. -/
theorem test_strokeStart :
    ((after .strokeStart gate).head.phase, (after .strokeStart gate).head.timer, (after .strokeStart gate).head.served,
      (after .strokeStart gate).alarm.m0.value) = (.down, some 110, some (2, 5), 300) := by decide

/-- A stroke on the oldest entry in a phase. -/
def stroke (p : HeadPhase) : State :=
  { gate with head := { gate.head with
    phase := p, served := some (2, 5), strokeStart := some 4912, timer := some 50, clinchOn := p == .sense,
    first := if p = .sense then some ⟨true, true⟩ else none, lead := if p = .up then some ⟨true, true⟩ else none } }

/-- A recovery return, the oldest entry attempted or not. -/
def returning (attempted : Bool) : State :=
  { withQueue gate [en 2 5 .pass (some .insert) attempted, en 2 6 .pass] with
    head := { gate.head with phase := .returning, drive := .up, timer := some 50 } }

theorem witness_PhasesEndAtTheirSensors :
    (gate.head.phase ≠ .down ∧ (stroke .down).head.phase = .down) ∧ (gate.head.phase ≠ .clinch ∧ (stroke .clinch).head.phase = .clinch) ∧
    gate.head.phase ≠ .sense ∧ ((stroke .sense).head.phase = .sense ∧ (stroke .sense).head.first = some ⟨true, true⟩) := by decide

theorem test_bottomEdge :
    ((after .bottomEdge (stroke .down)).head.phase, (after .bottomEdge (stroke .down)).head.clinchOn,
      (after .bottomEdge (stroke .down)).head.timer) = (.clinch, true, some 120) ∧ idles .bottomEdge gate = true := by decide
theorem test_clinchDoneEdge :
    ((after (.clinchDoneEdge true false) (stroke .clinch)).head.first, (after (.clinchDoneEdge true false) (stroke .clinch)).head.confirm) =
      (some ⟨true, false⟩, some 2) := by decide

/-- R91, the second row of its table: CLA active then inactive is not found. -/
theorem test_confirmSample :
    ((after (.confirmSample false true) (stroke .sense)).head.lead, (after (.confirmSample false true) (stroke .sense)).head.phase,
      (after (.confirmSample false true) (stroke .sense)).head.timer) = (some ⟨false, true⟩, .up, some 130) := by decide

/-- The end of a stroke with the leads found or not. -/
def strokeUp (l : Leads) : State := { stroke .up with head := { (stroke .up).head with lead := some l } }

theorem witness_StrokesEndAtTheTop :
    (gate.head.phase ≠ .up ∧ gate.head.phase ≠ .returning) ∧
    ((strokeUp ⟨true, false⟩).head.phase = .up ∧ (strokeUp ⟨true, false⟩).tape.queue.head? = some (en 2 5 .pass (some .insert)) ∧
      (strokeUp ⟨true, false⟩).head.lead = some ⟨true, false⟩ ∧ (strokeUp ⟨true, true⟩).head.lead = some ⟨true, true⟩ ∧
      (stroke .up).head.strokeStart = some 4912 ∧ (stroke .up).alarm.run ≠ .configFault ∧
      (stroke .up).tape.feeding = false ∧ (stroke .up).missesAfter 2 = some 1 ∧
      (en 2 5 .pass (some .insert)).target ≠ none) ∧
    ((returning true).head.phase = .returning ∧ ((returning true).tape.queue.head?.map Entry.attempted) = some true ∧
      ((returning false).tape.queue.head?.map Entry.attempted) = some false) := by decide

/-- R93, R94 and R98's 88 ms: INSERTED counts, a missing lead is a miss with alarm 34, M4 takes the stroke time; the
recovery return removes the attempted entry as missed for HEAD_JAM. -/
theorem test_topEdge :
    ((after .topEdge (strokeUp ⟨true, true⟩)).work.board.map fun b => (b.inserted, b.missed),
      (after .topEdge (strokeUp ⟨true, true⟩)).alarm.m4.value) = (some (1, 0), 88) ∧
    ((after .topEdge (strokeUp ⟨true, false⟩)).work.board.map fun b => (b.inserted, b.missList),
      (after .topEdge (strokeUp ⟨true, false⟩)).alarm.list) =
      (some (0, [(5, .leadMiss)]), [⟨.leadMiss, 1, some 0x150, some 5, false, false⟩]) := by decide
theorem test_topEdge_returning :
    ((after .topEdge (returning true)).work.board.map Board.missList, (after .topEdge (returning true)).tape.queue.length,
      (after .topEdge (returning false)).tape.queue.length) = (some [(5, .headJam)], 1, 2) := by decide

theorem witness_JamsAndDropsHaltTheHead :
    ((stroke .down).head.phase = .down ∧ (stroke .clinch).head.phase = .clinch ∧ (stroke .up).head.phase = .up ∧
      (stroke .up).tape.queue ≠ [] ∧ (withQueue (stroke .up) []).tape.queue = []) ∧
    (returning true).head.phase = .returning ∧ (gate.head.phase = .top ∧ (stroke .sense).head.phase = .sense) ∧
    ((starting .header 79 []).alarm.run = .configFault ∧ (stroke .up).head.phase ≠ .top ∧ gate.alarm.run ≠ .configFault) := by decide

/-- Chapter 11, "A purge after a head jam": 32 with the serial and the ordinal, the entry attempted. -/
theorem test_headJam :
    ((after .headJam (stroke .clinch)).alarm.list, (after .headJam (stroke .clinch)).head.phase,
      (after .headJam (stroke .clinch)).tape.queue.map Entry.attempted) =
      ([⟨.clinchJam, 1, some 0x150, some 5, true, false⟩], .halted, [true, false, false, false]) ∧
    idles .headJam (stroke .sense) = true := by decide
theorem test_headDrop :
    ((after .headDrop gate).alarm.list.map AlarmEntry.code, (after .headDrop gate).head.phase) = ([.upJam], .halted) := by decide

/-! ## The board at the work position -/

/-- The work position in a state with an operation. -/
def working (w : WorkState) (op : Option (OpKind × OpCondition)) (b : Option Board := none) : State :=
  { st .running with work := { Work.atReset with state := w, op := op, opTimer := if op = none then none else some 77, board := b, accept := 17 } }

theorem witness_BoardsEnterAnEmptyWorkPosition :
    ((st .running).MayStart ∧ (st .running).work.state = .empty ∧ (st .running).lines.bwk = false) ∧
    ¬((st .stopped).MayStart ∧ (st .stopped).work.state = .empty ∧ (st .stopped).lines.bwk = false) := by
  unfold State.MayStart; decide

theorem test_conveyorInStart :
    ((after .conveyorInStart (st .running)).work.state, (after .conveyorInStart (st .running)).work.convIn,
      (after .conveyorInStart (st .running)).work.opTimer) = (.entering, true, some 1000) ∧
    (after .conveyorInStart (st .stopped)).work.state = .empty := by decide
theorem test_bwkInactive :
    ((after (.bwkInactive true) (withLines (st .running) fun l => { l with bwk := true })).lines.bwk,
      (after (.bwkInactive false) (withLines (st .running) fun l => { l with bwk := true })).out.entry) = (false, .free) := by decide

/-- A board entering with a traveller of serial 0x0310, mask {1}, in the arrival queue. -/
def entering (left : List Arrival) : State :=
  let s := working .entering (some (.conveyorIn, .driving))
  { s with trav := { s.trav with arrivals := left } }

/-- The traveller of "one board through a middle station" (chapter 6). -/
def arrival : Arrival := ⟨⟨0x310, none, 2, [⟨6, 12, 0, []⟩], 0⟩, 30000⟩

/-- A match wait. -/
def matching : State :=
  let s := working .matching none
  { s with work := { s.work with matchTimer := some 500 }, trav := { s.trav with takeOpen := true } }

theorem witness_ArrivingBoardsAreMatched :
    ((starting .header 79 []).alarm.run = .configFault ∧ matching.work.state ≠ .entering ∧ matching.work.state ≠ .empty) ∧
    ((entering []).alarm.run ≠ .configFault ∧ (entering []).work.state = .entering) ∧
    ((withRole (entering []) .lineHead).role = .lineHead) ∧
    ((entering [arrival]).role ≠ .lineHead ∧ (entering [arrival]).trav.arrivals = [arrival]) ∧
    ((entering []).trav.arrivals = [] ∧ (entering []).header.travWait ≠ 0 ∧
      (withHdr (entering []) fun h => { h with travWait := 0 }).header.travWait = 0) ∧
    ((st .stopped).alarm.run ≠ .configFault ∧ (st .stopped).work.state = .empty) ∧
    (matching.work.state = .matching ∧ matching.work.matchTimer ≠ none) ∧
    ¬((st .running).work.state = .matching ∧ (st .running).work.matchTimer ≠ none) := by decide

/-- Chapter 6, "one board through a middle station": accept 18, serial 0x0310, mask {1}, CLAMPING. -/
theorem test_bwkActive :
    ((after .bwkActive (entering [arrival])).work.accept, (after .bwkActive (entering [arrival])).work.state,
      (after .bwkActive (entering [arrival])).work.board.map fun b => (b.serial, b.mask)) =
      (18, .clamping, some (0x310, 2)) ∧
    ((after .bwkActive (entering [])).work.state, (after .bwkActive (entering [])).trav.takeOpen) = (.matching, true) := by decide
theorem test_matchTimeout :
    ((after .matchTimeout matching).work.board.map fun b => (b.serial, b.reject), (after .matchTimeout matching).trav.takeOpen,
      (after .matchTimeout matching).work.accept) = (some (1, some .untracked), false, 17) := by decide

/-- A board with CLAMP, UNCLAMP or the conveyor out in a condition. -/
def handlingBoard (w : WorkState) (k : OpKind) (c : OpCondition) : State := working w (some (k, c)) (some (bd 0x310 none))

/-- CLAMPED reads active. -/
def closed (s : State) : State := withLines s fun l => { l with clamped := true }

/-- The exit has been seen. -/
def exitSeen (s : State) : State := { s with work := { s.work with exitSeen := true } }

theorem witness_OperationsStartAndTheClampFollows :
    ((handlingBoard .clamping .clamp .waiting).MayStart ∧ (handlingBoard .clamping .clamp .waiting).work.op = some (.clamp, .waiting) ∧
      (handlingBoard .clamping .clamp .waiting).lines.clamped = false ∧
      (closed (handlingBoard .clamping .clamp .waiting)).lines.clamped = true) ∧
    ¬((st .running).MayStart ∧ (st .running).work.op = some (.clamp, .waiting)) ∧
    ((handlingBoard .releasing .conveyorOut .waiting).MayStart ∧
      (handlingBoard .releasing .conveyorOut .waiting).work.op = some (.conveyorOut, .waiting) ∧
      (handlingBoard .releasing .conveyorOut .waiting).work.exitSeen = false ∧
      (exitSeen (handlingBoard .releasing .conveyorOut .waiting)).work.exitSeen = true ∧
      (exitSeen (handlingBoard .releasing .conveyorOut .waiting)).lines.bout = false) ∧
    ((handlingBoard .clamping .clamp .driving).Under .clamp ∧ (handlingBoard .clamping .clamp .stalled).Under .clamp ∧
      ¬(st .running).Under .clamp) ∧
    ((handlingBoard .releasing .unclamp .driving).Under .unclamp ∧ ¬(st .running).Under .unclamp ∧
      (st .running).work.clamped = false ∧ gate.work.clamped = true) := by
  unfold State.MayStart State.Under; decide

theorem test_clampStart :
    ((after .clampStart (handlingBoard .clamping .clamp .waiting)).work.op, (after .clampStart (handlingBoard .clamping .clamp .waiting)).work.opTimer) =
      (some (.clamp, .driving), some 500) ∧
    (after .clampStart (closed (handlingBoard .clamping .clamp .waiting))).work.clamped = true := by decide
theorem test_clampedActive :
    ((after .clampedActive (handlingBoard .clamping .clamp .stalled)).work.state, (after .clampedActive (handlingBoard .clamping .clamp .stalled)).work.clamped) =
      (.ready, true) := by decide
theorem test_clampedInactive :
    (after .clampedInactive (handlingBoard .releasing .unclamp .driving)).work.op = some (.conveyorOut, .driving) ∧
    ((after .clampedInactive gate).work.clamped, (after .clampedInactive gate).alarm.list.map AlarmEntry.code) = (false, [.clampJam]) := by decide
theorem test_conveyorOutStart :
    ((after .conveyorOutStart (handlingBoard .releasing .conveyorOut .waiting)).work.convOut,
      (after .conveyorOutStart (handlingBoard .releasing .conveyorOut .waiting)).work.opTimer) = (true, some 2000) := by decide

/-- A rejected board DONE at the line end, clamped. -/
def lineEnd : State :=
  let s := withRole (closed (working .done none (some { bd 0x310 none with reject := some .misses }))) .lineEnd
  { s with work := { s.work with clamped := true, clampOn := true } }

theorem witness_BoardsLeaveThroughTheExit :
    (lineEnd.MayStart ∧ lineEnd.role = .lineEnd ∧ lineEnd.work.state = .done ∧ lineEnd.work.board.isSome = true) ∧
    ¬((st .running).MayStart ∧ (st .running).role = .lineEnd ∧ (st .running).work.state = .done) ∧
    ((handlingBoard .releasing .conveyorOut .driving).Under .conveyorOut ∧ ¬(st .running).Under .conveyorOut) ∧
    ((exitSeen (handlingBoard .releasing .conveyorOut .stalled)).Under .conveyorOut ∧
      (exitSeen (handlingBoard .releasing .conveyorOut .stalled)).work.exitSeen = true) := by
  unfold State.MayStart State.Under; decide

theorem test_lineEndRelease :
    ((after .lineEndRelease lineEnd).work.gateReject, (after .lineEndRelease lineEnd).work.op, (after .lineEndRelease lineEnd).work.clampOn) =
      (true, some (.unclamp, .driving), false) := by decide
theorem test_boutActive :
    (after .boutActive (handlingBoard .releasing .conveyorOut .driving)).work.exitSeen = true ∧
    (after .boutActive (st .running)).work.exitSeen = false := by decide

/-- R136: at a middle station a hand-off in SENT is timed for HANDOFF_TIMEOUT, 5 s, from the board's leaving. -/
theorem test_boutInactive :
    let s := exitSeen (handlingBoard .releasing .conveyorOut .driving)
    let u := after (.boutInactive false) { s with trav := { s.trav with phase := .sent, release := some (0x320, 43) } }
    (u.work.state, u.work.board, u.trav.phase, u.trav.timer) = (.empty, none, .timing, some 5000) := by decide

theorem witness_OperationsStallAtTheirTimeout :
    (∀ k, (st .running).work.op ≠ some (k, .driving)) ∧
    (handlingBoard .entering .conveyorIn .driving).work.op = some (.conveyorIn, .driving) ∧
    (handlingBoard .clamping .clamp .driving).work.op = some (.clamp, .driving) ∧
    (handlingBoard .releasing .unclamp .driving).work.op = some (.unclamp, .driving) ∧
    (handlingBoard .releasing .conveyorOut .driving).work.op = some (.conveyorOut, .driving) := by
  refine ⟨fun k => by cases k <;> decide, rfl, rfl, rfl, rfl⟩

theorem test_operationTimeout :
    ((after .operationTimeout (handlingBoard .releasing .conveyorOut .driving)).work.op,
      (after .operationTimeout (handlingBoard .releasing .conveyorOut .driving)).alarm.list) =
      (some (.conveyorOut, .stalled), [⟨.outJam, 1, some 0x310, none, true, false⟩]) := by decide

/-- Chapter 11, "A purge after a head jam": the jam, then the PURGE. -/
def jammed : State :=
  let s := withBoard (withQueue (st .alarm) [en 4 7 .pass (some .insert) true, en 4 8 .pass, en 4 9 .pass, en 4 10 .pass]) .working
    (bd 0x202 (some 4))
  { s with head := { s.head with phase := .halted } }

theorem witness_PurgeRemovesTheBoard :
    ¬(((st .running).alarm.run = .stopped ∨ (st .running).alarm.run = .alarm) ∧ (st .running).work.state ≠ .empty) ∧
    ((jammed.alarm.run = .stopped ∨ jammed.alarm.run = .alarm) ∧ jammed.work.state ≠ .empty) ∧
    (jammed.work.state = .working ∧ jammed.work.board = some (bd 0x202 (some 4)) ∧ (bd 0x202 (some 4)).lap = some 4) ∧
    (withBoard (st .stopped) .ready (bd 1 none)).work.state ≠ .working := by decide

theorem test_purge :
    ((after .purge jammed).work.state, (after .purge jammed).tape.flush, (after .purge jammed).tape.queue.map Entry.decision) =
      (.empty, some 4, [some .insert, none, none, none]) ∧ idles .purge feedable = true := by decide

/-! ## Travellers and hand-off -/

theorem witness_TravellersReadBack :
    Traveller.wf ⟨0xFFFE, some .misses, 0x80000001, List.replicate 6 ⟨30, 4096, 8, List.replicate 8 (4095, .headJam)⟩, 255⟩ = true ∧
    Traveller.wf ⟨0, none, 0, [⟨1, 0, 0, []⟩], 0⟩ = true ∧
    ([] : List Byte).length < 9 ∧ leAt ([0xFF, 0xFF, 0, 0, 0, 0, 0, 0, 0] : List Byte) 0 2 = 0xFFFF ∧
    (([0, 0, 1, 0, 0, 0, 0, 0, 0] : List Byte).getD 2 0).toNat ∉ [0, 3, 5, 7] ∧
    6 < (([0, 0, 0, 0, 0, 0, 0, 0, 7] : List Byte).getD 8 0).toNat := by decide

theorem witness_ANewStageJoinsTheStageList :
    (List.replicate 5 (⟨1, 0, 0, []⟩ : Stage)).length < 6 ∧ 6 ≤ (List.replicate 6 (⟨1, 0, 0, []⟩ : Stage)).length ∧
    (List.replicate 6 (⟨1, 0, 0, []⟩ : Stage)).length ≤ 6 := by decide

/-- "A board before its traveller" (chapter 11): station 7's record is (0x031F, 42), station 8 is FREE with counter 43. -/
def granting (accept : Byte) : State :=
  let s := working .done none (some (bd 0x320 none))
  { s with
    trav := { s.trav with release := some (0x31F, 42) }
    link := { s.link with peers := s.link.peers.set 7 ⟨true, 300, [3, 1, accept, 0, 0, 0, 0xFF, 0xFF, 0, 0]⟩ } }

theorem witness_GrantsSendTheTravellerAndRelease :
    (∃ v, (granting 43).CanGrant (bd 0x320 none) v) ∧ ¬(∃ b v, (st .running).CanGrant b v) := by
  refine ⟨⟨_, Or.inl rfl, by decide, rfl, rfl, rfl, rfl, ?_, by decide⟩, ?_⟩
  · intro r hr; cases hr; decide
  · rintro ⟨b, v, -, -, h, -⟩; cases h

theorem test_releaseGrant :
    ((after .releaseGrant (granting 43)).trav.release, (after .releaseGrant (granting 43)).trav.phase,
      (after .releaseGrant (granting 43)).link.tx.map fun f => (f.sender, f.kind, f.dest, f.payload.length)) =
      (some (0x320, 43), .sent, [(7, 2, 8, 9)]) ∧ idles .releaseGrant (granting 42) = true := by decide

/-- A TRAVELLER of a serial, handed on from station 6. -/
def travellerFrame (sender : Byte) (serial : Serial) : Frame := ⟨sender, 2, 7, travellerBytes ⟨serial, none, 0, [], 0⟩⟩

/-- Three travellers queued. -/
def fullArrivals (s : State) : State :=
  { s with trav := { s.trav with arrivals := [1, 2, 3].map fun n => ⟨⟨n, none, 0, [], 0⟩, 100⟩ } }

theorem witness_ArrivingTravellersAreTested :
    (∀ f rest, (st .running).link.rx = f :: rest → (st .running).link.handing = true → f.kind ≠ 2) ∧
    ((handing (st .running) [travellerFrame 6 9]).link.rx = travellerFrame 6 9 :: [] ∧
      (handing (st .running) [travellerFrame 6 9]).link.handing = true ∧ (travellerFrame 6 9).kind = 2 ∧
      (st .running).alarm.run ≠ .configFault ∧ (State.reset).alarm.run = .configFault) ∧
    ((withRole (st .running) .lineHead).role = .lineHead ∧ (st .running).ownAddr ≠ some ((5 : Byte).toNat + 1)) ∧
    ((st .running).role ≠ .lineHead ∧ (st .running).ownAddr = some ((6 : Byte).toNat + 1) ∧ travellerOfBytes [] = none) ∧
    ((travellerOfBytes (travellerFrame 6 9).payload).map Traveller.serial = some 9) ∧
    ((∃ a ∈ (fullArrivals (st .running)).trav.arrivals, a.traveller.serial = 3) ∧
      (∀ a ∈ (fullArrivals (st .running)).trav.arrivals, a.traveller.serial ≠ 9) ∧
      3 ≤ (fullArrivals (st .running)).trav.arrivals.length ∧ (st .running).trav.arrivals.length < 3 ∧
      (st .running).trav.takeOpen = false ∧ matching.trav.takeOpen = true) := by
  refine ⟨fun f rest h => (by cases h), ?_⟩
  decide

/-- R129 to R131: taken at once by the board that waits, foreign from station 5, an overflow with alarm 56 at three. -/
theorem test_travellerReceive :
    ((after .travellerReceive (handing matching [travellerFrame 6 0x320])).work.board.map Board.serial,
      (after .travellerReceive (handing matching [travellerFrame 6 0x320])).work.state) = (some 0x320, .clamping) ∧
    (after .travellerReceive (handing (st .running) [travellerFrame 5 9])).trav.foreign = 1 := by decide
theorem test_travellerReceive_overflow :
    ((after .travellerReceive (handing (fullArrivals (st .running)) [travellerFrame 6 9])).trav.overflow,
      (after .travellerReceive (handing (fullArrivals (st .running)) [travellerFrame 6 9])).alarm.list.map AlarmEntry.code) =
      (1, [.arrivalFull]) := by decide

theorem witness_ExpiredTravellersAreReportedLost :
    (∀ a ∈ (st .running).trav.arrivals, a.traveller.serial ≠ 2) ∧
    (∃ a ∈ (fullArrivals (st .running)).trav.arrivals, a.traveller.serial = 2) ∧
    (st .running).link.tx.length < 4 ∧ 4 ≤ full.link.tx.length := by decide

theorem test_travellerExpiry :
    ((after (.travellerExpiry 2) (fullArrivals (st .running))).trav.arrivals.map fun a => a.traveller.serial,
      (after (.travellerExpiry 2) (fullArrivals (st .running))).link.tx,
      (after (.travellerExpiry 2) (fullArrivals (st .running))).trav.expiry) = ([1, 3], [⟨7, 3, 0, [2, 0]⟩], 1) ∧
    (after (.travellerExpiry 4) full).trav.lostNotSent = 1 := by decide

/-- A hand-off in a phase, the last release 0x0320. -/
def handOff (p : HandPhase) : State :=
  { st .running with trav := { Trav.atReset with phase := p, release := some (0x320, 43), timer := if p = .timing then some 9 else none } }

/-- A LOST frame of a serial from station 8. -/
def lostFrame (serial : Serial) : Frame := ⟨8, 3, 0, le16 serial.toNat⟩

theorem witness_HandoffsExpireOrAreLost :
    (handOff .sent).trav.phase ≠ .timing ∧ (handOff .timing).trav.phase = .timing ∧
    (∀ f rest, (st .running).link.rx = f :: rest → (st .running).link.handing = true → f.kind ≠ 3) ∧
    ((handing (handOff .timing) [lostFrame 0x320]).link.rx = lostFrame 0x320 :: [] ∧ (lostFrame 0x320).kind = 3 ∧
      (handing (handOff .timing) [lostFrame 0x320]).link.handing = true ∧ (lostFrame 0x320).payload = le16 (BitVec.toNat (0x320 : Serial)) ∧
      (handOff .timing).alarm.run ≠ .configFault ∧ (handOff .timing).ownAddr.map (· + 1) = some (lostFrame 0x320).sender.toNat ∧
      (handOff .timing).trav.release = some (0x320, 43)) ∧
    ((st .running).trav.release = none ∧ (0x320 : Serial) ≠ 0x31F) := by
  refine ⟨by decide, by decide, fun f rest h => (by cases h), by decide, by decide⟩

theorem test_handoffTimeout :
    ((after .handoffTimeout (handOff .timing)).trav.phase, (after .handoffTimeout (handOff .timing)).alarm.list) =
      (.expired, [⟨.handoffTimeout, 1, some 0x320, none, false, false⟩]) := by decide
theorem test_lostReceive :
    ((after .lostReceive (handing (handOff .none) [lostFrame 0x320])).trav.phase,
      (after .lostReceive (handing (handOff .none) [lostFrame 0x320])).alarm.list.map fun e => (e.code, e.serial)) =
      (.lost, [(.boardLost, some 0x320)]) ∧
    (after .lostReceive (handing (handOff .none) [lostFrame 0x31F])).trav.phase = .none := by decide

/-! ## Run state, alarms and monitors -/

/-- An alarm list of eight entries, the named codes with their stop bits. -/
def listed (codes : List (AlarmCode × Bool)) (run : RunState) : State :=
  { st run with alarm := { (st run).alarm with list := codes.map fun c => ⟨c.1, 1, none, none, c.2, false⟩ } }

/-- Eight codes, the first two with their stop bits. -/
def eight : List (AlarmCode × Bool) :=
  [(.tapeJam, true), (.upJam, true), (.tapeLow, false), (.arrivalFull, false), (.leadMiss, false), (.boardLost, false),
   (.addressClash, false), (.boardMisses, false)]

theorem witness_RaisesFillTheAlarmList :
    State.reset.alarm.run = .configFault ∧ (listed eight .alarm).alarm.run ≠ .configFault ∧
    (listed eight .alarm).alarm.listed .tapeJam = true ∧ (listed eight .alarm).alarm.listed .outJam = false ∧
    (listed [] .running).alarm.list.length < 8 ∧ 8 ≤ (listed eight .alarm).alarm.list.length ∧
    (listed eight .alarm).stopBit .outJam = true ∧ (listed eight .alarm).stopBit .handoffTimeout = false ∧
    (listed eight .alarm).alarm.list = (listed eight .alarm).alarm.list.take 2 ++ ⟨.tapeLow, 1, none, none, false, false⟩ ::
      (listed eight .alarm).alarm.list.drop 3 ∧
    (∀ x ∈ (listed eight .alarm).alarm.list.take 2, x.stop = true) ∧
    (∀ e ∈ (listed (eight.map fun c => (c.1, true)) .alarm).alarm.list, e.stop = true) := by decide

theorem witness_MonitorsAreEvaluated :
    let s := withHdr (st .running) fun h => { h with monitors := List.replicate 6 ⟨5, 4, 1, true, false, true⟩ }
    s.alarm.run ≠ .configFault ∧ s.settings .m5 = ⟨5, 4, 1, true, false, true⟩ ∧ s.alarm.monitor .m5 = Monitor.atReset ∧
    (0 < 5 ∧ 5 ≤ min 65535 5) ∧ ¬(0 < 5 ∧ 5 ≤ min 65535 4) ∧ (0 < 4 ∧ 4 ≤ min 65535 4) ∧ ¬(0 < 4 ∧ 4 ≤ min 65535 3) := by
  decide

/-- R157: the code of M2 is raised with the board's serial, and with its stop enable the station goes to ALARM. -/
theorem test_evaluate :
    let s := withHdr (withBoard (st .running) .working (bd 0x51 none)) fun h =>
      { h with monitors := List.replicate 6 ⟨0, 4, 1, false, false, true⟩ }
    ((s.evaluate .m2 4).alarm.list, (s.evaluate .m2 4).alarm.run, (s.evaluate .m2 70000).alarm.m2.value,
      (s.evaluate .m2 3).alarm.list) =
      ([⟨.boardMisses, 1, some 0x51, none, true, false⟩], .alarm, 65535, []) := by decide

/-- The station STOPPED with the head in a phase. -/
def stoppedAt (p : HeadPhase) (homed : Bool) : State :=
  let s := withQueue (st .stopped) [en 4 7 .pass (some .insert) true, en 4 8 .pass]
  { s with head := { s.head with phase := p }, table := { s.table with homed := homed } }

/-- The station STOPPED or HOLDING with the operation of `stalledHoming`. -/
def stalledIn (run : RunState) : State := { st run with work := stalledHoming.work }

theorem witness_RunAndStepLeaveStopped :
    ((st .running).alarm.run ≠ .stopped ∧ ∀ d, ¬(st .running).TopActs true d) ∧
    ((returning true).alarm.run ≠ .stopped ∧ (returning true).TopActs true .topEdge ∧
      (∃ u, exec .topEdge (returning true) = .next u)) ∧
    ((st .stopped).TopActs false .headDrop ∧ (st .running).TopActs false .headDrop ∧
      (∃ u, exec .headDrop (st .stopped) = .next u)) ∧
    ((st .stopped).alarm.run = .stopped ∧ (st .stopped).table.homed = true ∧
      (st .stopped).NoneRemoved true [.halted, .returning] ∧
      (∀ k, (st .stopped).work.op ≠ some (k, .stalled)) ∧ (st .stopped).work.state = .empty ∧ (st .stopped).work.op = none) ∧
    ((stoppedAt .halted true).NoneRemoved false [.halted, .returning] ∧
      (stoppedAt .halted false).NoneRemoved false [.halted, .returning] ∧
      (stoppedAt .top false).NoneRemoved true [.halted, .returning] ∧ (stoppedAt .top false).table.homed = false) ∧
    ((stoppedAt .returning true).alarm.run = .stopped ∧ (stoppedAt .returning true).head.phase = .returning ∧
      (stoppedAt .halted false).head.phase = .halted ∧
      (stoppedAt .halted false).tape.queue.head?.map Entry.attempted = some true ∧ (stoppedAt .halted false).work.op = none) ∧
    ((stalledIn .stopped).work.op = some (.clamp, .stalled) ∧ (stalledIn .stopped).WorkFits ∧
      (stalledIn .stopped).NoneRemoved true [.halted, .returning] ∧ (stalledIn .stopped).table.homed = true) ∧
    ∀ s ∈ [readyIn .stopped, heldIn .stopped, haltedIn .stopped true false, haltedIn .stopped true true],
      s.alarm.run = .stopped ∧ s.table.homed = true := by
  unfold State.TopActs
  refine ⟨⟨by decide, ?_⟩, ⟨by decide, by decide, ⟨_, rfl⟩⟩, ⟨by decide, by decide, ⟨_, rfl⟩⟩,
    ⟨rfl, rfl, fun _ h => absurd h (by decide), ?_, rfl, rfl⟩,
    ⟨fun h => (by cases h), fun h => (by cases h), fun _ h => absurd h (by decide), rfl⟩, by decide,
    ⟨rfl, workFits_of _ _ rfl (by decide) (by decide) (by decide) (by decide), fun _ h => absurd h (by decide), rfl⟩,
    by decide⟩
  · rintro d (⟨-, h, -⟩ | ⟨-, -, -, h⟩) <;> exact absurd h (by decide)
  · intro k h; cases h

/-- R86: a TOP that the press samples inactive in the phase TOP is a dropped head, in STOPPED as in RUNNING. -/
theorem test_run_drops_the_head :
    ((after (.run false false) (st .stopped)).alarm.run, (after (.run false false) (st .stopped)).head.phase,
      (after (.run false false) (st .stopped)).alarm.list.map AlarmEntry.code) = (.alarm, .halted, [.upJam]) ∧
    ((after (.step ⟨false, false⟩) (st .running)).alarm.run, (after (.step ⟨false, false⟩) (st .running)).head.phase) =
      (.alarm, .halted) := by decide

/-- R145 and R148: RUNNING, HOLDING under an asserted stop line, HOMING when unhomed. -/
theorem test_run :
    (after (.run true false) (st .stopped)).alarm.run = .running ∧
    (after (.run true false) (withLines (st .stopped) fun l => { l with stopline := true })).alarm.run = .holding ∧
    ((after (.run true false) { st .stopped with table := Table.atReset }).alarm.run,
      (after (.run true false) { st .stopped with table := Table.atReset }).table.homingTimer) = (.homing, some 10000) := by decide

/-- Chapter 11, "A purge after a head jam": the return begins at RUN; a RUN that finds TOP active in RETURN completes it
(R97), in STEPPING too, where RUN itself is ignored. -/
theorem test_run_with_the_head_halted :
    let s := { after .purge jammed with alarm := { (after .purge jammed).alarm with run := .stopped } }
    (after (.run false false) s).head.phase = .returning ∧
    ((after (.run true false) s).head.phase, (after (.run true false) s).tape.queue.map Entry.decision) =
      (.top, [some .passFlush, none, none]) ∧
    ((after (.run true false) (returning true)).head.phase, (after (.run true false) (returning true)).tape.queue.length,
      (after (.run false false) (returning true)).head.phase) = (.top, 1, .returning) := by decide

theorem test_step :
    ((after (.step ⟨true, false⟩) (st .stopped)).alarm.run, (after (.step ⟨true, false⟩) (st .stopped)).alarm.stepUsed) =
      (.stepping, false) ∧
    (after (.step ⟨true, false⟩) (st .alarm)).alarm.run = .alarm := by decide

/-- R109: BIN as it reads at the press decides whether a conveyor in may start in STEPPING; R108: a STALLED operation
restarts. -/
theorem test_step_samples_bin :
    let s := withLines (st .stopped) fun l => { l with bin := true }
    ((after (.step ⟨true, false⟩) s).conveyorInReady, (after (.step ⟨true, true⟩) s).conveyorInReady) = (false, true) ∧
    (after (.step ⟨true, false⟩) (stalledIn .stopped)).work.op = some (.clamp, .driving) := by decide

/-- Chapter 11, "A tape break during a stroke": BROKEN, TBRK inactive again, the buffer at (2, 8). -/
def broken : State :=
  let s := listed [(.tapeBreak, true)] .alarm
  { withQueue s [en 2 5 .pass (some .insert), en 2 6 .pass, en 2 7 .pass] with
    reader := { s.reader with buffer := [rc 2 8, rc 2 9, rc 2 10, rc 2 11] }
    tape := { s.tape with fault := .broken, queue := [en 2 5 .pass (some .insert), en 2 6 .pass, en 2 7 .pass] } }

/-- A broken tape with no entry on the queue and a record in the buffer. -/
def unfed : State :=
  { broken with
    tape := { broken.tape with queue := [] }
    reader := { broken.reader with phase := .walking, buffer := [rc 2 5 .res], read := none } }

theorem witness_ClearRemovesWhatDoesNotPersist :
    State.reset.alarm.run = .configFault ∧ broken.alarm.run ≠ .configFault ∧
    ((st .running).alarm.run ≠ .alarm ∧ (∃ e ∈ (after .tapeBreak (st .running)).alarm.list, e.stop = true ∧ e.persists = true)) ∧
    (broken.alarm.run = .alarm ∧ ∀ e ∈ broken.alarm.list, e.stop = true → e.persists = false) ∧
    ((st .running).tape.fault = .none ∧ (after .tapeJam feeding).tape.fault = .jammed ∧ (st .running).lines.tbrk = false ∧
      broken.tape.fault = .broken) ∧
    ((if broken.head.phase.stroking then broken.tape.queue.drop 1 else broken.tape.queue) =
      en 2 5 .pass (some .insert) :: [en 2 6 .pass, en 2 7 .pass]) ∧
    ((walking false 1).reader.read ≠ none ∧ (st .running).reader.buffer = []) ∧
    (unfed.alarm.run ≠ .configFault ∧ unfed.tape.fault = .broken ∧ unfed.lines.tbrk = false ∧
      (if unfed.head.phase.stroking then unfed.tape.queue.drop 1 else unfed.tape.queue) = [] ∧
      unfed.reader.buffer = [rc 2 5 .res] ∧ unfed.reader.read = none ∧ unfed.reader.phase = .walking) ∧
    ((handOff .expired).trav.phase = .expired ∧ (handOff .lost).trav.phase = .lost ∧ (handOff .sent).trav.phase ≠ .expired ∧
      (handOff .sent).trav.phase ≠ .lost) := by decide

/-- Chapter 11, "A tape break during a stroke": empty queue and buffer, the read of (2, 5) in flight, STOPPED. -/
theorem test_clear :
    ((after .clear broken).tape.queue, (after .clear broken).reader.buffer,
      (after .clear broken).reader.read.map Read.cursor, (after .clear broken).reader.cursor) =
      ([], [], some (some (cursorAt rows 2 5)), cursorAt rows 2 6) ∧
    ((after .clear broken).alarm.list, (after .clear broken).alarm.run, (after .clear broken).tape.fault) = ([], .stopped, .none) := by
  decide
theorem test_clear_keeps_what_persists :
    ((after .clear (after .tapeBreak (st .running))).alarm.run, (after .clear (after .tapeBreak (st .running))).tape.fault) =
      (.alarm, .broken) := by decide

/-- R58: nothing is discarded, so the rewind goes to the oldest buffered record, which is read again at once. -/
theorem test_clear_rewinds_to_the_buffer :
    ((after .clear unfed).reader.buffer, (after .clear unfed).reader.read.map Read.cursor) =
      ([], some (some (cursorAt rows 2 5))) := by decide

theorem witness_StopsAndHoldsAreTaken :
    (st .stopping).alarm.run ∈ [RunState.stopped, .stopping, .alarm, .configFault] ∧
    (st .homing).alarm.run ∈ [RunState.running, .stepping, .holding, .homing] ∧ (st .running).alarm.run ≠ .holding ∧
    (st .holding).alarm.run = .holding ∧ { jammed with alarm := { jammed.alarm with run := .holding } }.lines.top = false ∧
    ((st .holding).work.state = .empty ∧ (st .holding).work.op = none ∧ (st .holding).head.phase ≠ .halted) ∧
    ((stalledIn .holding).alarm.run = .holding ∧ (stalledIn .holding).work.op = some (.clamp, .stalled) ∧
      (stalledIn .holding).WorkFits ∧ (stalledIn .holding).NoneRemoved (stalledIn .holding).lines.top [.halted]) ∧
    ∀ s ∈ [readyIn .holding, heldIn .holding, haltedIn .holding false true, haltedIn .holding true false,
      haltedIn .holding true true], s.alarm.run = .holding := by
  refine ⟨by decide, by decide, by decide, by decide, by decide, by decide, ⟨by decide, by decide,
    workFits_of _ _ rfl (by decide) (by decide) (by decide) (by decide), fun h => absurd h (by decide)⟩, by decide⟩

theorem test_stop :
    (after .stop (stroke .down)).alarm.run = .stopping ∧ (after .stop (st .running)).alarm.run = .stopped ∧
    idles .stop (st .alarm) = true := by decide
theorem test_stopline :
    (after .stoplineAsserted (st .running)).alarm.run = .holding ∧ (after .stoplineAsserted (st .stepping)).alarm.run = .stepping ∧
    (after (.stoplineReleased false) (after .stoplineAsserted (st .running))).alarm.run = .running ∧
    (after (.stoplineReleased false) (stalledIn .holding)).work.op = some (.clamp, .driving) := by decide

/-- R148, R117 and R118: with a board at the work position the released line brings RUNNING, the READY board starts, and the
row hold stops the station. -/
theorem test_stopline_with_a_board :
    let t := fun s => after (.stoplineReleased false) s
    ((t (haltedIn .holding false true)).alarm.run, (t (haltedIn .holding false true)).work.state,
      (t (haltedIn .holding false true)).head.phase) = (.running, .working, .returning) ∧
    ((t (readyIn .holding)).alarm.run, (t (readyIn .holding)).work.state) = (.running, .working) ∧
    ((t (heldIn .holding)).alarm.run, (t (heldIn .holding)).alarm.rowHold) = (.stopped, true) := by decide

/-! ## The line link -/

/-- A STATUS of station 8: RUNNING, FREE, accept counter 44. -/
def statusFrame (accept : Byte) : Frame := ⟨8, 1, 0, [3, 1, accept, 0, 0, 0, 0xFF, 0xFF, 0, 0]⟩

set_option maxRecDepth 20000 in
theorem witness_FramesReadBack : (List.replicate 200 (7 : Byte)).length ≤ 200 ∧ ([] : List Byte).length ≤ 200 ∧ (65535 : Nat) ≤ 65535 ∧
    (41 : Byte) ∈ (Frame.bytes ⟨200, 200, 200, [126]⟩) := by decide

theorem witness_WholeFramesAreReceived :
    (statusFrame 44).payload.length ≤ 200 ∧ (st .running).reader.straps.isSome = true ∧ (st .running).link.inCharacter = false ∧
    (st .running).link.assembly = .between ∧ (st .running).link.sending = none ∧ (st .running).link.rx.length < 4 ∧
    (statusFrame 44).sender ≠ 0 ∧ lengthAllowed (statusFrame 44).kind (statusFrame 44).payload.length = true ∧
    (st .running).ownAddr ≠ some (statusFrame 44).sender.toNat ∧ (st .running).uses (statusFrame 44) = true := by decide

/-- R165 to R168: a LOST frame of station 8 is heard, byte by byte, and joins the receive queue. -/
theorem test_frame_heard :
    ((st .running).hears (Frame.bytes (lostFrame 0x320))).map (fun t => (t.link.rx, t.link.assembly, t.link.errors)) =
      some ([lostFrame 0x320], .between, 0) := by decide

/-- The receiver in a character, the assembly somewhere. -/
def receiving (a : Assembly) : State :=
  { st .running with link := { (st .running).link with inCharacter := true, assembly := a, idle := 3 } }

theorem witness_CharactersBuildFrames :
    (State.reset.reader.straps = none ∧ (receiving .between).link.inCharacter = true) ∧
    ((st .running).reader.straps ≠ none ∧ (st .running).link.inCharacter = false) ∧
    ((st .running).link.assembly = .between ∧ State.reset.link.assembly = .skipping ∧
      { st .running with link := { (st .running).link with assembly := .assembling [8] } }.link.assembly = .assembling [8]) ∧
    ((receiving .skipping).link.assembly = .skipping ∧ characterEnd ⟨3, true, true⟩ = .parityError ∧
      characterEnd ⟨3, false, false⟩ = .framingError ∧ characterEnd (goodCharacterOf 201) = .good) ∧
    ((receiving (.assembling [8, 3, 0])).link.assembly = .assembling [8, 3, 0] ∧ [(8 : Byte), 3, 0].length = 3 ∧
      200 < (201 : Byte).toNat ∧ ¬(200 < (200 : Byte).toNat) ∧ frameComplete ([8, 3, 0] ++ [200]) = false ∧
      frameComplete ((Frame.bytes (lostFrame 0x320)).dropLast ++ [(Frame.bytes (lostFrame 0x320)).getLastD 0]) = true) := by decide

/-- R165: a valid start sets the idle count to 0. -/
theorem test_validStart :
    ((after .validStart (st .running)).link.inCharacter, (after .validStart (st .running)).lines.link) = (true, false) ∧
    idles .validStart State.reset = true := by decide
theorem test_goodCharacter :
    (after (.goodCharacter (goodCharacterOf 8)) (receiving .between)).link.assembly = .assembling [8] ∧
    (after (.goodCharacter (goodCharacterOf 201)) (receiving (.assembling [8, 3, 0]))).link.counters.lengthErrors = 1 := by decide
theorem test_frameBroken :
    ((after (.frameBroken ⟨3, true, true⟩) (receiving (.assembling [8]))).link.assembly,
      (after (.frameBroken ⟨3, true, true⟩) (receiving (.assembling [8]))).link.counters.characterErrors) = (.skipping, 1) := by decide
theorem test_frameReceived :
    let f := Frame.bytes (lostFrame 0x320)
    ((after (.frameReceived (goodCharacterOf (f.getLastD 0))) (receiving (.assembling f.dropLast))).link.rx,
      (after (.frameReceived (goodCharacterOf (f.getLastD 0 + 1))) (receiving (.assembling f.dropLast))).link.counters.checkErrors) =
      ([lostFrame 0x320], 1) := by decide
theorem test_gapAbandon :
    let s := { st .running with link := { (st .running).link with assembly := .assembling [8] } }
    ((after .gapAbandon s).link.assembly, (after .gapAbandon s).link.counters.gapAbandons, (after .gapAbandon s).link.errors) =
      (.between, 1, 1) := by decide

theorem witness_CompleteFramesAreTested :
    (let s := receiving (.assembling (Frame.bytes (lostFrame 0x320)).dropLast)
     let ch := goodCharacterOf ((Frame.bytes (lostFrame 0x320)).getLastD 0)
     s.reader.straps ≠ none ∧ s.link.inCharacter = true ∧ characterEnd ch = .good ∧
       s.link.assembly = .assembling (Frame.bytes (lostFrame 0x320)).dropLast ∧
       ¬((Frame.bytes (lostFrame 0x320)).dropLast.length = 3 ∧ 200 < ch.data.toNat) ∧
       frameComplete ((Frame.bytes (lostFrame 0x320)).dropLast ++ [ch.data]) = true) ∧
    frameOfBytes (Frame.bytes (lostFrame 0x320)) = some (lostFrame 0x320) ∧ byteSum (Frame.bytes (lostFrame 0x320)) % 256 = 0 ∧
    (frameOfBytes [8, 3, 0, 0, 9] = some ⟨8, 3, 0, []⟩ ∧ byteSum [8, 3, 0, 0, 9] % 256 ≠ 0) ∧
    lengthAllowed 3 0 = false ∧ (lengthAllowed 1 10 = true ∧ (statusFrame 1).sender ≠ 0) ∧
    (st .running).ownAddr = some (7 : Byte).toNat ∧ (st .running).ownAddr ≠ some (8 : Byte).toNat ∧
    (¬(((5 : Byte) = 1 ∧ (0 : Byte) = 0 ∧ (8 : Byte).toNat ≤ 30) ∨ ((5 : Byte) = 3 ∧ (0 : Byte) = 0))) ∧
    ((1 : Byte) = 1 ∧ (0 : Byte) = 0 ∧ (30 : Byte).toNat ≤ 30) ∧ (st .running).link.rx.length < 4 ∧ 4 ≤ full.link.rx.length := by decide

/-- R168 test 4 and test 5: this station's own address clashes with alarm 61, and a REPORT is ignored. -/
theorem test_tests_of_a_frame :
    (((st .running).testFrame false (Frame.bytes ⟨7, 3, 0, [1, 0]⟩)).alarm.list.map AlarmEntry.code) = [.addressClash] ∧
    ((st .running).testFrame false (Frame.bytes ⟨8, 5, 31, [2, 1, 1]⟩)).link.rx = [] ∧
    (full.testFrame false (Frame.bytes (lostFrame 9))).link.counters.receiveOverruns = 1 := by decide

/-- A station with its slot DUE or a frame queued, or with one on the line. -/
def sendable (due : Bool) (tx : List Frame) (sending : Option Sending) : State :=
  { st .running with link := { (st .running).link with due := due, tx := tx, sending := sending } }

theorem witness_SendingTakesStatusFirst :
    (sendable true [] none).CanSend 12 ∧ (sendable false [lostFrame 1] none).CanSend 12 ∧ ¬(sendable true [] none).CanSend 11 ∧
    ¬(sendable false [] none).CanSend 12 ∧ (sendable true [] none).link.due = true ∧
    (sendable false [lostFrame 1] none).link.tx = lostFrame 1 :: [] ∧ max 0 12 = 12 := by
  unfold State.CanSend; decide

theorem test_frameSendStart :
    ((after (.frameSendStart 12) (sendable true [lostFrame 1] none)).link.sending.map fun x => (x.status, x.frame.kind, x.frame.sender,
      x.frame.payload.length)) = some (true, 1, 7, 10) ∧
    ((after (.frameSendStart 12) (sendable false [lostFrame 1] none)).link.sending.map Sending.status) = some false ∧
    idles (.frameSendStart 11) (sendable true [] none) = true := by decide

/-- A frame of the queue, or the STATUS, on the line with a retry count. -/
def sendingOf (status : Bool) (retry : Nat) : State :=
  let s := sendable true [lostFrame 1, lostFrame 2] (some ⟨status, lostFrame 1⟩)
  { s with link := { s.link with statusRetry := retry, queueRetry := retry } }

theorem witness_SendingEndsInOneOfThreeWays :
    (st .running).link.sending = none ∧ (sendingOf true 2).link.sending = some ⟨true, lostFrame 1⟩ ∧
    ((sendingOf true 2).link.statusRetry < 3 ∧ 3 ≤ (sendingOf true 3).link.statusRetry) ∧
    ((sendingOf false 2).link.queueRetry < 3 ∧ 3 ≤ (sendingOf false 3).link.queueRetry) ∧ (sendingOf true 0).link.again = false := by
  decide

/-- R171: arbitration lost keeps the frame and its retry count. -/
theorem test_arbitrationLost :
    ((after .arbitrationLost (sendingOf false 2)).link.tx.length, (after .arbitrationLost (sendingOf false 2)).link.queueRetry,
      (after .arbitrationLost (sendingOf false 2)).link.errors) = (2, 2, 1) := by decide
/-- R172: the fourth try drops the frame. -/
theorem test_collision :
    ((after .collision (sendingOf false 2)).link.tx.length, (after .collision (sendingOf false 2)).link.queueRetry) = (2, 3) ∧
    ((after .collision (sendingOf false 3)).link.tx.length, (after .collision (sendingOf false 3)).link.queueRetry,
      (after .collision (sendingOf false 3)).link.counters.droppedFrames) = (1, 0, 1) := by decide
theorem test_frameSent :
    ((after .frameSent (sendingOf true 2)).link.due, (after .frameSent (sendingOf true 2)).link.statusTimer,
      (after .frameSent (sendingOf true 2)).link.tx.length) = (false, some 100, 2) ∧
    (after .frameSent (sendingOf false 2)).link.tx = [lostFrame 2] := by decide

/-- A status timer that runs. -/
def timed (s : State) : State := { s with link := { s.link with statusTimer := some 4 } }

theorem witness_PeriodicRowsActOnTheirTimers :
    State.reset.alarm.windowTimer = none ∧ (st .running).alarm.windowTimer ≠ none ∧ (st .running).alarm.run ≠ .configFault ∧
    (st .running).link.statusTimer = none ∧ (timed (sendingOf true 0)).link.statusTimer ≠ none ∧
    (timed (sendingOf true 0)).link.sending = some ⟨true, lostFrame 1⟩ ∧
    (timed (sendingOf false 0)).link.sending.map Sending.status = some false ∧
    ((0 : BitVec 5) = 0 ∧ (31 : BitVec 5) = 31 ∧ (30 : BitVec 5) ≠ 0 ∧ (30 : BitVec 5) ≠ 31 ∧ (1 : BitVec 5) ≠ 0) ∧
    ((granting 43).link.peer 8).isSome = true ∧
    ({ st .running with link := { (st .running).link with rx := [lostFrame 1] } }.link.rx ≠ [] ∧
      (st .running).link.handing = false ∧ (st .running).ownAddr ≠ none) ∧ State.reset.ownAddr = none := by decide

theorem test_windowEnd :
    let s := { st .running with link := { (st .running).link with errors := 3 } }
    ((after .windowEnd s).alarm.m5.value, (after .windowEnd s).link.errors, (after .windowEnd s).alarm.windowTimer) =
      (3, 0, some 1000) := by decide
theorem test_lampFlash :
    ((after .lampFlash (st .holding)).alarm.flashLit, (after .lampFlash (st .holding)).alarm.flashLeft) = (true, 500) := by decide
theorem test_statusTimerExpiry :
    (after .statusTimerExpiry (timed (st .running))).link.due = true ∧
    ((after .statusTimerExpiry (timed (sendingOf true 0))).link.again, idles .statusTimerExpiry (st .running)) = (true, true) := by decide
theorem test_peerStale :
    ((after (.peerStale 8) (granting 43)).link.isFresh 8, (granting 43).link.isFresh 8,
      ((after (.peerStale 8) (granting 43)).link.peer 8).map Peer.heard) = (false, true, some true) := by decide
theorem test_handingOnStart :
    let s := { st .running with link := { (st .running).link with rx := [lostFrame 1] } }
    ((after .handingOnStart s).link.handing, idles .handingOnStart (st .running)) = (true, true) := by decide

/-- A station whose hand-off of 0x0320 against counter 43 is being watched, a STATUS of station 8 handed on. -/
def watching (accept : Byte) (fresh : Bool) : State :=
  let s := handing (handOff .timing) [statusFrame accept]
  if fresh then { s with link := { s.link with peers := s.link.peers.set 7 ⟨true, 300, [3, 1, 43, 0, 0, 0, 0xFF, 0xFF, 0, 0]⟩ } } else s

theorem witness_StatusFramesReachTheTravellerUnit :
    (∀ f rest, (st .running).link.rx = f :: rest → (st .running).link.handing = true → f.kind ≠ 1) ∧
    ((watching 44 true).link.rx = statusFrame 44 :: [] ∧ (watching 44 true).link.handing = true ∧ (statusFrame 44).kind = 1 ∧
      ((watching 44 true).link.peer 8).isSome = true ∧ (statusFrame 44).sender ≠ 0) ∧
    (State.reset.alarm.run = .configFault ∧ (watching 44 true).alarm.run ≠ .configFault ∧
      (watching 44 true).ownAddr.map (· + 1) = some (statusFrame 44).sender.toNat ∧ (watching 44 true).work.state ≠ .done) ∧
    ((watching 44 false).link.isFresh 8 = false ∧ (watching 44 true).link.isFresh 8 = true ∧ (statusFrame 44).payload.getD 0 0 ≠ 0 ∧
      (watching 44 true).trav.release = some (0x320, 43) ∧ (43 : Byte) ≠ (statusFrame 44).payload.getD 2 0 ∧
      (watching 44 true).trav.phase = .timing ∧ (43 : Byte) = (statusFrame 43).payload.getD 2 0) ∧
    ((granting 42).MayStart ∧ (granting 42).role ≠ .lineEnd ∧ (granting 42).work.state = .done ∧
      (granting 42).work.board = some (bd 0x320 none) ∧ (statusView (statusFrame 43).payload).free = true ∧
      (granting 42).link.tx.length < 4) := by
  unfold State.MayStart
  refine ⟨fun f rest h => (by cases h), ?_⟩
  decide

/-- Chapter 11, "A board before its traveller": the moved counter confirms the hand-off; and the STATUS of 0 ms, FREE with
counter 43, brings the grant for 0x0320. -/
theorem test_statusReceive :
    ((after .statusReceive (watching 44 true)).trav.phase, (after .statusReceive (watching 44 true)).trav.timer,
      (after .statusReceive (watching 44 false)).trav.release) = (.none, none, none) ∧
    ((after .statusReceive (handing (granting 42) [statusFrame 43])).trav.release,
      (after .statusReceive (handing (granting 42) [statusFrame 43])).trav.phase) = (some (0x320, 43), .sent) := by decide

/-- A QUERY or REMOTE of the service tool handed on. -/
def asking (kind : Byte) (payload : List Byte) (s : State) : State := handing s [⟨31, kind, 7, payload⟩]

set_option maxRecDepth 20000 in
theorem witness_QueriesAreAnsweredInParts :
    (∀ f rest, (st .running).link.rx = f :: rest → (st .running).link.handing = true → f.kind = 4 → f.payload.getD 0 0 ≠ 1) ∧
    ((asking 4 [6, 2] (st .running)).link.rx = ⟨31, 4, 7, [6, 2]⟩ :: [] ∧ (asking 4 [6, 2] (st .running)).link.handing = true ∧
      ([6, 2] : List Byte).getD 0 0 = 6 ∧ (2 : Byte).toNat * 192 < 417 ∧ 417 ≤ (3 : Byte).toNat * 192 ∧
      (st .running).peersAnswer.length = 417) ∧
    ((st .running).link.tx.length < 4 ∧ 4 ≤ (asking 4 [6, 2] full).link.tx.length) ∧
    (((0 : Byte).toNat = 0 ∨ 6 < (0 : Byte).toNat) ∧ ((7 : Byte).toNat = 0 ∨ 6 < (7 : Byte).toNat)) := by
  refine ⟨fun f rest h => (by cases h), ?_⟩
  decide

/-- Chapter 10: STATION has 41 bytes, BOARD 83 with no received stages, MONITORS 60, PEERS 417 in three parts. -/
theorem test_queryStation :
    ((after .queryStation (asking 4 [1, 0] (st .running))).link.tx.map fun f => (f.kind, f.dest, f.payload.take 7, f.payload.length)) =
      [(5, 31, [1, 1, 0, 1, 0, 7, 1], 46)] := by decide
theorem test_queryBoard :
    ((after .queryBoard (asking 4 [2, 0] (st .running))).link.tx.map fun f => (f.payload.take 5, f.payload.length)) =
      [([1, 2, 0, 1, 0], 88)] := by decide
theorem test_queryQueue :
    ((after .queryQueue (asking 4 [3, 0] (deciding .reversed))).link.tx.map fun f => (f.payload.take 5, f.payload.length)) =
      [([1, 3, 0, 1, 0], 5 + 9 + 2 * 17)] := by decide
/-- Log entry 29: while no header is held, the depth in the answer is a free value and the rest stands. -/
theorem test_queryQueue_without_a_header :
    let s := { asking 4 [3, 0] (st .configFault) with hdr := none }
    ((after .queryQueue s).link.tx.map fun f => ((f.payload.drop 5).take 7, f.payload.drop 12)) =
      [([0, 0, 0, 0, 2, 9, 0], [Config.byteNotHeld 5000 3 7, 0])] := by rfl
theorem test_queryAlarms :
    ((after .queryAlarms (asking 4 [4, 0] (after .tapeLow (st .running)))).link.tx.map Frame.payload) =
      [[1, 4, 0, 1, 0, 1, 0, 43, 1, 8, 0, 0, 0, 0]] := by decide
theorem test_queryMonitors :
    ((after .queryMonitors (asking 4 [5, 0] (st .running))).link.tx.map fun f => f.payload.length) = [65] := by decide
set_option maxRecDepth 20000 in
theorem test_queryPeers :
    ((after .queryPeers (asking 4 [6, 2] (st .running))).link.tx.map fun f => (f.payload.take 5, f.payload.length)) =
      [([1, 6, 2, 3, 0], 5 + 33)] ∧
    ((after .queryPeers (asking 4 [6, 3] (st .running))).link.tx.map Frame.payload) = [[1, 6, 3, 3, 2]] := by decide
theorem test_queryNoItem :
    ((after .queryNoItem (asking 4 [7, 0] (st .running))).link.tx.map Frame.payload) = [[1, 7, 0, 0, 1]] ∧
    (after .queryNoItem (asking 4 [7, 0] full)).link.counters.unanswered = 1 := by decide

theorem witness_QueriesAreAnsweredInParts_layouts :
    full.PeersFit ∧ full.WithinRoom ∧ full.MissesCounted ∧ full.work.board.isSome = true := by
  refine ⟨by unfold State.PeersFit; decide, by unfold State.WithinRoom; decide, ?_, rfl⟩
  intro b hb; cases hb; decide

theorem witness_RemotesActAsTheirButtons :
    (∀ f rest, (st .running).link.rx = f :: rest → (st .running).link.handing = true → f.kind = 6 → f.payload.getD 0 0 ≠ 1) ∧
    ((asking 6 [1] (st .stopped)).link.rx = ⟨31, 6, 7, [1]⟩ :: [] ∧ (asking 6 [1] (st .stopped)).link.handing = true ∧
      ([1] : List Byte).getD 0 0 = 1) ∧
    ((withLocal (st .stopped)).localStrap = true ∧ (st .stopped).localStrap = false) ∧
    ((returning true).Ignores 1 ∧ (returning true).TopActs true .topEdge ∧ (returning true).TopSeen 1 true ∧
      (∃ u, exec .topEdge (returning true) = .next u) ∧
      ¬(stoppedAt .returning true).Ignores 1 ∧ (stoppedAt .returning true).TopSeen 1 true) ∧
    ((st .stopped).TopActs false .headDrop ∧ (st .running).TopActs false .headDrop ∧
      (∃ u, exec .headDrop (st .running) = .next u)) ∧
    ((st .alarm).Ignores 1 ∧ (st .alarm).Ignores 2 ∧ State.reset.Ignores 3) ∧
    (¬(st .stopped).Ignores 1 ∧ ¬(st .running).Ignores 2 ∧ ¬(st .alarm).Ignores 3) ∧
    ((st .stopped).link.tx.length < 4 ∧ 4 ≤ full.link.tx.length) ∧
    (((0 : Byte).toNat = 0 ∨ 3 < (0 : Byte).toNat) ∧ ((4 : Byte).toNat = 0 ∨ 3 < (4 : Byte).toNat)) := by
  unfold State.Ignores State.TopSeen State.TopActs
  refine ⟨fun f rest h => (by cases h), by decide, by decide,
    ⟨by decide, by decide, ⟨rfl, .topEdge, by decide⟩, ⟨_, rfl⟩, by decide, ⟨rfl, .topEdge, by decide⟩⟩,
    ⟨by decide, by decide, ⟨_, rfl⟩⟩, ?_⟩
  decide

/-- R155 and R178: TAKEN, LOCAL, ALARM_LISTED and NOT_NOW. -/
theorem test_remoteRun :
    ((after (.remoteRun true false) (asking 6 [1] (st .stopped))).alarm.run,
      (after (.remoteRun true false) (asking 6 [1] (st .stopped))).link.tx.map Frame.payload) = (.running, [[2, 1, 1]]) ∧
    ((after (.remoteRun true false) (asking 6 [1] (withLocal (st .stopped)))).link.tx.map Frame.payload,
      (after (.remoteRun true false) (asking 6 [1] (st .alarm))).link.tx.map Frame.payload) = ([[2, 1, 2]], [[2, 1, 3]]) := by decide
theorem test_remoteStop :
    ((after .remoteStop (asking 6 [2] (st .running))).alarm.run,
      (after .remoteStop (asking 6 [2] (st .alarm))).link.tx.map Frame.payload) = (.stopped, [[2, 2, 4]]) := by decide
theorem test_remoteClear :
    ((after .remoteClear (asking 6 [3] broken)).alarm.run, (after .remoteClear (asking 6 [3] broken)).link.tx.map Frame.payload) =
      (.stopped, [[2, 3, 1]]) := by decide
theorem test_remoteOther :
    ((after .remoteOther (asking 6 [9] (st .running))).link.tx.map Frame.payload) = [[2, 9, 4]] := by decide

end Sys2Proof.Tests
end

section
/-!
# Component verification: the windows and the verdicts (R25 to R29)

The ceiling of the model is Mathlib's, so a bound on a window's upper code is a product, as the floor makes one of a bound
on its lower code. The verdicts are read off the branches of each classification in order: every branch settles all
verdicts at once, its own and those it rules out.
-/
namespace Sys2Proof.Machine

/-! ## The window of a RES measurement (R25) -/

theorem ceilDiv_le_iff {a b c : Nat} (hb : 0 < b) : ceilDiv a b ≤ c ↔ a ≤ c * b := by
  rw [show ceilDiv a b = a ⌈/⌉ b from (Nat.ceilDiv_eq_add_pred_div a b).symm, ceilDiv_le_iff_le_mul hb, Nat.mul_comm]

theorem lt_ceilDiv_iff {a b c : Nat} (hb : 0 < b) : c < ceilDiv a b ↔ c * b < a := by
  rw [← not_le, ceilDiv_le_iff hb, not_le]

theorem pred_ceilDiv_mul_lt {a b : Nat} (ha : 0 < a) (hb : 0 < b) : (ceilDiv a b - 1) * b < a := by
  have hpos : 0 < ceilDiv a b := (lt_ceilDiv_iff hb).2 (by simpa using ha)
  exact (lt_ceilDiv_iff hb).1 (Nat.sub_one_lt hpos.ne')

/-- The code of a part rises with its value, so the floor for a smaller part is at most the ceiling for a larger one. -/
theorem dividerFloor_le_dividerCeil {x y : Nat} (hxy : x ≤ y) :
    4095 * x / (x + 3000) ≤ ceilDiv (4095 * y) (y + 3000) := by
  set q := 4095 * x / (x + 3000)
  have hfloor : q * (x + 3000) ≤ 4095 * x := Nat.div_mul_le_self _ _
  have htop : q ≤ 4095 := Nat.div_le_of_le_mul (by omega)
  have hraised : q * (y + 3000) ≤ 4095 * y := by
    obtain ⟨d, rfl⟩ := Nat.exists_eq_add_of_le hxy
    calc q * (x + d + 3000) = q * (x + 3000) + q * d := by ring
      _ ≤ 4095 * x + 4095 * d := Nat.add_le_add hfloor (Nat.mul_le_mul_right d htop)
      _ = 4095 * (x + d) := by ring
  have hceil : 4095 * y ≤ ceilDiv (4095 * y) (y + 3000) * (y + 3000) := (ceilDiv_le_iff (by omega)).1 le_rfl
  exact Nat.le_of_mul_le_mul_right (hraised.trans hceil) (by omega)

theorem codeLo_floor (m t : Nat) :
    codeLo m t * (m * (100 - t) + 3000) ≤ 4095 * (m * (100 - t)) ∧
      4095 * (m * (100 - t)) < (codeLo m t + 1) * (m * (100 - t) + 3000) :=
  ⟨Nat.div_mul_le_self _ _, Nat.lt_mul_of_div_lt (Nat.lt_succ_self _) (by omega)⟩

theorem codeHi_ceil {m : Nat} (hm : 0 < m) (t : Nat) :
    4095 * (m * (100 + t)) ≤ codeHi m t * (m * (100 + t) + 3000) ∧
      (codeHi m t - 1) * (m * (100 + t) + 3000) < 4095 * (m * (100 + t)) :=
  ⟨(ceilDiv_le_iff (by omega)).1 le_rfl, pred_ceilDiv_mul_lt (by positivity) (by omega)⟩

theorem le_codeLo {m t : Nat} (hm : 10 ≤ m) (ht : t ≤ 20) : 862 ≤ codeLo m t := by
  have hleast : 10 * 80 ≤ m * (100 - t) := Nat.mul_le_mul hm (by omega)
  exact (Nat.le_div_iff_mul_le (by omega)).2 (by omega)

theorem codeHi_le {m t : Nat} (hm : m ≤ 99) (ht : t ≤ 20) : codeHi m t ≤ 3270 := by
  have hmost : m * (100 + t) ≤ 99 * 120 := Nat.mul_le_mul hm (by omega)
  exact (ceilDiv_le_iff (by omega)).2 (by omega)

theorem codeLo_le_codeHi (m t : Nat) : codeLo m t ≤ codeHi m t :=
  dividerFloor_le_dividerCeil (Nat.mul_le_mul_left m (by omega))

/-! ## The window a measurement holds (R25, R27) and the classification it goes to (R26, R27) -/

theorem windowOf_res (h : Header) {r : Record} (hr : r.kind = .res) :
    windowOf h r = some (codeLo r.m (tolerancePercent r.tol), codeHi r.m (tolerancePercent r.tol)) := by
  rw [windowOf, hr]

theorem windowOf_jumper (h : Header) {r : Record} (hr : r.kind = .jumper) : windowOf h r = some (0, h.jumperMax) := by
  rw [windowOf, hr]

theorem classifySingle_res {u : Setup} {lo hi : Nat} (c : Nat) (hw : u.window = some (lo, hi)) (hu : u.kind = .res) :
    classifySingle u c = classifyRes lo hi c := by
  rw [classifySingle, hu, hw]; rfl

theorem classifySingle_jumper {u : Setup} {lo hi : Nat} (c : Nat) (hw : u.window = some (lo, hi))
    (hu : u.kind = .jumper) : classifySingle u c = classifyJumper hi c := by
  rw [classifySingle, hu, hw]; rfl

/-! ## The verdicts (R26, R27, R29) -/

theorem classifyRes_iff {lo hi : Nat} (c : Nat) (hlo : 5 < lo) (hle : lo ≤ hi) (hhi : hi < 4090) :
    (classifyRes lo hi c = .short ↔ c ≤ 5) ∧ (classifyRes lo hi c = .openCircuit ↔ 4090 ≤ c) ∧
    (classifyRes lo hi c = .failLow ↔ 5 < c ∧ c < lo) ∧ (classifyRes lo hi c = .failHigh ↔ hi < c ∧ c < 4090) ∧
    (classifyRes lo hi c = .pass ↔ lo ≤ c ∧ c ≤ hi) := by
  unfold classifyRes
  split_ifs with short openCircuit below above <;> simp only [true_iff, false_iff] <;> omega

theorem classifyJumper_iff {hi : Nat} (c : Nat) (hhi : hi < 4090) :
    (classifyJumper hi c = .openCircuit ↔ 4090 ≤ c) ∧ (classifyJumper hi c = .pass ↔ c ≤ hi) ∧
    (classifyJumper hi c = .failHigh ↔ hi < c ∧ c < 4090) := by
  unfold classifyJumper
  split_ifs with openCircuit inWindow <;> simp only [true_iff, false_iff] <;> omega

/-- Since the window lies from 6 to 4089, an open code and a short are both out of it, and an open code is above it: this
is why a code that comes to one of R29's later tests meets no earlier one. -/
theorem classifyDiode_iff {lo hi : Nat} (f r : Nat) (hlo : 6 ≤ lo) (hle : lo ≤ hi) (hhi : hi ≤ 4089) :
    (classifyDiode lo hi f r = .short ↔ f ≤ 5 ∨ r ≤ 5) ∧
    (classifyDiode lo hi f r = .openCircuit ↔ 4090 ≤ f ∧ 4090 ≤ r) ∧
    (classifyDiode lo hi f r = .pass ↔ lo ≤ f ∧ f ≤ hi ∧ 4090 ≤ r) ∧
    (classifyDiode lo hi f r = .reversed ↔ 4090 ≤ f ∧ lo ≤ r ∧ r ≤ hi) ∧
    (classifyDiode lo hi f r = .failLow ↔ 5 < f ∧ 5 < r ∧ (f < lo ∨ f ≤ hi ∧ r < 4090)) ∧
    (classifyDiode lo hi f r = .failHigh ↔ 5 < r ∧ hi < f ∧ ¬(4090 ≤ f ∧ (4090 ≤ r ∨ lo ≤ r ∧ r ≤ hi))) := by
  unfold classifyDiode
  split_ifs with short bothOpen passes reversed below above <;> simp only [true_iff, false_iff] <;> omega

/-- Settles O16: R25's window from its floor and ceiling, and the verdicts of R26, R27 and R29 from their tests. -/
theorem verdictsFollowTheTests : Obligations.VerdictsFollowTheTests := by
  refine ⟨fun m t hm10 hm99 ht => ?window, fun h _ => windowOf_res h, fun h _ => windowOf_jumper h, rfl,
    fun _ _ _ c hw => ⟨classifySingle_res c hw, classifySingle_jumper c hw⟩,
    fun _ _ c => classifyRes_iff c, fun _ c => classifyJumper_iff c, fun _ _ f r => classifyDiode_iff f r⟩
  have ht20 : t ≤ 20 := by
    have hall : ∀ x ∈ [0, 1, 2, 5, 10, 20], x ≤ 20 := by decide
    exact hall t ht
  obtain ⟨hfloor, hfloorNext⟩ := codeLo_floor m t
  obtain ⟨hceil, hceilPrev⟩ := codeHi_ceil (by omega : 0 < m) t
  exact ⟨hfloor, hfloorNext, hceil, hceilPrev, le_codeLo hm10 ht20, codeLo_le_codeHi m t, codeHi_le hm99 ht20⟩

end Sys2Proof.Machine
end

section
/-!
# CLEAR (R57, R58, R139, R153)

CLEAR reaches three units in turn. Each part below says once what one unit makes of it: the alarm unit's state is the
cleared one with the run state of `State.clearedRun`; a break is recovered with the reader rewound to one of two points;
a hand-off in doubt ends. The alarm unit's part leaves alone all that the tape unit's part reads.
-/

/-! ## The alarm unit's part (R153) -/

namespace Sys2Proof.Machine

theorem Alarm.monitor_cleared (a : Alarm) (settings : MonitorId → MonitorSettings) (m : MonitorId) :
    (a.cleared settings).monitor m = (a.monitor m).cleared (settings m) := by
  cases m <;> rfl

theorem Alarm.monitor_withRun (a : Alarm) (r : RunState) (m : MonitorId) :
    ({ a with run := r } : Alarm).monitor m = a.monitor m := by
  cases m <;> rfl

@[simp] theorem Alarm.cleared_run (a : Alarm) (settings : MonitorId → MonitorSettings) :
    (a.cleared settings).run = a.run := rfl

/-- A CLEAR leaves a stop entry in the list exactly when one of those listed persists. -/
theorem Alarm.stopListed_cleared (a : Alarm) (settings : MonitorId → MonitorSettings) :
    (a.cleared settings).stopListed = true ↔ ∃ e ∈ a.list, e.stop = true ∧ e.persists = true := by
  simp [Alarm.stopListed, Alarm.cleared, and_comm]

namespace State

theorem setRun_alarm (s : State) (r : RunState) : (s.setRun r).alarm = { s.alarm with run := r } := by
  unfold State.setRun
  split_ifs with same leavesRunning
  · rw [← same]
  · rfl
  · rfl

theorem setRun_inFlight (s : State) (r : RunState) : (s.setRun r).inFlight = s.inFlight := by
  have phase : (s.setRun r).head.phase = s.head.phase := by
    rw [setRun_head]; unfold State.headAfter; split <;> rfl
  simp only [State.inFlight, setRun_frame, phase]

/-- STOPPING stays while something is in flight, and is STOPPED at once at rest (R144). -/
theorem endIfQuiet_alarm_of_stopping {s : State} (h : s.alarm.run = .stopping) :
    s.endIfQuiet.alarm = { s.alarm with run := if s.inFlight then .stopping else .stopped } := by
  unfold State.endIfQuiet
  cases hf : s.inFlight
  · simp [h, setRun_alarm]
  · simp [← h]

theorem endIfQuiet_head_of_not_running {s : State} (h : s.alarm.run ≠ .running) : s.endIfQuiet.head = s.head := by
  unfold State.endIfQuiet
  split
  · rw [setRun_head, State.headAfter, if_neg fun hr => h hr.1]
  · rfl

/-- The run state after a CLEAR (R153 steps 3 and 4). -/
def clearedRun (s : State) : RunState :=
  if s.alarm.run = .alarm ∧ (s.alarm.cleared s.settings).stopListed = false then
    if s.inFlight then .stopping else .stopped
  else s.alarm.run

theorem clearedRun_of_not_ended {s : State}
    (h : s.alarm.run ≠ .alarm ∨ ∃ e ∈ s.alarm.list, e.stop = true ∧ e.persists = true) :
    s.clearedRun = s.alarm.run := by
  refine if_neg fun ⟨inAlarm, noStop⟩ => ?_
  rcases h with notAlarm | persisting
  · exact notAlarm inAlarm
  · simp [(Alarm.stopListed_cleared s.alarm s.settings).2 persisting] at noStop

theorem clearedRun_of_ended {s : State} (hrun : s.alarm.run = .alarm)
    (hgone : ∀ e ∈ s.alarm.list, e.stop = true → e.persists = false) :
    s.clearedRun = if s.inFlight then .stopping else .stopped := by
  refine if_pos ⟨hrun, Bool.eq_false_iff.2 fun listed => ?_⟩
  obtain ⟨e, he, stop, persists⟩ := (Alarm.stopListed_cleared _ _).1 listed
  simp [hgone e he stop] at persists

theorem clearedRun_eq_running {s : State} (h : s.alarm.run = .running) : s.clearedRun = .running :=
  (clearedRun_of_not_ended (.inl (by simp [h]))).trans h

theorem clearAlarms_eq (s : State) :
    s.clearAlarms =
      if s.alarm.run = .alarm ∧ (s.alarm.cleared s.settings).stopListed = false then
        ((s.modAlarm fun a => a.cleared s.settings).setRun .stopping).endIfQuiet
      else s.modAlarm fun a => a.cleared s.settings := rfl

theorem clearAlarms_alarm (s : State) :
    s.clearAlarms.alarm = { s.alarm.cleared s.settings with run := s.clearedRun } := by
  rw [clearAlarms_eq, State.clearedRun]
  split
  · rw [endIfQuiet_alarm_of_stopping (setRun_run _ _), setRun_alarm, setRun_inFlight]; rfl
  · rfl

/-- A CLEAR never leaves RUNNING, so the last cycle start stays (R100). -/
theorem clearAlarms_head (s : State) : s.clearAlarms.head = s.head := by
  rw [clearAlarms_eq]
  split
  next ended =>
    rw [endIfQuiet_head_of_not_running (by simp), setRun_head, State.headAfter, if_neg (by simp [ended.1])]
    rfl
  next => rfl

/-! ## The tape unit's part (R57, R58) -/

theorem issueRead_of_read {s : State} {d : Read} (h : s.reader.read = some d) : s.issueRead = s := by
  simp [State.issueRead, h]

theorem issueRead_buffer (s : State) : s.issueRead.reader.buffer = s.reader.buffer := by
  unfold State.issueRead; split <;> rfl

theorem issueRead_reader_of_idle {s : State} (hphase : s.reader.phase = .walking) (hbuffer : s.reader.buffer = [])
    (hread : s.reader.read = none) :
    s.issueRead.reader = { s.reader with
      read := some ⟨stepAddr s.reader.rows s.reader.cursor, 4, some s.reader.cursor, false⟩
      cursor := s.reader.cursor.next s.reader.rows } := by
  simp [State.issueRead, hphase, hbuffer, hread, Config.bufferRoom]

/-- A rewind puts the reader at its point (R20): with a read in flight no other is issued, with none the point's own. -/
theorem rewind_rewound (s : State) (lap : Lap) (k : Nat) : s.reader.Rewound (s.rewind lap k).reader lap k := by
  refine ⟨issueRead_buffer _, fun d inFlight => ?_, fun idle walking c hc => ?_⟩
  · unfold State.rewind
    rw [issueRead_of_read (d := { d with discarded := true }) (by simp [inFlight])]
    simp [inFlight]
  · unfold State.rewind
    rw [issueRead_reader_of_idle (by simpa using walking) rfl (by simp [idle]), hc]
    rfl

theorem abandon_verifier_phase (s : State) : s.abandon.verifier.phase = .idle := by
  unfold State.abandon
  split
  · assumption
  · rfl

/-- The check of the flush marker touches the marker alone (R53). -/
theorem checkFlush_queue_fault (s : State) :
    s.checkFlush.tape.queue = s.tape.queue ∧ s.checkFlush.tape.fault = s.tape.fault := by
  unfold State.checkFlush; (repeat' split) <;> exact ⟨rfl, rfl⟩

/-- The entries that a tape-break recovery discards: all but one under a stroke (R58). -/
def breakDiscards (s : State) : List Entry := if s.head.phase.stroking then s.tape.queue.drop 1 else s.tape.queue

/-- The first point of R58: the oldest entry discarded is fed again. -/
theorem recoverTape_reader_of_discard {s : State} {e : Entry} {rest : List Entry} (h : s.breakDiscards = e :: rest) :
    s.reader.Rewound s.recoverTape.reader e.record.lap e.record.ordinal := by
  unfold State.breakDiscards at h
  unfold State.recoverTape
  simp only [h, checkFlush_frame, modTape_reader]
  simpa using rewind_rewound (s.abandon.modTape _) e.record.lap e.record.ordinal

/-- The second point of R58: nothing is discarded, and the oldest buffered record is read again. -/
theorem recoverTape_reader_of_buffer {s : State} {r : Record} {rest : List Record} (h : s.breakDiscards = [])
    (hbuffer : s.reader.buffer = r :: rest) : s.reader.Rewound s.recoverTape.reader r.lap r.ordinal := by
  unfold State.breakDiscards at h
  unfold State.recoverTape
  simp only [h, hbuffer, checkFlush_frame, modTape_reader]
  simpa using rewind_rewound (s.abandon.modTape _) r.lap r.ordinal

theorem recoverTape_reader_of_nothing {s : State} (h : s.breakDiscards = []) (hbuffer : s.reader.buffer = []) :
    s.recoverTape.reader = s.reader := by
  unfold State.breakDiscards at h
  unfold State.recoverTape
  simp only [h, hbuffer, checkFlush_frame, modTape_reader, abandon_frame]

/-- Wherever the reader goes, the recovery empties the queue but for an entry under a stroke, ends the fault and leaves
the verifier IDLE. -/
theorem recoverTape_tape (s : State) :
    s.recoverTape.tape.fault = .none ∧ s.recoverTape.verifier.phase = .idle ∧
      s.recoverTape.tape.queue = if s.head.phase.stroking then s.tape.queue.take 1 else [] := by
  unfold State.recoverTape
  dsimp only
  split <;> simp [checkFlush_queue_fault, abandon_verifier_phase]

theorem clearTape_of_sound_or_tbrk {s : State} (h : s.tape.fault = .none ∨ s.lines.tbrk = true) : s.clearTape = s := by
  unfold State.clearTape
  rcases h with sound | tbrk
  · simp [sound]
  · simp [tbrk]

theorem clearTape_of_jammed {s : State} (hfault : s.tape.fault = .jammed) (htbrk : s.lines.tbrk = false) :
    s.clearTape = s.modTape fun t => { t with fault := .none } := by
  simp [State.clearTape, hfault, htbrk]

theorem clearTape_of_broken {s : State} (hfault : s.tape.fault = .broken) (htbrk : s.lines.tbrk = false) :
    s.clearTape = s.recoverTape := by
  simp [State.clearTape, hfault, htbrk]

end State

/-! ## The traveller unit's part (R139) -/

theorem Trav.cleared_of_in_doubt {t : Trav} (h : t.phase = .expired ∨ t.phase = .lost) :
    t.cleared = { t with release := none, phase := .none } := by
  unfold Trav.cleared
  rcases h with expired | lost
  · rw [expired]
  · rw [lost]

theorem Trav.cleared_of_not_in_doubt {t : Trav} (h : t.phase ≠ .expired ∧ t.phase ≠ .lost) : t.cleared = t := by
  unfold Trav.cleared
  split
  · exact absurd ‹_› h.1
  · exact absurd ‹_› h.2
  · rfl

/-! ## The three together -/

namespace State

theorem exec_clear_of_live {s : State} (h : s.alarm.run ≠ .configFault) :
    exec .clear s = .next (s.settle s.pressClear) :=
  if_pos (by simpa [State.live] using h)

theorem exec_clear_of_configFault {s : State} (h : s.alarm.run = .configFault) : exec .clear s = .next s :=
  if_neg (by simp [State.live, h])

theorem pressClear_alarm (s : State) :
    s.pressClear.alarm = { s.alarm.cleared s.settings with run := s.clearedRun } := by
  simp [State.pressClear, clearAlarms_alarm]

theorem pressClear_head (s : State) : s.pressClear.head = s.headAfter s.clearedRun := by
  have kept : s.headAfter s.clearedRun = s.head := if_neg fun ⟨running, left⟩ => left (clearedRun_eq_running running)
  simp [State.pressClear, clearAlarms_head, kept]

theorem pressClear_trav (s : State) : s.pressClear.trav = s.trav.cleared := by
  simp [State.pressClear]

/-- What the tape unit's part reads, the alarm unit's part has left as it was. -/
theorem clearAlarms_breakDiscards (s : State) : s.clearAlarms.breakDiscards = s.breakDiscards := by
  simp [State.breakDiscards, clearAlarms_head]

theorem pressClear_tape_of_sound_or_tbrk {s : State} (h : s.tape.fault = .none ∨ s.lines.tbrk = true) :
    s.pressClear.tape = s.tape ∧ s.pressClear.reader = s.reader ∧ s.pressClear.verifier = s.verifier := by
  simp [State.pressClear, clearTape_of_sound_or_tbrk (s := s.clearAlarms) (by simpa using h)]

theorem pressClear_tape_of_jammed {s : State} (hfault : s.tape.fault = .jammed) (htbrk : s.lines.tbrk = false) :
    s.pressClear.tape = { s.tape with fault := .none } ∧ s.pressClear.reader = s.reader ∧
      s.pressClear.verifier = s.verifier := by
  simp [State.pressClear, clearTape_of_jammed (s := s.clearAlarms) (by simpa using hfault) (by simpa using htbrk)]

theorem pressClear_tape_of_broken {s : State} (hfault : s.tape.fault = .broken) (htbrk : s.lines.tbrk = false) :
    s.pressClear.tape.fault = .none ∧ s.pressClear.verifier.phase = .idle ∧
    s.pressClear.tape.queue = (if s.head.phase.stroking then s.tape.queue.take 1 else []) ∧
    (∀ e rest, s.breakDiscards = e :: rest → s.reader.Rewound s.pressClear.reader e.record.lap e.record.ordinal) ∧
    (∀ r rest, s.breakDiscards = [] → s.reader.buffer = r :: rest →
      s.reader.Rewound s.pressClear.reader r.lap r.ordinal) ∧
    (s.breakDiscards = [] → s.reader.buffer = [] → s.pressClear.reader = s.reader) := by
  have recovered : s.pressClear = s.clearAlarms.recoverTape.modTrav Trav.cleared := by
    rw [State.pressClear, clearTape_of_broken (by simpa using hfault) (by simpa using htbrk)]
  have reader : s.clearAlarms.reader = s.reader := by simp
  have tape := recoverTape_tape s.clearAlarms
  simp only [clearAlarms_frame, clearAlarms_head] at tape
  obtain ⟨fault, phase, queue⟩ := tape
  rw [← clearAlarms_breakDiscards, ← reader, recovered]
  exact ⟨fault, phase, queue, fun _ _ => recoverTape_reader_of_discard, fun _ _ => recoverTape_reader_of_buffer,
    recoverTape_reader_of_nothing⟩

end State

/-- Settles O49: the parts of the alarm, tape and traveller units, each by its own lemmas. -/
theorem clearRemovesWhatDoesNotPersist : Obligations.ClearRemovesWhatDoesNotPersist := by
  refine fun s => ⟨State.exec_clear_of_configFault, fun live => ⟨_, State.exec_clear_of_live live, ?_⟩⟩
  simp only [State.KeepsBut, State.settle_frame, State.pressClear_frame, State.pressClear_alarm,
    State.pressClear_head, State.pressClear_trav]
  refine ⟨rfl, rfl, rfl, fun m => ?monitor, State.clearedRun_of_not_ended, State.clearedRun_of_ended,
    State.pressClear_tape_of_sound_or_tbrk, State.pressClear_tape_of_jammed, State.pressClear_tape_of_broken,
    Trav.cleared_of_in_doubt, Trav.cleared_of_not_in_doubt, ?frame⟩
  case monitor =>
    rw [Alarm.monitor_withRun, Alarm.monitor_cleared]
    exact ⟨rfl, rfl, rfl, rfl⟩
  case frame => simp

end Sys2Proof.Machine
end

section
/-!
# PURGE (R46, R47, R52, R53, R122, R154)

The one part of a PURGE that is more than an update of its block is the flush that it arms for the lap of a WORKING board.
What arming leaves is read off the queue's oldest entry: every entry of the lap loses its decision unless attempted, the
marker stays when the oldest entry is of the lap, and that entry alone is decided anew, PASS_FLUSH once its verdict is
final.
-/
namespace Sys2Proof.Machine

/-! ## Arming a lap flush (R46, R47, R52, R53) -/

/-- An entry as a flush armed for lap `l` leaves it (R52): one of the lap loses its decision unless attempted. -/
def Entry.undecidedFor (l : Lap) (e : Entry) : Entry :=
  if e.record.lap = l ∧ e.attempted = false then { e with decision := none } else e

@[simp] theorem Entry.undecidedFor_frame (l : Lap) (e : Entry) :
    (e.undecidedFor l).record = e.record ∧ (e.undecidedFor l).verdict = e.verdict ∧
    (e.undecidedFor l).codes = e.codes ∧ (e.undecidedFor l).attempted = e.attempted := by
  unfold Entry.undecidedFor; split <;> simp

theorem Entry.undecidedFor_decision {e : Entry} {l : Lap} (hlap : e.record.lap = l) (hfree : e.attempted = false) :
    (e.undecidedFor l).decision = none := by
  rw [Entry.undecidedFor, if_pos ⟨hlap, hfree⟩]

namespace State

/-- The decision of the oldest entry `e` after the bookkeeping on it (R46, R47). -/
def decisionAfter (s : State) (e : Entry) : Option Decision :=
  if s.mayDecide e then
    some (decisionOf s.options (s.tape.flush == some e.record.lap) ((s.workingBoard.map Board.mask).getD 0) e)
  else e.decision

theorem decideOldest_tape_nil {s : State} (h : s.tape.queue = []) : s.decideOldest.tape = s.tape := by
  simp [State.decideOldest, h]

theorem decideOldest_tape_cons {s : State} {e : Entry} {es : List Entry} (h : s.tape.queue = e :: es) :
    s.decideOldest.tape = { s.tape with queue := { e with decision := s.decisionAfter e } :: es } := by
  simp only [State.decideOldest, State.decisionAfter, h]
  split
  · rfl
  · rw [← h]

/-- An entry that the flush marker names needs no board to be decided (R46), and is to be passed (R47). -/
theorem decisionAfter_of_flush {s : State} {e : Entry} (hflush : s.tape.flush = some e.record.lap)
    (hopen : e.decision = none) (hfree : e.attempted = false) :
    s.decisionAfter e = if e.verdict = .pending then none else some .passFlush := by
  simp [State.decisionAfter, State.mayDecide, decisionOf, hflush, hopen, hfree]

theorem checkFlush_tape_nil {s : State} (h : s.tape.queue = []) : s.checkFlush.tape = s.tape := by
  unfold State.checkFlush
  rw [h]
  split
  · contradiction
  · rfl

/-- The marker survives its check exactly when it names the oldest entry's lap (R53). -/
theorem checkFlush_tape_cons {s : State} {e : Entry} {es : List Entry} {l : Lap} (h : s.tape.queue = e :: es)
    (hflush : s.tape.flush = some l) :
    s.checkFlush.tape = { s.tape with flush := if e.record.lap = l then some l else none } := by
  simp only [State.checkFlush, h, hflush]
  split
  · rw [← h, ← hflush]
  · rw [← h]; rfl

/-- The marker set and the lap's entries undecided, before the marker is checked and the oldest entry decided (R52). -/
def markFlush (s : State) (l : Lap) : State :=
  s.modTape fun t => { t with flush := some l, queue := t.queue.map (Entry.undecidedFor l) }

theorem armFlush_eq (s : State) (l : Lap) : s.armFlush l = (s.markFlush l).checkFlush.decideOldest := rfl

theorem armFlush_tape_nil {s : State} (l : Lap) (h : s.tape.queue = []) :
    (s.armFlush l).tape = { s.tape with flush := some l } := by
  have queue : (s.markFlush l).tape.queue = [] := by simp [State.markFlush, h]
  rw [armFlush_eq, decideOldest_tape_nil ((checkFlush_queue_fault _).1.trans queue), checkFlush_tape_nil queue]
  simp [State.markFlush, h]

/-- With entry `e` the oldest, `d` is what it is decided; for an entry of another lap it is left open here. -/
theorem armFlush_tape_cons {s : State} {e : Entry} {es : List Entry} (l : Lap) (h : s.tape.queue = e :: es) :
    ∃ d, (s.armFlush l).tape = { s.tape with
        flush := if e.record.lap = l then some l else none
        queue := { e with decision := d } :: es.map (Entry.undecidedFor l) } ∧
      (e.record.lap = l → e.attempted = false → d = if e.verdict = .pending then none else some .passFlush) := by
  have queue : (s.markFlush l).tape.queue = e.undecidedFor l :: es.map (Entry.undecidedFor l) := by
    simp [State.markFlush, h]
  have checked := checkFlush_tape_cons queue (l := l) rfl
  have decided := decideOldest_tape_cons ((checkFlush_queue_fault _).1.trans queue)
  refine ⟨(s.markFlush l).checkFlush.decisionAfter (e.undecidedFor l), ?tape, fun hlap hfree => ?decision⟩
  case tape =>
    rw [armFlush_eq, decided, checked]
    simp [State.markFlush]
  case decision =>
    have marked : (s.markFlush l).checkFlush.tape.flush = some (e.undecidedFor l).record.lap := by
      simp [checked, hlap]
    have hopen := Entry.undecidedFor_decision hlap hfree
    simpa using decisionAfter_of_flush marked hopen (by simpa using hfree)

/-! ## The blocks of a PURGE (R122, R154) -/

theorem exec_purge_of_removable {s : State}
    (h : (s.alarm.run = .stopped ∨ s.alarm.run = .alarm) ∧ s.work.state ≠ .empty) :
    exec .purge s = .next (s.settle s.purgeBoard) := if_pos h

theorem exec_purge_of_ignored {s : State}
    (h : ¬((s.alarm.run = .stopped ∨ s.alarm.run = .alarm) ∧ s.work.state ≠ .empty)) :
    exec .purge s = .next s := if_neg h

theorem purgeBoard_work (s : State) : s.purgeBoard.work = s.work.purged := by
  unfold State.purgeBoard; (repeat' split) <;> simp

theorem purgeBoard_alarm (s : State) : s.purgeBoard.alarm = { s.alarm with rowHold := false } := by
  unfold State.purgeBoard; (repeat' split) <;> simp

theorem purgeBoard_table (s : State) :
    s.purgeBoard.table =
      { s.table with markRequest := if s.work.state = .scanning then none else s.table.markRequest } := by
  unfold State.purgeBoard; (repeat' split) <;> simp [*]

theorem purgeBoard_trav (s : State) :
    s.purgeBoard.trav = { s.trav with takeOpen := s.trav.takeOpen && decide (s.work.state ≠ .matching) } := by
  unfold State.purgeBoard; (repeat' split) <;> simp_all

theorem purgeBoard_tape_of_not_working {s : State} (h : s.work.state ≠ .working) : s.purgeBoard.tape = s.tape := by
  have noLap : s.workingBoard.bind Board.lap = none := by simp [State.workingBoard, h]
  unfold State.purgeBoard
  (repeat' split) <;> simp_all

theorem purgeBoard_tape_of_working {s : State} {b : Board} {l : Lap} (hstate : s.work.state = .working)
    (hboard : s.work.board = some b) (hlap : b.lap = some l) : s.purgeBoard.tape = (s.armFlush l).tape := by
  simp [State.purgeBoard, State.workingBoard, hstate, hboard, hlap]

end State

/-- Settles O39: PURGE block by block, the tape by what an armed flush makes of an empty queue and of one with an oldest
entry. -/
theorem purgeRemovesTheBoard : Obligations.PurgeRemovesTheBoard := by
  refine fun s => ⟨State.exec_purge_of_ignored, fun removable => ⟨_, State.exec_purge_of_removable removable, ?_⟩⟩
  simp only [State.KeepsBut, State.settle_frame, State.purgeBoard_frame, State.purgeBoard_work, State.purgeBoard_table,
    State.purgeBoard_trav, State.purgeBoard_alarm, Work.purged, true_and]
  refine ⟨?frame, State.purgeBoard_tape_of_not_working, fun b l working board lap => ?tape⟩
  case frame => simp [State.headAfter]
  case tape =>
    rw [State.purgeBoard_tape_of_working working board lap]
    cases queue : s.tape.queue with
    | nil =>
      rw [State.armFlush_tape_nil l queue]
      simp [queue]
    | cons e es =>
      obtain ⟨d, armed, decided⟩ := State.armFlush_tape_cons l queue
      rw [armed]
      refine ⟨rfl, ?fields, ?marker, ?rest, ?oldest⟩
      case fields => simp
      case marker => simp
      case rest =>
        intro x mem ofLap free
        obtain ⟨y, -, rfl⟩ := List.mem_map.1 mem
        exact Entry.undecidedFor_decision (by simpa using ofLap) (by simpa using free)
      case oldest =>
        rintro x ⟨⟩ ofLap free
        exact decided ofLap free

end Sys2Proof.Machine
end

section
/-!
# Travellers and hand-off: the stage list (R127)

`addStage` keeps at most the last `Config.stageRoom` stages. What it answers is said once per branch, with room and at
a full list; in both the new stage stands at the newest end, and the list is kept within its room.
-/

namespace Sys2Proof.Machine

/-! ## Adding a stage (R127) -/

theorem addStage_of_room {stages : List Stage} (dropped : Nat) (g : Stage) (room : stages.length < Config.stageRoom) :
    addStage stages dropped g = (stages ++ [g], dropped) := if_pos room

theorem addStage_of_full {stages : List Stage} (dropped : Nat) (g : Stage) (full : Config.stageRoom ≤ stages.length) :
    addStage stages dropped g = (stages.tail ++ [g], min 255 (dropped + 1)) := if_neg full.not_gt

theorem addStage_getLast? (stages : List Stage) (dropped : Nat) (g : Stage) :
    (addStage stages dropped g).1.getLast? = some g := by
  rcases lt_or_ge stages.length Config.stageRoom with room | full
  · rw [addStage_of_room dropped g room, List.getLast?_concat]
  · rw [addStage_of_full dropped g full, List.getLast?_concat]

/-- At a full list the oldest stage makes the place that the new one takes. -/
theorem addStage_length_le {stages : List Stage} (dropped : Nat) (g : Stage)
    (fits : stages.length ≤ Config.stageRoom) : (addStage stages dropped g).1.length ≤ Config.stageRoom := by
  rcases lt_or_ge stages.length Config.stageRoom with room | full
  · simpa [addStage_of_room dropped g room] using room
  · have nonempty : 0 < stages.length := Nat.lt_of_lt_of_le (by decide) full
    simp only [addStage_of_full dropped g full, List.length_append, List.length_tail, List.length_singleton]
    omega

/-- Settles O41: a list with room, a full one, and what both keep. -/
theorem aNewStageJoinsTheStageList : Obligations.ANewStageJoinsTheStageList :=
  fun stages dropped g =>
    ⟨addStage_of_room dropped g, addStage_of_full dropped g,
      fun fits => ⟨addStage_length_le dropped g fits, addStage_getLast? stages dropped g⟩⟩

end Sys2Proof.Machine
end

section
/-!
# The alarm list (R150, R151)

`Alarm.take` is said once per branch: a code listed already, one that joins below the room, and at a full list the
oldest entry without its stop bit displaced, or the raise dropped. A raise with its stop bit then changes the run state,
the hold reason and the homing target, and leaves the list and MORE as `Alarm.take` made them.
-/

namespace Sys2Proof.Machine

/-! ## The list after a raise (R150 steps 1 to 4) -/

namespace Alarm

variable {a : Alarm} {r : Raise} {stop : Bool}

theorem take_of_listed (listed : a.listed r.code = true) :
    a.take r stop = { a with list := a.list.map fun e =>
      if e.code = r.code then { e with count := min 255 (e.count + 1), persists := e.persists || r.active } else e } :=
  if_pos listed

theorem take_of_room (unlisted : a.listed r.code = false) (room : a.list.length < Config.alarmRoom) :
    a.take r stop = { a with list := a.list ++ [r.entry stop] } := by
  simp [Alarm.take, unlisted, room]

/-- Displaced or dropped, a raise at a full list sets MORE. -/
theorem take_more_of_full (unlisted : a.listed r.code = false) (full : Config.alarmRoom ≤ a.list.length) :
    (a.take r stop).more = true := by
  simp only [Alarm.take, unlisted, full.not_gt, if_false, Bool.false_eq_true]
  (repeat' split) <;> rfl

/-- A full list drops a raise without its stop bit, and any raise once every entry holds its own. -/
theorem take_of_full_dropping (unlisted : a.listed r.code = false) (full : Config.alarmRoom ≤ a.list.length)
    (dropped : stop = false ∨ ∀ e ∈ a.list, e.stop = true) : a.take r stop = { a with more := true } := by
  rcases dropped with noStop | allStop
  · simp [Alarm.take, unlisted, full.not_gt, noStop]
  · have notFound : (a.list.findIdx? fun e => !e.stop) = none := by simpa using allStop
    simp [Alarm.take, unlisted, full.not_gt, notFound]

/-- The search of R150 step 4 finds the oldest entry without its stop bit. -/
theorem findIdx?_oldest_without_stop {older newer : List AlarmEntry} {e : AlarmEntry} (noStop : e.stop = false)
    (stops : ∀ x ∈ older, x.stop = true) :
    ((older ++ e :: newer).findIdx? fun x => !x.stop) = some older.length := by
  have skipped : (older.findIdx? fun x => !x.stop) = none := by simpa using stops
  simp [List.findIdx?_append, skipped, List.findIdx?_cons, noStop]

theorem take_of_full_displacing {older newer : List AlarmEntry} {e : AlarmEntry} (unlisted : a.listed r.code = false)
    (full : Config.alarmRoom ≤ a.list.length) (list : a.list = older ++ e :: newer) (noStop : e.stop = false)
    (stops : ∀ x ∈ older, x.stop = true) :
    a.take r true = { a with list := older ++ newer ++ [r.entry true], more := true } := by
  have found : (a.list.findIdx? fun x => !x.stop) = some older.length :=
    list ▸ findIdx?_oldest_without_stop noStop stops
  have erased : a.list.eraseIdx older.length = older ++ newer := by
    simp [list, List.eraseIdx_append_of_length_le]
  simp [Alarm.take, unlisted, full.not_gt, found, erased]

@[simp] theorem take_run : (a.take r stop).run = a.run := by
  unfold Alarm.take; (repeat' split) <;> rfl

end Alarm

/-! ## The alarm unit after a raise (R143, R150) -/

namespace State

theorem raise_of_configFault {s : State} {r : Raise} (h : s.alarm.run = .configFault) : s.raise r = s :=
  if_neg (by simp [State.live, h])

/-- A raise with its stop bit outside ALARM enters ALARM and clears the hold reason and the homing target; any other
only fills the list. -/
theorem raise_alarm {s : State} {r : Raise} (h : s.alarm.run ≠ .configFault) :
    (s.raise r).alarm =
      if s.stopBit r.code = true ∧ s.alarm.run ≠ .alarm then
        { s.alarm.take r (s.stopBit r.code) with run := .alarm, rowHold := false, homingTarget := none }
      else s.alarm.take r (s.stopBit r.code) := by
  have live : s.live = true := by simpa [State.live] using h
  simp only [State.raise, live, if_true, modAlarm_alarm, Alarm.take_run, Bool.and_eq_true, bne_iff_ne]
  split
  · rw [setRun_alarm, modAlarm_alarm, modAlarm_alarm]
  · rw [modAlarm_alarm]

/-- Entering ALARM leaves the list and MORE as the raise made them. -/
theorem raise_list_more {s : State} {r : Raise} (h : s.alarm.run ≠ .configFault) :
    (s.raise r).alarm.list = (s.alarm.take r (s.stopBit r.code)).list ∧
      (s.raise r).alarm.more = (s.alarm.take r (s.stopBit r.code)).more := by
  rw [raise_alarm h]
  split <;> exact ⟨rfl, rfl⟩

theorem raise_enters_alarm {s : State} {r : Raise} (h : s.alarm.run ≠ .configFault) (stop : s.stopBit r.code = true) :
    (s.raise r).alarm.run = .alarm ∧
      (s.alarm.run ≠ .alarm → (s.raise r).alarm.rowHold = false ∧ (s.raise r).alarm.homingTarget = none) := by
  by_cases inAlarm : s.alarm.run = .alarm
  · rw [raise_alarm h, if_neg fun outside => outside.2 inAlarm, Alarm.take_run]
    exact ⟨inAlarm, fun outside => absurd inAlarm outside⟩
  · rw [raise_alarm h, if_pos ⟨stop, inAlarm⟩]
    exact ⟨rfl, fun _ => ⟨rfl, rfl⟩⟩

theorem raise_run_of_no_stop {s : State} {r : Raise} (h : s.alarm.run ≠ .configFault)
    (noStop : s.stopBit r.code = false) : (s.raise r).alarm.run = s.alarm.run := by
  rw [raise_alarm h, if_neg (by simp [noStop]), Alarm.take_run]

/-! ## The stop bits (R151) -/

/-- The codes that always hold their stop bit. -/
theorem stopBit_of_fixed (s : State) {c : AlarmCode} (fixed : c ∈ [AlarmCode.homeFail, .tableLimit, .downJam,
    .clinchJam, .upJam, .tapeJam, .tapeBreak, .clampJam, .outJam]) : s.stopBit c = true := by
  simp only [List.mem_cons, List.not_mem_nil, or_false] at fixed
  rcases fixed with rfl | rfl | rfl | rfl | rfl | rfl | rfl | rfl | rfl <;> rfl

theorem stopBit_monitor (s : State) (m : MonitorId) : s.stopBit m.code = (s.settings m).stopEnable := by
  cases m <;> rfl

end State

/-- Settles O46: the list by the branches of `Alarm.take`, the run state by its stop bit, the stop bits by code. -/
theorem raisesFillTheAlarmList : Obligations.RaisesFillTheAlarmList := by
  refine fun s r => ⟨State.raise_of_configFault, fun live => ?raised, fun _ => s.stopBit_of_fixed, rfl, rfl, rfl, rfl,
    rfl, rfl, rfl, s.stopBit_monitor⟩
  case raised =>
    obtain ⟨list, more⟩ := State.raise_list_more (r := r) live
    rw [list, more]
    refine ⟨fun listed => ?listed, fun unlisted => ⟨fun room => ?room, fun full => ⟨?more, fun dropped => ?dropped,
      fun older e newer stop split noStop stops => ?displaced⟩⟩, State.raise_enters_alarm live,
      State.raise_run_of_no_stop live⟩
    case listed => rw [Alarm.take_of_listed listed]; exact ⟨rfl, rfl⟩
    case room => rw [Alarm.take_of_room unlisted room]; exact ⟨rfl, rfl⟩
    case more => exact Alarm.take_more_of_full unlisted full
    case dropped => rw [Alarm.take_of_full_dropping unlisted full dropped]
    case displaced =>
      rw [stop, Alarm.take_of_full_displacing unlisted full split noStop stops]
      rfl

end Sys2Proof.Machine
end

section
/-!
# The line link: bytes, characters and frames (R164 to R166)

The check byte adds to the sum of the bytes before it what that sum wants of a multiple of 256. Every frame's bytes have
one shape, the four bytes of its head, the payload and the check byte; its length, what it reads back as and where it is
complete are read off that shape.
-/

namespace Sys2Proof.Machine

/-! ## Values and sums of bytes (R166) -/

theorem le16_toNat {v : Nat} (fits : v ≤ 65535) :
    ∃ lo hi : Byte, le16 v = [lo, hi] ∧ lo.toNat = v % 256 ∧ hi.toNat = v / 256 := by
  have high : v / 256 < 2 ^ 8 := by omega
  exact ⟨_, _, rfl, BitVec.toNat_ofNat .., BitVec.toNat_ofNat .. |>.trans (Nat.mod_eq_of_lt high)⟩

theorem byte_toNat_of_lt {n : Nat} (fits : n < 256) : (byte n).toNat = n :=
  BitVec.toNat_ofNat .. |>.trans (Nat.mod_eq_of_lt fits)

theorem byteSum_concat (bs : List Byte) (b : Byte) : byteSum (bs ++ [b]) = byteSum bs + b.toNat :=
  List.foldl_append

theorem checkByte_toNat (sum : Nat) : (checkByte sum).toNat = (256 - sum % 256) % 256 := BitVec.toNat_ofNat ..

theorem byteSum_concat_checkByte (bs : List Byte) : byteSum (bs ++ [checkByte (byteSum bs)]) % 256 = 0 := by
  rw [byteSum_concat, checkByte_toNat]
  omega

/-! ## Characters (R164, R165) -/

theorem characterEnd_goodCharacterOf (b : Byte) : characterEnd (goodCharacterOf b) = .good := by
  simp [characterEnd, goodCharacterOf]

/-- A list of bits holds an odd number of 1s exactly when their exclusive or is 1. -/
theorem countP_id_mod_two (bits : List Bool) (start : Bool) :
    (start.toNat + bits.countP id) % 2 = (bits.foldl xor start).toNat := by
  induction bits generalizing start with
  | nil => cases start <;> rfl
  | cons bit rest ih =>
    rw [List.foldl_cons, ← ih (start ^^ bit), List.countP_cons]
    cases start <;> cases bit <;> simp <;> omega

/-- The exclusive or of the data bits is the parity bit sent after them, so all nine cancel. -/
theorem characterBits_even_parity (b : Byte) : (characterBits b).tail.dropLast.countP id % 2 = 0 := by
  have parity : (characterBits b).tail.dropLast.foldl xor false = (oddOnes b ^^ oddOnes b) := by
    simp [characterBits, oddOnes]
  simpa [parity] using countP_id_mod_two (characterBits b).tail.dropLast false

/-! ## The bytes of a frame (R166) -/

namespace Frame

theorem bytes_eq (f : Frame) : f.bytes = f.sender :: f.kind :: f.dest :: byte f.payload.length ::
    (f.payload ++ [checkByte (byteSum f.head)]) := rfl

@[simp] theorem bytes_length (f : Frame) : f.bytes.length = f.payload.length + 5 := by
  simp [bytes_eq]

end Frame

theorem frameOfBytes_bytes (f : Frame) : frameOfBytes f.bytes = some f := by
  rw [Frame.bytes_eq, frameOfBytes, List.dropLast_concat]

/-- Below four bytes the length byte has not come. -/
theorem frameComplete_of_length_lt_four {bytes : List Byte} (short : bytes.length < 4) :
    frameComplete bytes = false := by
  match bytes with
  | [] | [_] | [_, _] | [_, _, _] => rfl
  | _ :: _ :: _ :: _ :: _ => simp only [List.length_cons] at short; omega

theorem frameComplete_cons_iff (a b c n : Byte) (rest : List Byte) :
    frameComplete (a :: b :: c :: n :: rest) = true ↔ rest.length = n.toNat + 1 := by
  simp [frameComplete]

theorem frameComplete_take_bytes_iff {f : Frame} (fits : f.payload.length ≤ 200) {k : Nat}
    (part : k ≤ f.bytes.length) : frameComplete (f.bytes.take k) = true ↔ k = f.bytes.length := by
  rcases lt_or_ge k 4 with early | late
  · have short : (f.bytes.take k).length < 4 := (List.length_take_le k f.bytes).trans_lt early
    have unequal : k ≠ f.bytes.length := by rw [Frame.bytes_length]; omega
    exact iff_of_false (by simp [frameComplete_of_length_lt_four short]) unequal
  · obtain ⟨j, rfl⟩ := Nat.exists_eq_add_of_le' late
    rw [Frame.bytes_length] at part ⊢
    rw [Frame.bytes_eq]
    simp only [List.take_succ_cons, frameComplete_cons_iff, List.length_take, List.length_append, List.length_singleton,
      byte_toNat_of_lt (show f.payload.length < 256 by omega)]
    omega

/-- Settles O51: each part from the shape of the frame's bytes, and of each byte's character from the byte alone. -/
theorem framesReadBack : Obligations.FramesReadBack :=
  ⟨fun _ fits => le16_toNat fits, fun f fits =>
    ⟨⟨byte f.payload.length, checkByte (byteSum f.head), byte_toNat_of_lt (by omega), rfl⟩, f.bytes_length,
      byteSum_concat_checkByte f.head, frameOfBytes_bytes f, fun _ part => frameComplete_take_bytes_iff fits part,
      fun b _ => ⟨characterEnd_goodCharacterOf b, characterBits_even_parity b⟩⟩⟩

end Sys2Proof.Machine
end

section
/-!
# What every step keeps: the relation and the shared operations

`State.Kept s t` says that each invariant of the station that holds of `s` holds of `t`. It is reflexive and transitive,
so what a command keeps is put together from what its operations keep, each said once. An operation that changes one
block of the state owes only the invariants that read the block.
-/
namespace Sys2Proof.Machine

/-- The program data of a started station: the phase is WALKING, nothing of start-up reading is left, RESET is
released (R14). -/
def State.Walks (s : State) : Prop :=
  s.reader.phase = .walking ∧ s.reader.scan = .idle ∧ s.reader.straps.isSome = true

/-- The program data of a station stays (R14, R21). -/
def State.SameProgram (s t : State) : Prop :=
  t.hdr = s.hdr ∧ t.reader.rows = s.reader.rows ∧ t.reader.straps = s.reader.straps ∧
    t.reader.phase = s.reader.phase ∧ t.reader.scan = s.reader.scan

/-- Each invariant that holds of `s` holds of `t`, and a station past a valid start-up keeps its program data. -/
structure State.Kept (s t : State) : Prop where
  room : s.WithinRoom → t.WithinRoom
  depth : s.QueueWithinDepth → t.QueueWithinDepth
  buffer : s.BufferWithinRoom → t.BufferWithinRoom
  oldest : s.OnlyOldestDecided → t.OnlyOldestDecided
  misses : s.MissesCounted → t.MissesCounted
  timers : s.TimersFit → t.TimersFit
  work : s.WorkFits → t.WorkFits
  peers : s.PeersFit → t.PeersFit
  alarm : s.AlarmFitsList → t.AlarmFitsList
  rows : s.RowTableFits → t.RowTableFits
  program : s.Walks → s.SameProgram t

/-- The queues and the peer table are no part of the status slot. -/
theorem Link.queues_of_butSlot {l m : Link} (h : m.butSlot = l.butSlot) :
    m.rx = l.rx ∧ m.tx = l.tx ∧ m.peers = l.peers := by
  unfold Link.butSlot at h
  obtain ⟨rx, tx, peers⟩ : _ ∧ _ ∧ _ := ⟨congrArg Link.rx h, congrArg Link.tx h, congrArg Link.peers h⟩
  exact ⟨rx, tx, peers⟩

namespace State

theorem SameProgram.refl (s : State) : s.SameProgram s := ⟨rfl, rfl, rfl, rfl, rfl⟩

namespace Kept

theorem refl (s : State) : s.Kept s := ⟨id, id, id, id, id, id, id, id, id, id, fun _ => .refl s⟩

theorem trans {s t u : State} (h : s.Kept t) (k : t.Kept u) : s.Kept u where
  room := k.room ∘ h.room
  depth := k.depth ∘ h.depth
  buffer := k.buffer ∘ h.buffer
  oldest := k.oldest ∘ h.oldest
  misses := k.misses ∘ h.misses
  timers := k.timers ∘ h.timers
  work := k.work ∘ h.work
  peers := k.peers ∘ h.peers
  alarm := k.alarm ∘ h.alarm
  rows := k.rows ∘ h.rows
  program walks := by
    obtain ⟨hhdr, hrows, hstraps, hphase, hscan⟩ := h.program walks
    obtain ⟨khdr, krows, kstraps, kphase, kscan⟩ := k.program (by
      obtain ⟨phase, scan, straps⟩ := walks
      exact ⟨hphase.trans phase, hscan.trans scan, hstraps ▸ straps⟩)
    exact ⟨khdr.trans hhdr, krows.trans hrows, kstraps.trans hstraps, kphase.trans hphase, kscan.trans hscan⟩

/-! ## One block at a time -/

/-- No invariant reads the waiting commands, the clock, the lines, the outputs, the verifier, the table and the head. -/
theorem of_unread {s t : State} (hdr : t.hdr = s.hdr) (reader : t.reader = s.reader) (tape : t.tape = s.tape)
    (work : t.work = s.work) (trav : t.trav = s.trav) (alarm : t.alarm = s.alarm) (link : t.link = s.link) :
    s.Kept t := by
  obtain ⟨_, _, _, _, _, _, _, _, _, _, _, _, _, _⟩ := s
  obtain ⟨_, _, _, _, _, _, _, _, _, _, _, _, _, _⟩ := t
  subst hdr reader tape work trav alarm link
  exact ⟨id, id, id, id, id, id, id, id, id, id, fun _ => ⟨rfl, rfl, rfl, rfl, rfl⟩⟩

theorem modLines (s : State) (f : Lines → Lines) : s.Kept (s.modLines f) := of_unread rfl rfl rfl rfl rfl rfl rfl
theorem modVerifier (s : State) (f : Verifier → Verifier) : s.Kept (s.modVerifier f) :=
  of_unread rfl rfl rfl rfl rfl rfl rfl
theorem modTable (s : State) (f : Table → Table) : s.Kept (s.modTable f) := of_unread rfl rfl rfl rfl rfl rfl rfl
theorem modHead (s : State) (f : Head → Head) : s.Kept (s.modHead f) := of_unread rfl rfl rfl rfl rfl rfl rfl

/-- A change of the link unit: the room of its queues and the peer table (R163, R176). -/
theorem modLink {s : State} {f : Link → Link} (rx : s.link.rx.length ≤ 4 → (f s.link).rx.length ≤ 4)
    (tx : s.link.tx.length ≤ 4 → (f s.link).tx.length ≤ 4) (peers : s.PeersFit → (s.modLink f).PeersFit) :
    s.Kept (s.modLink f) where
  room h := ⟨h.1, rx h.2.1, tx h.2.2.1, h.2.2.2⟩
  depth := id
  buffer := id
  oldest := id
  misses := id
  timers := id
  work := id
  peers := peers
  alarm := id
  rows := id
  program _ := ⟨rfl, rfl, rfl, rfl, rfl⟩

/-- A change of the link unit that leaves its queues and its peer table alone. -/
theorem modLink_same {s : State} {f : Link → Link} (rx : (f s.link).rx = s.link.rx) (tx : (f s.link).tx = s.link.tx)
    (peers : (f s.link).peers = s.link.peers) : s.Kept (s.modLink f) :=
  modLink (by rw [rx]; exact id) (by rw [tx]; exact id) (by
    unfold State.PeersFit; rw [modLink_link, rx, peers]; exact id)

/-- A change of the traveller unit: the room of the arrival queue (R130) and the hand-off timer (R128). -/
theorem modTrav {s : State} {f : Trav → Trav} (room : s.trav.arrivals.length ≤ 3 → (f s.trav).arrivals.length ≤ 3)
    (timer : (s.trav.timer.isSome = true ↔ s.trav.phase = .timing) →
      ((f s.trav).timer.isSome = true ↔ (f s.trav).phase = .timing)) : s.Kept (s.modTrav f) where
  room h := ⟨h.1, h.2.1, h.2.2.1, room h.2.2.2⟩
  depth := id
  buffer := id
  oldest := id
  misses := id
  timers h := ⟨h.1, h.2.1, timer h.2.2⟩
  work := id
  peers := id
  alarm := id
  rows := id
  program _ := ⟨rfl, rfl, rfl, rfl, rfl⟩

/-- A change of the work-position unit (R105, R119). -/
theorem modWork {s : State} {f : Work → Work} (misses : s.MissesCounted → (s.modWork f).MissesCounted)
    (timer : s.work.opTimer.isSome = s.work.driving → (f s.work).opTimer.isSome = (f s.work).driving)
    (fits : s.WorkFits → (s.modWork f).WorkFits) : s.Kept (s.modWork f) where
  room := id
  depth := id
  buffer := id
  oldest := id
  misses := misses
  timers h := ⟨h.1, timer h.2.1, h.2.2⟩
  work := fits
  peers := id
  alarm := id
  rows := id
  program _ := ⟨rfl, rfl, rfl, rfl, rfl⟩

/-- A change of the work-position unit that leaves its state, its operation and its board record alone. -/
theorem modWork_same {s : State} {f : Work → Work} (state : (f s.work).state = s.work.state)
    (op : (f s.work).op = s.work.op) (timer : (f s.work).opTimer.isSome = s.work.opTimer.isSome)
    (board : (f s.work).board = s.work.board) : s.Kept (s.modWork f) :=
  modWork (by unfold State.MissesCounted; rw [modWork_work, board]; exact id)
    (by unfold Work.driving; rw [timer, op]; exact id)
    (by unfold State.WorkFits; rw [modWork_work, state, op, board]; exact id)

/-- Another board record in the place of one. -/
theorem modWork_board {s : State} {b c : Board} {f : Work → Work} (before : s.work.board = some b)
    (after : f s.work = { s.work with board := some c })
    (misses : b.missed = b.missList.length + b.overflow ∧ b.missList.length ≤ 8 →
      c.missed = c.missList.length + c.overflow ∧ c.missList.length ≤ 8) : s.Kept (s.modWork f) := by
  refine modWork (fun h x hx => ?_) (by rw [after]; exact id) (by
    unfold State.WorkFits; rw [modWork_work, after, before]; exact id)
  rw [modWork_work, after] at hx
  cases hx
  exact misses (h b before)

/-- A change of the tape unit that ends, empties or changes what is there (R41, R46). -/
theorem modTape {s : State} {f : Tape → Tape} (shorter : (f s.tape).queue.length ≤ s.tape.queue.length)
    (feeding : (f s.tape).feeding = true → s.tape.feeding = true)
    (timer : s.tape.timer.isSome = s.tape.feeding → (f s.tape).timer.isSome = (f s.tape).feeding)
    (oldest : s.OnlyOldestDecided → (s.modTape f).OnlyOldestDecided) : s.Kept (s.modTape f) where
  room := id
  depth h := by
    obtain ⟨⟨scan, quiet⟩, fits, feed⟩ := h
    refine ⟨⟨scan, fun early => ?_⟩, shorter.trans fits, fun fed => shorter.trans_lt (feed (feeding fed))⟩
    obtain ⟨run, empty, still⟩ := quiet early
    refine ⟨run, List.length_eq_zero_iff.1 (Nat.le_zero.1 (shorter.trans (by simp [empty]))), ?_⟩
    exact Bool.eq_false_iff.2 fun fed => by simp [feeding fed] at still
  buffer := id
  oldest := oldest
  misses := id
  timers h := ⟨timer h.1, h.2.1, h.2.2⟩
  work := id
  peers := id
  alarm := id
  rows := id
  program _ := ⟨rfl, rfl, rfl, rfl, rfl⟩

/-- A change of the tape unit that keeps the queue and the feed. -/
theorem modTape_same {s : State} {f : Tape → Tape} (queue : (f s.tape).queue = s.tape.queue)
    (feeding : (f s.tape).feeding = s.tape.feeding) (timer : (f s.tape).timer.isSome = s.tape.timer.isSome) :
    s.Kept (s.modTape f) :=
  modTape (by rw [queue]) (by rw [feeding]; exact id) (by rw [timer, feeding]; exact id)
    (by unfold State.OnlyOldestDecided; rw [modTape_tape, queue]; exact id)

/-- A feed in flight ends (R43, R54, R56). -/
theorem modTape_stop {s : State} {f : Tape → Tape} (queue : (f s.tape).queue = s.tape.queue)
    (feeding : (f s.tape).feeding = false) (timer : (f s.tape).timer = none) : s.Kept (s.modTape f) :=
  modTape (by rw [queue]) (by rw [feeding]; exact nofun) (by rw [timer, feeding]; exact fun _ => rfl)
    (by unfold State.OnlyOldestDecided; rw [modTape_tape, queue]; exact id)

/-- Every entry of the queue changed alike, none taking a decision or the attempted mark. -/
theorem modTape_map {s : State} (g : Entry → Entry)
    (keeps : ∀ e, (e.decision = none → (g e).decision = none) ∧ (g e).attempted = e.attempted)
    {f : Tape → Tape} (queue : (f s.tape).queue = s.tape.queue.map g) (feeding : (f s.tape).feeding = s.tape.feeding)
    (timer : (f s.tape).timer = s.tape.timer) : s.Kept (s.modTape f) := by
  refine modTape (by simp [queue]) (by rw [feeding]; exact id) (by rw [timer, feeding]; exact id) fun h x hx => ?_
  rw [modTape_tape, queue, ← List.map_tail] at hx
  obtain ⟨e, he, rfl⟩ := List.mem_map.1 hx
  obtain ⟨decision, attempted⟩ := h e he
  exact ⟨(keeps e).1 decision, (keeps e).2.trans attempted⟩

/-- The oldest entry alone changed. -/
theorem modTape_oldest {s : State} {e e' : Entry} {es : List Entry} {f : Tape → Tape} (before : s.tape.queue = e :: es)
    (after : f s.tape = { s.tape with queue := e' :: es }) : s.Kept (s.modTape f) := by
  refine modTape (by simp [after, before]) (by rw [after]; exact id) (by rw [after]; exact id) fun h x hx => ?_
  rw [modTape_tape, after] at hx
  exact h x (by rw [before]; exact hx)

/-- Entries leave the queue. -/
theorem modTape_fewer {s : State} {f : Tape → Tape} (sub : (f s.tape).queue.length ≤ s.tape.queue.length)
    (tail : ∀ e ∈ (f s.tape).queue.tail, e ∈ s.tape.queue.tail) (feeding : (f s.tape).feeding = s.tape.feeding)
    (timer : (f s.tape).timer = s.tape.timer) : s.Kept (s.modTape f) :=
  modTape sub (by rw [feeding]; exact id) (by rw [timer, feeding]; exact id) fun h x hx => h x (tail x hx)

/-- A walking reader's own change: the reads and the buffer (R18, R20). -/
theorem modReader_walk {s : State} {f : Reader → Reader} (rows : (f s.reader).rows = s.reader.rows)
    (straps : (f s.reader).straps = s.reader.straps) (phase : (f s.reader).phase = s.reader.phase)
    (scan : (f s.reader).scan = s.reader.scan) (buffer : s.BufferWithinRoom → (s.modReader f).BufferWithinRoom) :
    s.Kept (s.modReader f) where
  room := id
  depth := by
    unfold State.QueueWithinDepth State.StartUpQuiet; rw [modReader_reader, straps, scan]; exact id
  buffer := buffer
  oldest := id
  misses := id
  timers := id
  work := id
  peers := id
  alarm := by unfold State.AlarmFitsList; rw [modReader_reader, straps, scan]; exact id
  rows := by unfold State.RowTableFits; rw [modReader_reader, rows, scan]; exact id
  program _ := ⟨rfl, rows, straps, phase, scan⟩

/-- A change of the alarm unit, with what a change of run state does to the head and the status slot (R100, R174). -/
theorem of_alarm {s t : State} (hdr : t.hdr = s.hdr) (reader : t.reader = s.reader) (tape : t.tape = s.tape)
    (work : t.work = s.work) (trav : t.trav = s.trav) (link : t.link.butSlot = s.link.butSlot)
    (room : s.alarm.list.length ≤ 8 → t.alarm.list.length ≤ 8)
    (run : s.alarm.run = .configFault → t.alarm.run = .configFault) (fits : s.AlarmFitsList → t.AlarmFitsList) :
    s.Kept t := by
  obtain ⟨rx, tx, peers⟩ := Link.queues_of_butSlot link
  exact {
    room := by
      unfold State.WithinRoom; rw [rx, tx, trav]
      exact fun h => ⟨room h.1, h.2⟩
    depth := by
      unfold State.QueueWithinDepth State.StartUpQuiet State.header; rw [reader, tape, hdr]
      exact fun ⟨⟨scan, quiet⟩, rest⟩ => ⟨⟨scan, fun early => ⟨run (quiet early).1, (quiet early).2⟩⟩, rest⟩
    buffer := by unfold State.BufferWithinRoom; rw [reader]; exact id
    oldest := by unfold State.OnlyOldestDecided; rw [tape]; exact id
    misses := by unfold State.MissesCounted; rw [work]; exact id
    timers := by unfold State.TimersFit; rw [tape, work, trav]; exact id
    work := by unfold State.WorkFits; rw [work]; exact id
    peers := by unfold State.PeersFit; rw [rx, peers]; exact id
    alarm := fits
    rows := by unfold State.RowTableFits; rw [reader]; exact id
    program := fun _ => ⟨hdr, by rw [reader], by rw [reader], by rw [reader], by rw [reader]⟩ }

end Kept

end State
end Sys2Proof.Machine
end

section
/-!
# What every step keeps: run state, alarms and monitors

A raise is the one operation that brings a stop entry, and it enters ALARM; a change of run state between the other run
states leaves the list alone. Both are what `State.AlarmFitsList` asks for (R143, R150, R151).
-/
namespace Sys2Proof.Machine

/-! ## The list after a raise, entry by entry (R150) -/

namespace Alarm
variable {a : Alarm} {r : Raise} {stop : Bool}

@[simp] theorem take_homingTarget : (a.take r stop).homingTarget = a.homingTarget := by
  unfold Alarm.take; (repeat' split) <;> rfl

theorem take_length_le (room : a.list.length ≤ 8) : (a.take r stop).list.length ≤ 8 := by
  have erased (i : Nat) (h : i < a.list.length) : (a.list.eraseIdx i).length = a.list.length - 1 := by
    simp [List.length_eraseIdx, h]
  unfold Alarm.take Config.alarmRoom
  split
  · simpa using room
  split
  · simp only [List.length_append, List.length_singleton]; omega
  split
  · split
    next i found =>
      have inside : i < a.list.length := (List.findIdx?_eq_some_iff_findIdx_eq.1 found).1
      simp only [List.length_append, List.length_singleton, erased i inside]; omega
    next => exact room
  · exact room

/-- An entry of the list after a raise was there with its stop bit, or is the raise's own. -/
theorem mem_take {e : AlarmEntry} (h : e ∈ (a.take r stop).list) :
    (∃ e' ∈ a.list, e'.code = e.code ∧ e'.stop = e.stop) ∨ (e.code = r.code ∧ e.stop = stop) := by
  unfold Alarm.take at h
  split at h
  · obtain ⟨e', he', rfl⟩ := List.mem_map.1 h
    refine .inl ⟨e', he', ?_⟩
    split <;> exact ⟨rfl, rfl⟩
  have joined (l : List AlarmEntry) (sub : ∀ x ∈ l, x ∈ a.list) (h : e ∈ l ++ [r.entry stop]) :
      (∃ e' ∈ a.list, e'.code = e.code ∧ e'.stop = e.stop) ∨ (e.code = r.code ∧ e.stop = stop) := by
    rcases List.mem_append.1 h with old | new
    · exact .inl ⟨e, sub e old, rfl, rfl⟩
    · obtain rfl := List.mem_singleton.1 new
      exact .inr ⟨rfl, rfl⟩
  split at h
  · exact joined _ (fun _ => id) h
  split at h
  · split at h
    · exact joined _ (fun x hx => List.mem_of_mem_eraseIdx hx) h
    · exact .inl ⟨e, h, rfl, rfl⟩
  · exact .inl ⟨e, h, rfl, rfl⟩

/-- A raise with its stop bit leaves a stop entry in the list, whether it joins or finds the list full of them. -/
theorem stopListed_take_of_stop (listed : ∀ e ∈ a.list, e.code = r.code → e.stop = true) :
    (a.take r true).stopListed = true := by
  unfold Alarm.stopListed
  by_cases known : a.listed r.code = true
  · rw [take_of_listed known]
    obtain ⟨e, he, code⟩ := List.any_eq_true.1 known
    have code : e.code = r.code := by simpa using code
    simp only [List.any_map, List.any_eq_true]
    exact ⟨e, he, by simp [code, listed e he code]⟩
  replace known : a.listed r.code = false := by simpa using known
  rcases lt_or_ge a.list.length Config.alarmRoom with room | full
  · rw [take_of_room known room]; simp [Raise.entry]
  by_cases stops : ∀ e ∈ a.list, e.stop = true
  · rw [take_of_full_dropping known full (.inr stops)]
    obtain ⟨e, he⟩ : ∃ e, e ∈ a.list := List.exists_mem_of_length_pos (Nat.lt_of_lt_of_le (by decide) full)
    exact List.any_eq_true.2 ⟨e, he, stops e he⟩
  · have found : ∃ i, (a.list.findIdx? fun e => !e.stop) = some i := by
      rw [← Option.isSome_iff_exists, List.findIdx?_isSome]
      simpa using stops
    obtain ⟨i, found⟩ := found
    simp [Alarm.take, known, full.not_gt, found, Raise.entry]

theorem stopListed_take_of_no_stop :
    (a.take r false).stopListed = a.stopListed := by
  unfold Alarm.take
  split
  · simp only [Alarm.stopListed, List.any_map]
    exact congrArg _ (funext fun e => by simp only [Function.comp]; split <;> rfl)
  split
  · simp [Alarm.stopListed, Raise.entry]
  · rfl

@[simp] theorem setMonitor_frame (a : Alarm) (id : MonitorId) (m : Monitor) :
    (a.setMonitor id m).run = a.run ∧ (a.setMonitor id m).list = a.list ∧
    (a.setMonitor id m).homingTarget = a.homingTarget := by
  cases id <;> exact ⟨rfl, rfl, rfl⟩

end Alarm

namespace State

theorem stopBit_congr {s t : State} (hdr : t.hdr = s.hdr) (c : AlarmCode) : t.stopBit c = s.stopBit c := by
  cases c <;> simp only [State.stopBit, State.options, State.header, hdr]

/-- The alarm unit is as before but for entries that left or changed in what they report, and a homing target that may
have gone. -/
theorem AlarmFitsList.of_fewer {s t : State} (hdr : t.hdr = s.hdr) (reader : t.reader = s.reader)
    (run : t.alarm.run = s.alarm.run)
    (list : ∀ e ∈ t.alarm.list, ∃ e' ∈ s.alarm.list, e'.code = e.code ∧ e'.stop = e.stop)
    (stops : t.alarm.stopListed = s.alarm.stopListed)
    (target : ∀ r, t.alarm.homingTarget = some r → s.alarm.homingTarget = some r) (h : s.AlarmFitsList) :
    t.AlarmFitsList := by
  obtain ⟨idle, early, empty, bits, targets, alarm⟩ := h
  unfold State.AlarmFitsList
  rw [reader, run, stops]
  refine ⟨idle, early, fun off => ?_, fun e he => ?_, fun r hr => targets r (target r hr), alarm⟩
  · refine List.eq_nil_iff_forall_not_mem.2 fun e he => ?_
    obtain ⟨e', he', -⟩ := list e he
    simp [empty off] at he'
  · obtain ⟨e', he', code, stop⟩ := list e he
    rw [← stop, ← code, stopBit_congr hdr, bits e' he']

/-- A change between run states that are neither CONFIG_FAULT nor ALARM, with the list as it was. -/
theorem AlarmFitsList.of_run {s t : State} (hdr : t.hdr = s.hdr) (reader : t.reader = s.reader)
    (list : t.alarm.list = s.alarm.list) (before : s.alarm.run ≠ .configFault ∧ s.alarm.run ≠ .alarm)
    (after : t.alarm.run ≠ .configFault ∧ t.alarm.run ≠ .alarm)
    (target : ∀ r, t.alarm.homingTarget = some r → s.alarm.homingTarget = some r) (h : s.AlarmFitsList) :
    t.AlarmFitsList := by
  obtain ⟨idle, early, -, bits, targets, alarm⟩ := h
  unfold State.AlarmFitsList
  rw [reader]
  refine ⟨idle, fun h => absurd (early h) before.1, fun h => absurd h after.1, fun e he => ?_,
    fun r hr => targets r (target r hr), fun h => absurd h after.2, fun h => ?_⟩
  · rw [stopBit_congr hdr]; exact bits e (list ▸ he)
  · unfold Alarm.stopListed at h alarm
    exact absurd (alarm.2 (list ▸ h)) before.2

theorem AlarmFitsList.raise {s : State} (r : Raise) (h : s.AlarmFitsList) : (s.raise r).AlarmFitsList := by
  by_cases off : s.alarm.run = .configFault
  · rwa [raise_of_configFault off]
  obtain ⟨idle, early, empty, bits, targets, alarm⟩ := h
  have own (e : AlarmEntry) (he : e ∈ s.alarm.list) (code : e.code = r.code) : e.stop = s.stopBit r.code :=
    code ▸ bits e he
  have hdr : (s.raise r).hdr = s.hdr := by simp
  have reader : (s.raise r).reader = s.reader := by simp
  have list := (raise_list_more (r := r) off).1
  have run : (s.raise r).alarm.run ≠ .configFault := by
    rw [raise_alarm off]; split
    · simp
    · simpa using off
  unfold State.AlarmFitsList
  rw [reader]
  refine ⟨idle, fun h => absurd (early h) off, fun h => absurd h run, fun e he => ?_, fun t ht => ?_, ?_⟩
  · rw [list] at he
    rw [stopBit_congr hdr]
    rcases Alarm.mem_take he with ⟨e', he', code, stop⟩ | ⟨code, stop⟩
    · rw [← stop, ← code]; exact bits e' he'
    · rw [stop, code]
  · rw [raise_alarm off] at ht
    split at ht
    · simp at ht
    · exact targets t (by simpa using ht)
  · have listed : (s.raise r).alarm.stopListed = (s.alarm.take r (s.stopBit r.code)).stopListed := by
      unfold Alarm.stopListed; rw [list]
    rw [listed]
    cases stop : s.stopBit r.code
    · rw [raise_run_of_no_stop off stop, Alarm.stopListed_take_of_no_stop]
      exact alarm
    · rw [(raise_enters_alarm off stop).1, Alarm.stopListed_take_of_stop fun e he code => stop ▸ own e he code]
      simp

/-! ## The shared operations of the alarm unit -/

theorem raise_kept (s : State) (r : Raise) : s.Kept (s.raise r) := by
  by_cases off : s.alarm.run = .configFault
  · rw [raise_of_configFault off]; exact .refl s
  refine .of_alarm (by simp) (by simp) (by simp) (by simp) (by simp) (by simp) (fun room => ?_)
    (fun h => absurd h off) fun h => h.raise r
  rw [(raise_list_more off).1]
  exact Alarm.take_length_le room

theorem setRun_kept {s : State} {r : RunState} (before : s.alarm.run ≠ .configFault ∧ s.alarm.run ≠ .alarm)
    (after : r ≠ .configFault ∧ r ≠ .alarm) : s.Kept (s.setRun r) := by
  refine .of_alarm (by simp) (by simp) (by simp) (by simp) (by simp) (by simp) (by simp [setRun_alarm])
    (fun h => absurd h before.1) (AlarmFitsList.of_run (by simp) (by simp) (by simp [setRun_alarm]) before
      (by simpa using after) (by simp [setRun_alarm]))

/-- A change of the alarm unit's own state that leaves the run state, the list and the homing target alone. -/
theorem modAlarm_kept {s : State} {f : Alarm → Alarm} (run : (f s.alarm).run = s.alarm.run)
    (list : (f s.alarm).list = s.alarm.list)
    (target : ∀ r, (f s.alarm).homingTarget = some r → s.alarm.homingTarget = some r) : s.Kept (s.modAlarm f) :=
  .of_alarm rfl rfl rfl rfl rfl rfl (by rw [modAlarm_alarm, list]; exact id) (by rw [modAlarm_alarm, run]; exact id)
    (AlarmFitsList.of_fewer rfl rfl run (by rw [modAlarm_alarm, list]; exact fun e he => ⟨e, he, rfl, rfl⟩)
      (by unfold Alarm.stopListed; rw [modAlarm_alarm, list]) target)

theorem endIfQuiet_kept (s : State) : s.Kept s.endIfQuiet := by
  unfold State.endIfQuiet
  split
  next h =>
    have before : s.alarm.run = .stopping ∨ s.alarm.run = .stepping := by
      simp only [Bool.and_eq_true, Bool.or_eq_true, beq_iff_eq] at h
      exact h.2.imp id And.left
    exact setRun_kept (by rcases before with h | h <;> simp [h]) (by simp)
  next => exact .refl s

theorem useStep_kept (s : State) : s.Kept s.useStep := by
  unfold State.useStep
  split
  · exact modAlarm_kept rfl rfl fun _ => id
  · exact .refl s

theorem reportCondition_kept (s : State) (c : AlarmCode) (active : Bool) : s.Kept (s.reportCondition c active) := by
  refine .of_alarm rfl rfl rfl rfl rfl rfl (by simp [State.reportCondition]) id
    (AlarmFitsList.of_fewer rfl rfl rfl (fun e he => ?_) ?_ fun _ => id)
  · obtain ⟨e', he', rfl⟩ := List.mem_map.1 he
    refine ⟨e', he', ?_⟩
    split <;> exact ⟨rfl, rfl⟩
  · simp only [State.reportCondition, Alarm.stopListed, modAlarm_alarm, List.any_map]
    exact congrArg _ (funext fun e => by simp only [Function.comp]; split <;> rfl)

theorem evaluate_kept (s : State) (id : MonitorId) (v : Nat) : s.Kept (s.evaluate id v) := by
  have stored (m : Monitor) : s.Kept (s.modAlarm fun a => a.setMonitor id m) :=
    modAlarm_kept (by simp) (by simp) (by simp)
  unfold State.evaluate
  dsimp only
  split
  · split
    · split
      · exact (stored _).trans (raise_kept _ _)
      · exact stored _
    · split
      · refine (stored _).trans (.of_alarm rfl rfl rfl rfl rfl rfl (fun room => ?_) (fun h => h)
          (AlarmFitsList.of_fewer rfl rfl rfl (fun e he => ⟨e, (List.mem_filter.1 he).1, rfl, rfl⟩) ?_ fun _ => (fun h => h)))
        · exact (List.length_filter_le _ _).trans room
        · rw [Bool.eq_iff_iff]
          simp only [Alarm.stopListed, modAlarm_alarm, List.any_eq_true, List.mem_filter, Bool.or_eq_true]
          exact ⟨fun ⟨e, ⟨he, _⟩, stop⟩ => ⟨e, he, stop⟩, fun ⟨e, he, stop⟩ => ⟨e, ⟨he, .inr stop⟩, stop⟩⟩
      · exact stored _
  · exact .refl s

end State
end Sys2Proof.Machine
end

section
/-!
# What every step keeps: tape, reader and work position

The work-position unit's state, operation and board record change together (R105), so an operation that changes them in
two updates is taken as one: `State.workFits_iff` says what the three owe each other in one condition.
-/
namespace Sys2Proof.Machine

/-- The state of the work position in which an operation of the kind stands (R105). -/
def OpKind.workState : OpKind → WorkState
  | .conveyorIn => .entering
  | .clamp => .clamping
  | .unclamp | .conveyorOut => .releasing

/-- The states in which a board is held and no operation is under way (R105). -/
def WorkState.atRest : List WorkState := [.scanning, .ready, .working, .done]

/-- Counting an outcome keeps the missed count (R119). -/
theorem Board.count_misses (b : Board) (k : Nat) (o : StepOutcome)
    (h : b.missed = b.missList.length + b.overflow ∧ b.missList.length ≤ 8) :
    (b.count k o).missed = (b.count k o).missList.length + (b.count k o).overflow ∧
      (b.count k o).missList.length ≤ 8 := by
  obtain ⟨sum, room⟩ := h
  cases o with
  | inserted => exact ⟨sum, room⟩
  | passed => exact ⟨sum, room⟩
  | missed r =>
    unfold Board.count Config.missRoom
    dsimp only
    split
    · simp only [List.length_append, List.length_singleton]; omega
    · dsimp only; omega

namespace State

/-- R105 with one condition on the operation: its state is that of its kind, and with none it is no operation's. -/
theorem workFits_iff (s : State) :
    s.WorkFits ↔
      (s.work.board.isSome = true ↔
        s.work.state ∈ [WorkState.clamping, .scanning, .ready, .working, .done, .releasing]) ∧
      match s.work.op with
      | none => s.work.state ∉ [WorkState.entering, .clamping, .releasing]
      | some (k, _) => s.work.state = k.workState := by
  unfold State.WorkFits
  refine and_congr_right fun _ => ?_
  rcases s.work.op with _ | ⟨k, c⟩
  · simp
  · cases k <;> cases s.work.state <;> simp [OpKind.workState]

/-- A board that goes on from one state at rest to another keeps R105. -/
theorem WorkFits.of_rest {s t : State} (before : s.work.state ∈ WorkState.atRest) (after : t.work.state ∈ WorkState.atRest)
    (op : t.work.op = s.work.op) (board : t.work.board.isSome = s.work.board.isSome) (h : s.WorkFits) : t.WorkFits := by
  rw [workFits_iff] at h ⊢
  rw [op, board]
  simp only [WorkState.atRest, List.mem_cons, List.not_mem_nil, or_false] at before after
  cases hop : s.work.op with
  | none => rcases before with b | b | b | b <;> rcases after with a | a | a | a <;> simp_all
  | some o =>
    obtain ⟨k, c⟩ := o
    rw [hop] at h
    cases k <;> rcases before with b | b | b | b <;> simp [b, OpKind.workState] at h

/-- The board of a new board record, or of none, counts no miss. -/
theorem MissesCounted.of_newBoard {s : State} {b : Board} (board : s.work.board = some b) (missed : b.missed = 0)
    (list : b.missList = []) (overflow : b.overflow = 0) : s.MissesCounted := by
  intro c hc
  cases board.symm.trans hc
  simp [missed, list, overflow]

theorem MissesCounted.of_none {s : State} (board : s.work.board = none) : s.MissesCounted := by
  intro c hc
  cases board.symm.trans hc

/-! ## Decisions, feeds and the flush marker -/

theorem decideOldest_kept (s : State) : s.Kept s.decideOldest := by
  unfold State.decideOldest
  split
  · exact .refl s
  next e es queue =>
    split
    · exact .modTape_oldest queue rfl
    · exact .refl s

theorem checkFlush_kept (s : State) : s.Kept s.checkFlush := by
  unfold State.checkFlush
  split
  · split
    · exact .refl s
    · exact .modTape_same rfl rfl rfl
  · exact .refl s

theorem removeOldest_kept (s : State) : s.Kept s.removeOldest :=
  .modTape_fewer (by simp) (fun _ => List.mem_of_mem_tail) rfl rfl

theorem mayStart_run {s : State} (h : s.mayStart = true) : s.alarm.run = .running ∨ s.alarm.run = .stepping := by
  simp only [State.mayStart, Bool.or_eq_true, Bool.and_eq_true, beq_iff_eq] at h
  exact h.imp id And.left

/-- A feed starts below the depth of the queue, in a run state that no start-up stands in. -/
theorem tryFeed_kept (s : State) : s.Kept s.tryFeed := by
  unfold State.tryFeed
  split
  next ready =>
    simp only [State.feedReady, Bool.and_eq_true, decide_eq_true_eq] at ready
    obtain ⟨⟨⟨⟨⟨⟨start, -⟩, -⟩, -⟩, -⟩, -⟩, below⟩ := ready
    exact {
      room := id
      depth := fun ⟨⟨scan, quiet⟩, fits, _⟩ => ⟨⟨scan, fun early => by
        have off := (quiet early).1
        rcases mayStart_run start with on | on <;> simp [on] at off⟩, fits, fun _ => below⟩
      buffer := id
      oldest := id
      misses := id
      timers := fun h => ⟨rfl, h.2⟩
      work := id
      peers := id
      alarm := id
      rows := id
      program := fun _ => ⟨rfl, rfl, rfl, rfl, rfl⟩ }
  next => exact .refl s

theorem armFlush_kept (s : State) (l : Lap) : s.Kept (s.armFlush l) := by
  refine .trans (.trans ?_ (checkFlush_kept _)) (decideOldest_kept _)
  refine .modTape_map (Entry.undecidedFor l) (fun e => ⟨fun none => ?_, by simp⟩) rfl rfl rfl
  unfold Entry.undecidedFor
  split
  · rfl
  · exact none

theorem startBoard_kept (s : State) : s.Kept s.startBoard := by
  unfold State.startBoard
  split
  next state queue flush board =>
    split
    · refine .trans (.trans (.modWork (s := s) (fun h c hc => ?_) (by exact id) fun h => ?_)
        (modAlarm_kept rfl rfl fun _ => id)) (.modHead _ _)
      · have counted := h _ board
        cases hc
        exact counted
      · exact WorkFits.of_rest (s := s) (by simp [state, WorkState.atRest]) (by simp [WorkState.atRest]) rfl (by simp [board]) h
    · exact .refl s
  next => exact .refl s

theorem workingBoard_eq_some {s : State} {b : Board} (h : s.workingBoard = some b) :
    s.work.state = .working ∧ s.work.board = some b := by
  unfold State.workingBoard at h
  split at h
  · exact ⟨‹_›, h⟩
  · cases h

theorem takeRowHold_kept (s : State) : s.Kept s.takeRowHold := by
  unfold State.takeRowHold
  split
  next e b oldest working =>
    split
    next due =>
      have start : s.mayStart = true := by
        simp only [State.holdDue, Bool.and_eq_true] at due
        exact due.2
      refine .trans (.trans (.trans (.modWork_board (workingBoard_eq_some working).2 (by rfl)
        (by exact id))
        (modAlarm_kept rfl rfl fun _ => id)) (setRun_kept ?_ (by simp))) (endIfQuiet_kept _)
      rcases mayStart_run start with run | run <;> simp [run]
    next => exact .refl s
  next => exact .refl s

theorem bookkeep_kept (s : State) : s.Kept s.bookkeep :=
  (startBoard_kept s).trans ((takeRowHold_kept _).trans (decideOldest_kept _))

theorem followOn_kept (s : State) : s.Kept s.followOn :=
  (checkFlush_kept s).trans ((bookkeep_kept _).trans (tryFeed_kept _))

/-! ## Outcomes (R119, R120) -/

/-- The board record with an outcome counted, and M2 evaluated for a miss (R119). -/
def countOutcome (s : State) (c : Board) (o : StepOutcome) : State :=
  match o with
  | .missed _ => (s.modWork fun w => { w with board := some c }).evaluate .m2 c.missed
  | _ => s.modWork fun w => { w with board := some c }

@[simp] theorem countOutcome_work (s : State) (c : Board) (o : StepOutcome) :
    (s.countOutcome c o).work = { s.work with board := some c } := by
  cases o <;> simp [State.countOutcome]

/-- An outcome is counted, and at the last ordinal of the panel the board is complete (R119, R120). -/
theorem takeOutcome_of_working {s : State} {b : Board} (working : s.workingBoard = some b) (lap : Lap) (k : Nat)
    (o : StepOutcome) :
    s.takeOutcome lap k o =
      if b.lap = some lap then
        if k + 1 = panelSteps s.reader.rows then
          (s.countOutcome (b.count k o) o).modWork fun w =>
            { w with state := .done, board := some ((b.count k o).complete (s.ownAddr.getD 0) s.header.rejectMisses) }
        else s.countOutcome (b.count k o) o
      else s := by
  unfold State.takeOutcome
  rw [working]
  rfl

theorem countOutcome_kept {s : State} {b : Board} (board : s.work.board = some b) (k : Nat) (o : StepOutcome) :
    s.Kept (s.countOutcome (b.count k o) o) := by
  have counted : s.Kept (s.modWork fun w => { w with board := some (b.count k o) }) :=
    .modWork_board board rfl (b.count_misses k o)
  cases o with
  | inserted => exact counted
  | passed => exact counted
  | missed r => exact counted.trans (evaluate_kept _ _ _)

theorem takeOutcome_kept (s : State) (lap : Lap) (k : Nat) (o : StepOutcome) : s.Kept (s.takeOutcome lap k o) := by
  cases working : s.workingBoard with
  | none => unfold State.takeOutcome; rw [working]; exact .refl s
  | some b =>
    obtain ⟨state, board⟩ := workingBoard_eq_some working
    rw [takeOutcome_of_working working]
    split
    · split
      · refine (countOutcome_kept board k o).trans (.modWork (fun h c hc => ?_) id fun h => ?_)
        · cases hc
          exact h (b.count k o) (by simp)
        · exact WorkFits.of_rest (s := s.countOutcome (b.count k o) o) (by simp [state, WorkState.atRest])
            (by simp [WorkState.atRest]) rfl (by simp) h
      · exact countOutcome_kept board k o
    · exact .refl s

/-! ## The mark scan (R115, R116) -/

theorem scanFrom_kept {s : State} (scanning : s.work.state = .scanning) (start : Nat) : s.Kept (s.scanFrom start) := by
  unfold State.scanFrom
  split
  · exact (Kept.modWork_same rfl rfl rfl rfl).trans (.modTable _ _)
  · refine .trans (.modWork id id fun h => ?_) (bookkeep_kept _)
    exact WorkFits.of_rest (s := s) (by simp [scanning, WorkState.atRest]) (by simp [WorkState.atRest]) rfl rfl h

theorem markArrival_kept (s : State) (g : Nat) (mark : Bool) : s.Kept (s.markArrival g mark) := by
  unfold State.markArrival
  split
  · exact .refl s
  next b board =>
    split
    next here =>
      exact (Kept.modWork_board board (by rfl) (by exact id)).trans ((useStep_kept _).trans (scanFrom_kept (by simpa using here.1) _))
    next => exact .refl s

/-! ## Board-handling operations (R108, R121) -/

/-- The operation of the unit is of the kind. -/
def HasOp (s : State) (k : OpKind) : Prop := ∃ c, s.work.op = some (k, c)

@[simp] theorem driveFor_frame (w : Work) (bout : Bool) (k : OpKind) :
    (w.driveFor bout k).state = w.state ∧ (w.driveFor bout k).board = w.board := by
  cases k <;> exact ⟨rfl, rfl⟩

theorem drive_hasOp (s : State) (k : OpKind) : (s.drive k).HasOp k := ⟨.driving, rfl⟩

theorem drive_kept {s : State} {k : OpKind} (has : s.HasOp k) : s.Kept (s.drive k) := by
  obtain ⟨c, op⟩ := has
  refine .modWork (fun h b hb => h b (by simpa using hb)) (fun _ => rfl) fun h => ?_
  rw [workFits_iff, op] at h
  rw [workFits_iff]
  simpa using h

theorem boardCleared_kept (s : State) : s.Kept s.boardCleared := by
  unfold State.boardCleared
  split
  · exact .modTrav id fun _ => ⟨fun _ => rfl, fun _ => rfl⟩
  · exact .refl s

theorem conveyorOutDone_kept (s : State) : s.Kept s.conveyorOutDone := by
  have emptied (t : State) :
      t.Kept (t.modWork fun w => { w with convOut := false, op := none, opTimer := none, board := none, state := .empty }) :=
    .modWork (fun _ => .of_none rfl) (fun _ => rfl) fun _ => by rw [workFits_iff]; simp
  unfold State.conveyorOutDone
  dsimp only
  split
  · exact emptied s
  · exact (boardCleared_kept s).trans (emptied _)

theorem startConveyorOut_kept {s : State} (has : s.HasOp .conveyorOut) : s.Kept s.startConveyorOut := by
  unfold State.startConveyorOut
  dsimp only
  split
  · exact (drive_kept has).trans (conveyorOutDone_kept _)
  · exact drive_kept has

/-- What waits for its start starts where the run state lets it. -/
theorem startConveyorOut_kept_of_waiting {s t : State} (h : s.Kept t) (has : t.HasOp .conveyorOut) :
    s.Kept (if t.mayStart then t.startConveyorOut else t) := by
  split
  · exact h.trans (startConveyorOut_kept has)
  · exact h

theorem toConveyorOut_kept {s : State} (has : s.HasOp .unclamp) : s.Kept s.toConveyorOut := by
  obtain ⟨c, op⟩ := has
  refine startConveyorOut_kept_of_waiting (.modWork (by exact id) (fun _ => rfl) fun h => ?_) ⟨.waiting, rfl⟩
  rw [workFits_iff, op] at h
  rw [workFits_iff]
  simpa [OpKind.workState] using h

theorem startUnclamp_kept {s : State} (has : s.HasOp .unclamp) : s.Kept s.startUnclamp := by
  unfold State.startUnclamp
  dsimp only
  split
  · exact (drive_kept has).trans (toConveyorOut_kept (drive_hasOp s _))
  · exact drive_kept has

theorem clampDone_kept {s : State} (has : s.HasOp .clamp) : s.Kept s.clampDone := by
  obtain ⟨c, op⟩ := has
  unfold State.clampDone
  dsimp only
  have closes (after : WorkState) (plain : after ∈ [WorkState.scanning, .ready]) :
      s.Kept ((s.modWork fun w => { w with clamped := true, clampOn := true, op := none, opTimer := none }).modWork
        fun w => { w with state := after }) := by
    refine .modWork (f := fun w => { w with clamped := true, clampOn := true, op := none, opTimer := none, state := after })
      id (fun _ => rfl) fun h => ?_
    rw [workFits_iff, op] at h
    rw [workFits_iff]
    obtain ⟨board, state⟩ := h
    simp only [List.mem_cons, List.not_mem_nil, or_false] at plain
    rcases plain with rfl | rfl <;> simpa [state, OpKind.workState] using board
  split
  · exact (closes .scanning (by simp)).trans (scanFrom_kept rfl 0)
  · exact (closes .ready (by simp)).trans (bookkeep_kept _)

theorem startClamp_kept {s : State} (has : s.HasOp .clamp) : s.Kept s.startClamp := by
  unfold State.startClamp
  dsimp only
  split
  · exact (drive_kept has).trans (clampDone_kept (drive_hasOp s _))
  · exact drive_kept has

/-- A new board record counts nothing. -/
theorem boardMade_kept (s : State) {b : Board} (missed : b.missed = 0) (list : b.missList = [])
    (overflow : b.overflow = 0) : s.Kept (s.boardMade b) := by
  have made (after : WorkState) (op : Option (OpKind × OpCondition))
      (way : after = .done ∧ op = none ∨ after = .clamping ∧ op = some (.clamp, .waiting)) :
      s.Kept (s.modWork fun w =>
        { w with board := some b, matchTimer := none, opTimer := none, state := after, op := op }) := by
    refine .modWork (fun _ => .of_newBoard rfl missed list overflow) (fun _ => ?_) fun _ => ?_
    · rcases way with ⟨-, rfl⟩ | ⟨-, rfl⟩ <;> rfl
    · rw [workFits_iff]
      rcases way with ⟨rfl, rfl⟩ | ⟨rfl, rfl⟩ <;> simp [OpKind.workState]
  unfold State.boardMade
  dsimp only
  split
  · exact made .done none (by simp)
  · split
    · exact (made .clamping (some (.clamp, .waiting)) (by simp)).trans (startClamp_kept ⟨.waiting, rfl⟩)
    · exact made .clamping (some (.clamp, .waiting)) (by simp)

theorem makeOwnBoard_kept (s : State) (reject : Option RejectReason) : s.Kept (s.makeOwnBoard reject) :=
  .trans (.modWork_same rfl rfl rfl rfl) (boardMade_kept _ rfl rfl rfl)

theorem makeMatched_kept (s : State) (t : Traveller) : s.Kept (s.makeMatched t) := boardMade_kept _ rfl rfl rfl

theorem beginMatching_kept (s : State) : s.Kept s.beginMatching := by
  unfold State.beginMatching
  split
  · exact makeOwnBoard_kept s none
  split
  next a rest arrivals =>
    refine .trans (.modTrav (fun room => ?_) id) (makeMatched_kept _ _)
    rw [arrivals] at room
    exact (Nat.le_succ _).trans room
  next =>
    split
    · exact makeOwnBoard_kept s _
    · exact (Kept.modWork_same rfl rfl rfl rfl).trans (.modTrav id id)

theorem arrive_kept {s : State} (entering : s.work.state = .entering ∨ s.HasOp .conveyorIn) : s.Kept s.arrive := by
  refine .trans (.modWork id (fun _ => rfl) fun h => ?_) (beginMatching_kept _)
  have state : s.work.state = .entering := entering.elim id h.2.1.2
  rw [workFits_iff] at h ⊢
  obtain ⟨board, -⟩ := h
  simpa [state] using board

theorem startConveyorIn_kept {s : State} (has : s.HasOp .conveyorIn) : s.Kept s.startConveyorIn := by
  unfold State.startConveyorIn
  dsimp only
  split
  · exact (drive_kept has).trans (arrive_kept (.inr (drive_hasOp s _)))
  · exact drive_kept has

theorem startOp_kept {s : State} {k : OpKind} (has : s.HasOp k) : s.Kept (s.startOp k) := by
  cases k with
  | conveyorIn => exact startConveyorIn_kept has
  | clamp => exact startClamp_kept has
  | unclamp => exact startUnclamp_kept has
  | conveyorOut => exact startConveyorOut_kept has

theorem restartOp_kept (s : State) : s.Kept s.restartOp := by
  unfold State.restartOp
  split
  next k op =>
    split
    · exact startOp_kept ⟨_, op⟩
    · exact .refl s
  next => exact .refl s

theorem releaseBoard_kept {s : State} (done : s.work.state = .done) : s.Kept s.releaseBoard := by
  have board (h : s.WorkFits) : s.work.board.isSome = true := h.1.2 (by simp [done])
  unfold State.releaseBoard
  dsimp only
  split
  · have driven : s.Kept ((s.modWork fun w => { w with state := .releasing, exitSeen := false }).drive .unclamp) := by
      refine .modWork (f := fun w => { ({ w with state := .releasing, exitSeen := false } : Work).driveFor s.lines.bout
          .unclamp with op := some (.unclamp, .driving), opTimer := some (opTimeout s.header .unclamp) })
        (fun h b hb => h b hb) (fun _ => rfl) fun h => ?_
      rw [workFits_iff]
      simpa [OpKind.workState] using board h
    unfold State.startUnclamp
    dsimp only
    split
    · exact driven.trans (toConveyorOut_kept (drive_hasOp _ _))
    · exact driven
  · refine startConveyorOut_kept_of_waiting (.modWork (f := fun w => { w with
      state := .releasing, exitSeen := false, op := some (.conveyorOut, .waiting), opTimer := none })
      (fun h b hb => h b hb) (fun _ => rfl) fun h => ?_) ⟨.waiting, rfl⟩
    rw [workFits_iff]
    simpa [OpKind.workState] using board h

/-! ## The reader's reads (R18, R20) -/

/-- A reader that reads on in the walk has room for what the read brings. -/
theorem issueRead_kept (s : State) : s.Kept s.issueRead := by
  unfold State.issueRead
  split
  next ready =>
    simp only [Bool.and_eq_true, decide_eq_true_eq] at ready
    obtain ⟨⟨-, room⟩, -⟩ := ready
    refine .modReader_walk rfl rfl rfl rfl fun h => ⟨h.1, fun d hd _ _ => ?_⟩
    exact room
  next => exact .refl s

theorem rewind_kept (s : State) (lap : Lap) (k : Nat) : s.Kept (s.rewind lap k) :=
  .trans (.modReader_walk rfl rfl rfl rfl fun _ => ⟨by simp, fun _ _ _ _ => by simp⟩) (issueRead_kept _)

theorem abandon_kept (s : State) : s.Kept s.abandon := by
  unfold State.abandon
  split
  · exact .refl s
  · exact .modVerifier _ _

end State
end Sys2Proof.Machine
end

section
/-!
# What every step keeps: head, table, operator and tape

The operations of the units that are not shared, each put together from those that it calls.
-/
namespace Sys2Proof.Machine

namespace State

/-! ## The head and the entries to a run state -/

/-- The oldest entry leaves the queue, with its outcome where it was to be inserted. -/
theorem Kept.removeCounted {s t : State} (h : s.Kept t) (e : Entry) (o : StepOutcome) :
    s.Kept (if e.toInsert then t.removeOldest.takeOutcome e.record.lap e.record.ordinal o else t.removeOldest) := by
  split
  · exact h.trans ((removeOldest_kept t).trans (takeOutcome_kept _ _ _ _))
  · exact h.trans (removeOldest_kept t)

theorem returnDone_kept (s : State) : s.Kept s.returnDone := by
  unfold State.returnDone
  dsimp only
  split
  next e _ =>
    split
    · exact (Kept.removeCounted (.modHead s _) e _).trans ((useStep_kept _).trans (followOn_kept _))
    · exact .modHead s _
  next => exact .modHead s _

theorem recoveryReturn_kept (s : State) : s.Kept s.recoveryReturn := by
  unfold State.recoveryReturn
  dsimp only
  split
  · split
    · exact (Kept.modHead s _).trans (returnDone_kept _)
    · exact .modHead s _
  · exact .refl s

theorem dropHead_kept (s : State) : s.Kept s.dropHead := (Kept.modHead s _).trans (raise_kept _ _)

theorem seeTop_kept (s : State) : s.Kept s.seeTop := by
  unfold State.seeTop
  split
  · exact (returnDone_kept s).trans (endIfQuiet_kept _)
  split
  · exact dropHead_kept s
  · exact .refl s

theorem sample_kept (s : State) (top bin : Bool) : s.Kept (s.sample top bin) :=
  (Kept.modLines s _).trans (seeTop_kept _)

theorem followStopline_kept (s : State) : s.Kept s.followStopline := by
  unfold State.followStopline
  split
  next h => exact setRun_kept (by simp [h.1]) (by simp)
  next => exact .refl s

/-- What the entry to RUNNING or STEPPING brings about after the change of run state itself. -/
theorem Kept.enterWork {s t : State} {r : RunState} (h : s.Kept (t.setRun r)) : s.Kept (t.enterWork r) :=
  h.trans <| (followStopline_kept _).trans <| (recoveryReturn_kept _).trans <| (restartOp_kept _).trans <|
    (bookkeep_kept _).trans (endIfQuiet_kept _)

theorem requestHoming_kept (s : State) : s.Kept s.requestHoming := by
  unfold State.requestHoming
  split
  · exact .refl s
  · exact .modTable s _

/-- A homing target is RUNNING or STEPPING (R149). -/
theorem setTarget_kept (s : State) {r : RunState} (target : r = .running ∨ r = .stepping) :
    s.Kept (s.modAlarm fun a => { a with homingTarget := some r }) :=
  .of_alarm rfl rfl rfl rfl rfl rfl id id fun ⟨idle, early, empty, bits, _, alarm⟩ =>
    ⟨idle, early, empty, bits, fun t ht => by cases ht; exact target, alarm⟩

theorem enterHoming_kept {s : State} {r : RunState} (stopped : s.alarm.run = .stopped)
    (target : r = .running ∨ r = .stepping) : s.Kept (s.enterHoming r) :=
  (setTarget_kept s target).trans <| (setRun_kept (by simp [stopped]) (by simp)).trans <|
    (requestHoming_kept _).trans (recoveryReturn_kept _)

/-- With the homing done the run state becomes the homing target, which is RUNNING or STEPPING (R149). -/
theorem homingReported_kept (s : State) : s.Kept s.homingReported := by
  unfold State.homingReported
  split
  next r run target =>
    refine .enterWork (.of_alarm (by simp) (by simp) (by simp) (by simp) (by simp) (by simp) (by simp [setRun_alarm])
      (by simp [run]) fun h => AlarmFitsList.of_run (by simp) (by simp) (by simp [setRun_alarm]) (by simp [run]) ?_
        (by simp [setRun_alarm]) h)
    obtain ⟨-, -, -, -, targets, -⟩ := h
    rcases targets r target with rfl | rfl <;> simp
  next => exact endIfQuiet_kept s

theorem homingDone_kept (s : State) : s.Kept s.homingDone := (Kept.modTable s _).trans (homingReported_kept _)

theorem pressRun_kept {s : State} (stopped : s.alarm.run = .stopped) : s.Kept s.pressRun := by
  have cleared : s.Kept (s.modAlarm fun a => { a with rowHold := false }) := modAlarm_kept rfl rfl fun _ => id
  unfold State.pressRun
  dsimp only
  split
  · exact .enterWork (cleared.trans (setRun_kept (by simp [stopped]) (by simp)))
  · exact cleared.trans (enterHoming_kept (by simp [stopped]) (by simp))

theorem pressStep_kept {s : State} (stopped : s.alarm.run = .stopped) : s.Kept s.pressStep := by
  have cleared : s.Kept (s.modAlarm fun a => { a with rowHold := false, stepUsed := false }) :=
    modAlarm_kept rfl rfl fun _ => id
  unfold State.pressStep
  dsimp only
  split
  · exact .enterWork (cleared.trans (setRun_kept (by simp [stopped]) (by simp)))
  · exact cleared.trans (enterHoming_kept (by simp [stopped]) (by simp))

theorem stops_ne {r : RunState} (h : r.stops = true) : r ≠ .configFault ∧ r ≠ .alarm := by
  cases r <;> simp [RunState.stops] at h <;> simp

theorem pressStop_kept {s : State} (stops : s.alarm.run.stops = true) : s.Kept s.pressStop :=
  have cleared : s.Kept (s.modAlarm fun a => { a with homingTarget := none, rowHold := false }) :=
    modAlarm_kept rfl rfl (by simp)
  have stopping := setRun_kept (s := s.modAlarm fun a => { a with homingTarget := none, rowHold := false })
    (r := .stopping) (stops_ne stops) (by decide)
  cleared.trans (stopping.trans (endIfQuiet_kept _))

theorem markAttempted_kept (s : State) : s.Kept s.markAttempted := by
  unfold State.markAttempted
  cases queue : s.tape.queue with
  | nil => exact .modTape_same (by simp [queue]) rfl rfl
  | cons e es => exact .modTape_oldest (e' := { e with attempted := true }) queue (by simp [queue])

theorem strokeOutcome_kept (s : State) (e : Entry) (l : Leads) : s.Kept (s.strokeOutcome e l) := by
  have counted := Kept.removeCounted (.refl s) e
  unfold State.strokeOutcome
  dsimp only
  split
  · exact (counted .inserted).trans (followOn_kept _)
  · exact (counted (.missed .leadMiss)).trans ((raise_kept _ _).trans (followOn_kept _))

theorem strokeDone_kept (s : State) : s.Kept s.strokeDone := by
  unfold State.strokeDone
  dsimp only
  refine .trans ?_ (.modHead _ _)
  split
  · exact (Kept.modHead s _).trans ((evaluate_kept _ _ _).trans (strokeOutcome_kept _ _ _))
  · exact (Kept.modHead s _).trans (evaluate_kept _ _ _)

/-! ## CLEAR and PURGE (R57, R58, R122, R139, R153) -/

/-- A CLEAR leaves ALARM exactly with the last stop entry gone (R153 step 3). -/
theorem clearAlarms_kept (s : State) : s.Kept s.clearAlarms := by
  have fewer : (s.alarm.list.filter AlarmEntry.persists).length ≤ s.alarm.list.length := List.length_filter_le _ _
  unfold State.clearAlarms
  dsimp only
  split
  next stops =>
    obtain ⟨run, none⟩ := stops
    have run : s.alarm.run = .alarm := run
    refine .trans (.of_alarm (by simp) (by simp) (by simp) (by simp) (by simp) (by simp)
      (fun room => by simpa [setRun_alarm, Alarm.cleared] using fewer.trans room) (by simp [run]) fun h => ?_) (endIfQuiet_kept _)
    obtain ⟨idle, early, -, bits, targets, -⟩ := h
    unfold State.AlarmFitsList
    simp only [setRun_frame, modAlarm_reader, setRun_alarm, modAlarm_alarm]
    refine ⟨idle, fun h => by simp [early h] at run, nofun, fun e he => ?_, targets, nofun, fun stop => ?_⟩
    · rw [stopBit_congr (s := s) (by simp)]
      exact bits e (List.mem_of_mem_filter he)
    · exact absurd stop (Bool.eq_false_iff.1 none)
  next stays =>
    refine .of_alarm rfl rfl rfl rfl rfl rfl fewer.trans id fun h => ?_
    obtain ⟨idle, early, empty, bits, targets, alarm⟩ := h
    refine ⟨idle, early, fun off => by simp [Alarm.cleared, empty off], fun e he => ?_, targets, fun run => ?_,
      fun stop => alarm.2 ?_⟩
    · exact bits e (List.mem_of_mem_filter he)
    · exact Bool.not_eq_false _ ▸ fun none => stays ⟨run, none⟩
    · obtain ⟨e, he, stop⟩ := List.any_eq_true.1 stop
      exact List.any_eq_true.2 ⟨e, List.mem_of_mem_filter he, stop⟩

theorem recoverTape_kept (s : State) : s.Kept s.recoverTape := by
  have queue (q : List Entry) (sub : q.Sublist s.tape.queue) (tail : ∀ e ∈ q.tail, e ∈ s.tape.queue.tail) :
      s.Kept (s.abandon.modTape fun t => { t with queue := q }) :=
    (abandon_kept s).trans (.modTape_fewer (by simpa using sub.length_le) (by simpa using tail) rfl rfl)
  have kept := queue (if s.head.phase.stroking then s.tape.queue.take 1 else [])
    (by split; exacts [List.take_sublist _ _, List.nil_sublist _])
    (by split <;> rcases s.tape.queue with _ | ⟨e, es⟩ <;> simp)
  unfold State.recoverTape
  dsimp only
  refine .trans (.trans ?_ (.modTape_same rfl rfl rfl)) (checkFlush_kept _)
  split
  · exact kept.trans (rewind_kept _ _ _)
  · exact kept.trans (rewind_kept _ _ _)
  · exact kept

theorem clearTape_kept (s : State) : s.Kept s.clearTape := by
  unfold State.clearTape
  split
  · exact .refl s
  split
  · exact .refl s
  · exact .modTape_same rfl rfl rfl
  · exact recoverTape_kept s

theorem pressClear_kept (s : State) : s.Kept s.pressClear := by
  refine (clearAlarms_kept s).trans ((clearTape_kept _).trans (.modTrav ?_ ?_))
  · unfold Trav.cleared; split <;> exact id
  · unfold Trav.cleared; split <;> simp_all

theorem purgeBoard_kept (s : State) : s.Kept s.purgeBoard := by
  have request : s.Kept (if s.work.state = .scanning then s.modTable fun x => { x with markRequest := none } else s) := by
    split
    · exact .modTable s _
    · exact .refl s
  have purged (t : State) : t.Kept (t.modWork Work.purged) :=
    .modWork (fun _ => .of_none rfl) (fun _ => rfl) fun _ => by rw [workFits_iff]; simp [Work.purged]
  have closed (t : State) :
      t.Kept (if s.work.state = .matching then t.modTrav fun x => { x with takeOpen := false } else t) := by
    split
    · exact .modTrav id id
    · exact .refl t
  unfold State.purgeBoard
  dsimp only
  refine .trans (.trans (.trans ?_ (closed _)) (purged _)) (modAlarm_kept rfl rfl fun _ => id)
  split
  · exact request.trans (armFlush_kept _ _)
  · exact request

/-! ## The table -/

theorem raiseLimit_kept (s : State) (k : Option Nat) : s.Kept (s.raiseLimit k) := raise_kept s _

theorem askAgain_kept (s : State) (p : Purpose) : s.Kept (s.askAgain p) := by
  unfold State.askAgain
  split
  · exact .modTable s _
  · exact .refl s

theorem hitLimit_kept (s : State) : s.Kept s.hitLimit := by
  unfold State.hitLimit
  split
  · exact (Kept.modTable s _).trans (raiseLimit_kept _ _)
  · exact ((Kept.modTable s _).trans (raiseLimit_kept _ _)).trans (askAgain_kept _ _)
  · exact reportCondition_kept s _ _

theorem refuseMove_kept (s : State) (k : Option Nat) : s.Kept (s.refuseMove k) :=
  (Kept.modTable s _).trans (raiseLimit_kept _ _)

theorem startMove_kept (s : State) (p : Purpose) (goal : Target) : s.Kept (s.startMove p goal) := .modTable s _

theorem tryInsertMove_kept (s : State) : s.Kept s.tryInsertMove := by
  unfold State.tryInsertMove
  split
  · exact .refl s
  · split
    · exact refuseMove_kept s _
    · exact startMove_kept s _ _

/-! ## The tape and the verifier -/

theorem giveVerdict_kept (s : State) (lap : Lap) (k : Nat) (v : Verdict) (codes : List Nat) :
    s.Kept (s.giveVerdict lap k v codes) := by
  refine .trans (.trans (.modTape_map (fun e =>
    if e.record.lap = lap ∧ e.record.ordinal = k then { e with verdict := v, codes := codes } else e)
    (fun e => ?_) rfl rfl rfl) (.modVerifier _ _)) (evaluate_kept _ _ _)
  split <;> exact ⟨id, rfl⟩

theorem measure_kept (s : State) (pres : Bool) (r : Record) : s.Kept (s.measure pres r) := by
  unfold State.measure
  split
  · exact giveVerdict_kept s _ _ _ _
  split
  · exact giveVerdict_kept s _ _ _ _
  · exact .modVerifier s _

/-- A feed in flight has room in the queue for the entry that it brings (R42, R43). -/
theorem append_kept {s : State} (feeding : s.tape.feeding = true) (r : Record) :
    s.Kept (s.modTape fun t => { t with feeding := false, timer := none, queue := t.queue ++ [newEntry r] }) where
  room := id
  depth := by
    rintro ⟨⟨idle, quiet⟩, -, room⟩
    refine ⟨⟨idle, fun early => ?_⟩, ?_, nofun⟩
    · simp [(quiet early).2.2] at feeding
    · simpa [State.header] using room feeding
  buffer := id
  oldest h := by
    intro e he
    rcases queue : s.tape.queue with _ | ⟨x, xs⟩
    · simp [queue] at he
    · simp only [modTape_tape, queue, List.cons_append, List.tail_cons, List.mem_append, List.mem_singleton] at he
      rcases he with he | rfl
      · exact h e (by simpa [queue] using he)
      · exact ⟨rfl, rfl⟩
  misses := id
  timers h := ⟨rfl, h.2⟩
  work := id
  peers := id
  alarm := id
  rows := id
  program _ := ⟨rfl, rfl, rfl, rfl, rfl⟩

/-- Records leave the buffer (R19). -/
theorem consume_kept (s : State) {rest : List Record} (fewer : rest.length ≤ s.reader.buffer.length) :
    s.Kept (s.modReader fun d => { d with buffer := rest }) :=
  .modReader_walk rfl rfl rfl rfl fun h =>
    ⟨fewer.trans h.1, fun d hd walk mark => fewer.trans_lt (h.2 d hd walk mark)⟩

theorem feedEnds_kept {s : State} (feeding : s.tape.feeding = true) (pres : Bool) {r : Record} {rest : List Record}
    (buffer : s.reader.buffer = r :: rest) : s.Kept (s.feedEnds pres r rest) := by
  have measured := (append_kept feeding r).trans <| (consume_kept _ (rest := rest) (by simp [buffer])).trans <|
    (issueRead_kept _).trans <| (measure_kept _ pres r).trans (evaluate_kept _ .m3 (s.now - s.tape.startedAt))
  unfold State.feedEnds
  dsimp only
  refine .trans (.trans ?_ (bookkeep_kept _)) (endIfQuiet_kept _)
  split
  · exact measured.trans (checkFlush_kept _)
  · exact measured

theorem resync_kept (s : State) : s.Kept s.resync := by
  refine .trans (.modTape_map (fun e =>
    { e with verdict := .unchecked, codes := [], decision := if e.attempted then e.decision else none })
    (fun e => ⟨fun h => ?_, rfl⟩) rfl rfl rfl) (decideOldest_kept _)
  simp [h]

theorem breakTape_kept (s : State) : s.Kept s.breakTape := (Kept.modTape_stop rfl rfl rfl).trans (raise_kept _ _)

theorem raiseTapeLow_kept (s : State) : s.Kept s.raiseTapeLow := raise_kept s _

end State
end Sys2Proof.Machine
end

section
/-!
# What every step keeps: travellers, the link and the program reader
-/
namespace Sys2Proof.Machine

namespace Link

@[simp] theorem fail_queues (l : Link) (cause : LinkCounters → LinkCounters) :
    (l.fail cause).rx = l.rx ∧ (l.fail cause).tx = l.tx ∧ (l.fail cause).peers = l.peers := ⟨rfl, rfl, rfl⟩

@[simp] theorem gap_queues (l : Link) : l.gap.rx = l.rx ∧ l.gap.tx = l.tx ∧ l.gap.peers = l.peers := by
  unfold Link.gap; split <;> exact ⟨rfl, rfl, rfl⟩

@[simp] theorem markDue_queues (l : Link) :
    l.markDue.rx = l.rx ∧ l.markDue.tx = l.tx ∧ l.markDue.peers = l.peers := by
  unfold Link.markDue; split <;> exact ⟨rfl, rfl, rfl⟩

/-- The transmit queue after a collision or a sending is as it was, or has lost its oldest frame. -/
theorem retry_queues (l : Link) (status : Bool) :
    (l.retry status).rx = l.rx ∧ (l.retry status).tx.length ≤ l.tx.length ∧ (l.retry status).peers = l.peers := by
  unfold Link.retry Link.countDropped
  split
  · split <;> simp
  · split <;> simp

theorem hasRoom_iff (l : Link) : l.hasRoom = true ↔ l.tx.length < 4 := by
  unfold Link.hasRoom Config.frameRoom
  exact decide_eq_true_iff

theorem sent_queues (l : Link) (status : Bool) :
    (l.sent status).rx = l.rx ∧ (l.sent status).tx.length ≤ l.tx.length ∧ (l.sent status).peers = l.peers := by
  unfold Link.sent Link.quiet
  split <;> simp

end Link

namespace Trav

/-- A STATUS of the downstream station ends the watch with its timer, or leaves phase and timer as they are (R134). -/
theorem hear_watch (t : Trav) (fresh : Bool) (v : StatusView) :
    (t.hear fresh v).timer = t.timer ∧ (t.hear fresh v).phase = t.phase ∨
      (t.hear fresh v).timer = none ∧ (t.hear fresh v).phase = .none := by
  unfold Trav.hear
  dsimp only
  generalize keeps : (if !fresh || v.configFault then { t with release := none } else t) = u
  have same : u.timer = t.timer ∧ u.phase = t.phase := by
    subst keeps
    split <;> exact ⟨rfl, rfl⟩
  split
  · exact .inr ⟨rfl, rfl⟩
  · exact .inl same

@[simp] theorem hear_arrivals (t : Trav) (fresh : Bool) (v : StatusView) :
    (t.hear fresh v).arrivals = t.arrivals := by
  unfold Trav.hear
  dsimp only
  split <;> split <;> rfl

end Trav

/-- A row with images and steps joins a sound table (R13). -/
theorem RowsSound.addRow {rows : List Row} (h : RowsSound rows) {e : RowEntry} {steps : Nat} (images : e.images ≠ 0)
    (some : steps ≠ 0) : RowsSound (addRow rows e steps) := by
  intro i r hi
  unfold Sys2Proof.Machine.addRow at hi ⊢
  rcases Nat.lt_trichotomy i rows.length with lt | rfl | gt
  · rw [List.getElem?_append_left lt] at hi
    rw [List.take_append_of_le_length lt.le]
    exact h i r hi
  · rw [List.getElem?_concat_length] at hi
    cases hi
    rw [List.take_left]
    exact ⟨Nat.pos_of_ne_zero images, Nat.pos_of_ne_zero some, rfl, rfl⟩
  · rw [List.getElem?_eq_none (by simpa using gt)] at hi
    cases hi

namespace State

/-! ## The frame queues (R173, R175) -/

/-- A frame joins the transmit queue where it has room. -/
theorem queueFrame_kept {s : State} (room : s.link.tx.length < 4) (kind dest : Byte) (payload : List Byte) :
    s.Kept (s.queueFrame kind dest payload) :=
  .modLink (fun h => h) (fun _ => by simpa using room) fun h => h

theorem report_kept (s : State) (payload : List Byte) : s.Kept (s.report payload) := by
  unfold State.report
  split
  next room => exact queueFrame_kept ((Link.hasRoom_iff _).1 room) _ _ _
  next => exact .modLink_same rfl rfl rfl

theorem handDone_kept (s : State) : s.Kept s.handDone :=
  .modLink (fun h => by simp only [List.length_tail]; omega) (fun h => h)
    fun ⟨thirty, heard, status⟩ => ⟨thirty, heard, fun f hf => status f (List.mem_of_mem_tail hf)⟩

/-! ## Travellers (R130, R132, R134, R135) -/

theorem grantable_eq_some {s : State} {b : Board} {v : BitVec 8} (h : s.grantable = some (b, v)) :
    s.work.board = some b ∧ s.work.state = .done ∧ s.link.tx.length < 4 := by
  unfold State.grantable at h
  split at h
  next c view board _ =>
    rw [Option.ite_none_right_eq_some] at h
    obtain ⟨ready, same⟩ := h
    cases same
    simp only [Bool.and_eq_true, beq_iff_eq, decide_eq_true_eq] at ready
    obtain ⟨⟨⟨⟨-, done⟩, -⟩, -⟩, room⟩ := ready
    exact ⟨board, done, room⟩
  next => cases h

theorem grant_kept {s : State} (done : s.work.state = .done) (room : s.link.tx.length < 4) (b : Board) (v : BitVec 8) :
    s.Kept (s.grant b v) := by
  unfold State.grant
  have recorded (t : State) :
      t.Kept (t.modTrav fun x => { x with release := some (b.serial, v), phase := .sent, timer := none }) :=
    .modTrav id fun _ => by simp
  exact (queueFrame_kept room _ _ _).trans ((recorded _).trans (releaseBoard_kept (by simpa using done)))

theorem tryGrant_kept (s : State) : s.Kept s.tryGrant := by
  unfold State.tryGrant
  split
  next b v h =>
    obtain ⟨-, done, room⟩ := grantable_eq_some h
    exact grant_kept done room b v
  next => exact .refl s

/-- A confirmation ends the watch with its timer (R134). -/
theorem hearDownstream_kept (s : State) (fresh : Bool) (v : StatusView) : s.Kept (s.hearDownstream fresh v) := by
  refine .trans (.modTrav ?_ fun fits => ?_) (tryGrant_kept _)
  · rw [Trav.hear_arrivals]
    exact id
  · rcases Trav.hear_watch s.trav fresh v with ⟨timer, phase⟩ | ⟨timer, phase⟩
    · rwa [timer, phase]
    · simp [timer, phase]

theorem expire_kept (s : State) (serial : Serial) : s.Kept (s.expire serial) := by
  have removed : s.Kept (s.modTrav fun u =>
      { u with arrivals := u.arrivals.filter fun a => a.traveller.serial != serial, expiry := bump u.expiry }) :=
    .modTrav (List.length_filter_le _ _).trans id
  unfold State.expire
  dsimp only
  split
  next room =>
    have room := (Link.hasRoom_iff _).1 room
    exact removed.trans (queueFrame_kept (by simpa using room) _ _ _)
  next => exact removed.trans (.modTrav id id)

theorem arriveTraveller_kept (s : State) (t : Traveller) : s.Kept (s.arriveTraveller t) := by
  unfold State.arriveTraveller
  split
  · exact .modTrav id id
  split
  · exact (Kept.modTrav id id).trans (raise_kept _ _)
  next below =>
    split
    · exact (Kept.modTrav id id).trans (makeMatched_kept _ _)
    · refine .modTrav (fun _ => ?_) id
      simp only [Config.arrivalRoom, not_le] at below
      simpa using below

/-! ## Characters and frames (R167, R168) -/

/-- A frame that joins the receive queue has the length of its kind, and there is room for it (R168, R175). -/
theorem join_kept (s : State) {f : Frame} (allowed : lengthAllowed f.kind f.payload.length = true) :
    s.Kept (s.modLink fun l => l.join f) := by
  refine .modLink (fun room => ?_) (fun room => ?_) fun h => ?_
  · unfold Link.join Config.frameRoom
    split
    · simpa
    · exact room
  · unfold Link.join; split <;> exact room
  · obtain ⟨thirty, heard, status⟩ := h
    unfold State.PeersFit
    rw [modLink_link]
    unfold Link.join
    split
    · refine ⟨thirty, heard, fun g hg => ?_⟩
      rcases List.mem_append.1 hg with hg | hg
      · exact status g hg
      · obtain rfl := List.mem_singleton.1 hg
        intro kind
        simpa [lengthAllowed, kindStatus, kind] using allowed
    · exact ⟨thirty, heard, status⟩

theorem testContents_kept (s : State) (f : Frame) : s.Kept (s.testContents f) := by
  unfold State.testContents
  split
  · exact .modLink_same rfl rfl rfl
  next structured =>
    split
    · exact (Kept.modLink_same rfl rfl rfl).trans (raise_kept _ _)
    split
    · exact join_kept s (by simpa using (not_or.1 structured).2)
    · exact .refl s

theorem testFrame_kept (s : State) (own : Bool) (bytes : List Byte) : s.Kept (s.testFrame own bytes) := by
  unfold State.testFrame
  split
  · exact .refl s
  split
  · exact .modLink_same rfl rfl rfl
  split
  · exact testContents_kept s _
  · exact .refl s

theorem takeByte_kept (s : State) (b : Byte) : s.Kept (s.takeByte b) := by
  unfold State.takeByte
  split
  · exact .modLink_same rfl rfl rfl
  · exact .refl s
  split
  · exact .modLink_same rfl rfl rfl
  split
  · exact (Kept.modLink_same rfl rfl rfl).trans (testFrame_kept _ _ _)
  · exact .modLink_same rfl rfl rfl

theorem takeBroken_kept (s : State) : s.Kept s.takeBroken := by
  unfold State.takeBroken
  split
  · exact .refl s
  · exact .modLink_same rfl rfl rfl

theorem characterEnds_kept (s : State) (ch : Character) : s.Kept (s.characterEnds ch) := by
  have hunted : s.Kept ((s.modLines fun l => { l with link := ch.stop }).modLink
      fun l => { l with inCharacter := false, idle := 0, idlePart := 0 }) :=
    (Kept.modLines s _).trans (.modLink_same rfl rfl rfl)
  unfold State.characterEnds
  dsimp only
  split
  · exact hunted.trans (takeByte_kept _ _)
  · exact hunted.trans (takeBroken_kept _)

theorem stale_kept (s : State) (a : Nat) : s.Kept (s.modLink fun l => l.stale a) := by
  refine .modLink (fun h => h) (fun h => h) fun ⟨thirty, heard, status⟩ => ?_
  refine ⟨by simpa [Link.stale] using thirty, fun p hp => ?_, status⟩
  simp only [modLink_link, Link.stale, List.mem_iff_getElem?, List.getElem?_modify] at hp
  obtain ⟨i, hi⟩ := hp
  obtain ⟨q, hq, rfl⟩ := Option.map_eq_some_iff.1 hi
  have heard := heard q (List.mem_of_getElem? hq)
  split <;> exact heard

/-! ## Start-up reading (R8 to R14) -/

/-- Start-up reading is under way, or RESET is asserted. -/
def ReadingUp (s : State) : Prop := s.reader.straps = none ∨ s.reader.scan ≠ .idle

/-- What start-up reading changes of the reader while the run state is CONFIG_FAULT. -/
theorem Kept.modReader_early {s : State} {f : Reader → Reader} (early : s.ReadingUp)
    (straps : (f s.reader).straps = none → s.reader.straps = none ∧ s.reader.scan ≠ .idle)
    (buffer : (f s.reader).buffer = s.reader.buffer) (read : ∀ d, (f s.reader).read = some d → d.cursor = none)
    (rows : s.RowTableFits → (s.modReader f).RowTableFits) : s.Kept (s.modReader f) where
  room := id
  depth := fun ⟨⟨idle, quiet⟩, fits⟩ =>
    ⟨⟨fun none => absurd (idle (straps none).1) (straps none).2, fun _ => quiet early⟩, fits⟩
  buffer h := by
    unfold State.BufferWithinRoom
    rw [modReader_reader, buffer]
    exact ⟨h.1, fun d hd walk => by simp [read d hd] at walk⟩
  oldest := id
  misses := id
  timers := id
  work := id
  peers := id
  alarm := fun ⟨idle, quiet, rest⟩ =>
    ⟨fun none => absurd (idle (straps none).1) (straps none).2, fun _ => quiet early, rest⟩
  rows := rows
  program := fun ⟨_, scan, released⟩ => by
    rcases early with h | h
    · simp [h] at released
    · exact absurd scan h

variable {s : State}

/-- A read of start-up reading is named, or start-up reading has failed. -/
theorem failStart_kept (early : s.reader.scan ≠ .idle) (reason : ConfigReason) (detail : Nat) :
    s.Kept (s.failStart reason detail) :=
  .modReader_early (.inr early) (fun none => ⟨none, early⟩) rfl nofun fun h => ⟨h.1, nofun, nofun⟩

theorem readNext_kept (early : s.reader.scan ≠ .idle) (addr count : Nat) {scan : Scan}
    (body : s.RowTableFits → ∀ a w, scan = .rowBody a w → rowImages w ≠ 0)
    (steps : s.RowTableFits → ∀ e ra a seen, scan = .steps e ra a seen → e.images ≠ 0) :
    s.Kept (s.readNext addr count scan) :=
  .modReader_early (.inr early) (fun none => ⟨none, early⟩) rfl (fun d hd => by cases hd; rfl)
    fun h => ⟨h.1, body h, steps h⟩

theorem nextRowEntry_kept (early : s.reader.scan ≠ .idle) (addr : Nat) : s.Kept (s.nextRowEntry addr) := by
  unfold State.nextRowEntry
  split
  · exact readNext_kept early _ _ nofun nofun
  · exact failStart_kept early _ _

theorem nextStepRecord_kept (early : s.reader.scan ≠ .idle) {e : RowEntry} (images : s.RowTableFits → e.images ≠ 0)
    (rowAddr addr : Nat) (seen : List StepRecord) : s.Kept (s.nextStepRecord e rowAddr addr seen) := by
  unfold State.nextStepRecord
  split
  · exact readNext_kept early _ _ nofun fun h _ _ _ _ same => by cases same; exact images h
  · exact failStart_kept early _ _

theorem rowRead_kept (early : s.reader.scan ≠ .idle) (h : Header) {e : RowEntry}
    (images : s.RowTableFits → e.images ≠ 0) (rowAddr : Nat) {steps : List StepRecord} (some : steps ≠ []) :
    s.Kept (s.rowRead h e rowAddr steps) := by
  unfold State.rowRead
  split
  · exact failStart_kept early _ _
  split
  · exact failStart_kept early _ _
  split
  · exact failStart_kept early _ _
  · have added : s.Kept (s.modReader fun r => { r with rows := addRow r.rows e steps.length }) := {
      room := id, depth := id, buffer := id, oldest := id, misses := id, timers := id, work := id, peers := id, alarm := id
      rows := fun h => ⟨RowsSound.addRow h.1 (images h) (by simpa using some), h.2⟩
      program := fun walks => absurd walks.2.1 early }
    exact added.trans (nextRowEntry_kept (by simpa using early) _)

theorem takeHeader_kept (early : s.reader.scan ≠ .idle) (ws : List Word) : s.Kept (s.takeHeader ws) := by
  unfold State.takeHeader
  split
  · exact failStart_kept early _ _
  split
  · exact failStart_kept early _ _
  · exact (Kept.modReader_walk rfl rfl rfl rfl fun h => h).trans (nextRowEntry_kept (by simpa using early) _)

/-- The start-up reads of the units at the end of a valid start-up (R14). -/
def startUpReads (s : State) : State :=
  let c := s.issueRead
  let d := if c.lines.tbrk then c.breakTape else c
  let e := if d.lines.tend then d.raiseTapeLow else d
  let f := if e.lines.top then e.modHead fun x => { x with phase := .top } else e
  if f.lines.bwk then f.makeUntracked else f

theorem startUpReads_kept (s : State) : s.Kept s.startUpReads := by
  have ifThen {t u : State} (c : Prop) [Decidable c] (h : t.Kept u) : t.Kept (if c then u else t) := by
    split
    · exact h
    · exact .refl t
  unfold State.startUpReads
  exact (issueRead_kept s).trans <| (ifThen _ (breakTape_kept _)).trans <| (ifThen _ (raiseTapeLow_kept _)).trans <|
    (ifThen _ (.modHead _ _)).trans (ifThen _ (makeOwnBoard_kept _ _))

/-- What start-up reading hands on at its end, the start-up reads apart (R14). -/
def handedOn (s : State) : State :=
  let h := s.reader.draft.getD default
  let a := ((s.setHdr h).modReader fun r =>
      { r with phase := .walking, scan := .idle, draft := none, cursor := .first, read := none }).modTable
    fun t => { t with commanded := { t.commanded with span := h.spanMin } }
  ((a.modLink fun l => l.toHeader h).modAlarm fun x => { x with windowTimer := some Config.windowTime }).setRun .stopped

theorem startUpEnds_eq (s : State) : s.startUpEnds = s.handedOn.startUpReads := rfl

@[simp] theorem handedOn_frame (s : State) :
    s.handedOn.tape = s.tape ∧ s.handedOn.trav = s.trav ∧ s.handedOn.work = s.work ∧ s.handedOn.verifier = s.verifier ∧
    s.handedOn.lines = s.lines ∧ s.handedOn.pending = s.pending ∧ s.handedOn.now = s.now := by
  simp [State.handedOn]

theorem handedOn_reader (s : State) : s.handedOn.reader = { s.reader with
    phase := .walking, scan := .idle, draft := none, cursor := .first, read := none } := by
  simp [State.handedOn]

theorem handedOn_alarm (s : State) : s.handedOn.alarm = { s.alarm with
    run := .stopped, windowTimer := some Config.windowTime } := by
  simp [State.handedOn, setRun_alarm]

theorem handedOn_queues (s : State) :
    s.handedOn.link.rx = s.link.rx ∧ s.handedOn.link.tx = s.link.tx ∧ s.handedOn.link.peers = s.link.peers := by
  unfold State.handedOn
  refine Link.queues_of_butSlot (l := s.link.toHeader (s.reader.draft.getD default)) ?_
  simp

/-- Until start-up reading has ended the station is at rest in CONFIG_FAULT with nothing listed, so what it hands on
meets every invariant. -/
theorem handedOn_kept (early : s.reader.scan ≠ .idle) : s.Kept s.handedOn := by
  obtain ⟨rx, tx, peers⟩ := handedOn_queues s
  exact {
    room := by unfold State.WithinRoom; rw [rx, tx, handedOn_alarm]; simp
    depth := by
      rintro ⟨⟨idle, quiet⟩, -⟩
      obtain ⟨-, queue, still⟩ := quiet (.inr early)
      unfold State.QueueWithinDepth State.StartUpQuiet
      simp only [handedOn_frame, handedOn_reader, queue, still, List.length_nil]
      exact ⟨⟨fun _ => trivial, fun h => absurd (idle (h.resolve_right fun h => h rfl)) early⟩, Nat.zero_le _, nofun⟩
    buffer := by
      unfold State.BufferWithinRoom
      rw [handedOn_reader]
      exact fun h => ⟨h.1, nofun⟩
    oldest := by unfold State.OnlyOldestDecided; simp
    misses := by unfold State.MissesCounted; simp
    timers := by unfold State.TimersFit; simp
    work := by unfold State.WorkFits; simp
    peers := by unfold State.PeersFit; rw [rx, peers]; exact id
    alarm := by
      rintro ⟨idle, quiet, empty, -, targets, -⟩
      have list : s.alarm.list = [] := empty (quiet (.inr early))
      unfold State.AlarmFitsList Alarm.stopListed
      simp only [handedOn_reader, handedOn_alarm, list]
      exact ⟨fun _ => trivial, fun h => absurd (idle (h.resolve_right fun h => h rfl)) early, nofun, nofun, targets,
        by simp⟩
    rows := by
      unfold State.RowTableFits
      simp only [handedOn_reader]
      exact fun h => ⟨h.1, nofun, nofun⟩
    program := fun walks => absurd walks.2.1 early }

theorem takeRowHead_kept (early : s.reader.scan ≠ .idle) (addr : Nat) (w0 : Word) : s.Kept (s.takeRowHead addr w0) := by
  unfold State.takeRowHead
  split
  · split
    · exact failStart_kept early _ _
    · rw [startUpEnds_eq]; exact (handedOn_kept early).trans (startUpReads_kept _)
  next images =>
    split
    · exact failStart_kept early _ _
    split
    · exact readNext_kept early _ _ (fun _ a w same => by cases same; exact images) nofun
    · exact failStart_kept early _ _

theorem rowEntryOf_images {w0 : Word} {ws : List Word} {e : RowEntry} (h : rowEntryOf w0 ws = some e) :
    e.images = rowImages w0 := by
  unfold rowEntryOf at h
  dsimp only at h
  split at h
  · cases h; rfl
  · cases h

theorem takeStartUp_kept (s : State) (ws : List Word) : s.Kept (s.takeStartUp ws) := by
  unfold State.takeStartUp
  split
  next => exact .refl s
  next scan => exact takeHeader_kept (by simp [scan]) ws
  next addr scan => exact takeRowHead_kept (by simp [scan]) addr _
  next addr w0 scan =>
    have early : s.reader.scan ≠ .idle := by simp [scan]
    unfold State.takeRowBody
    split
    next e read =>
      refine nextStepRecord_kept early (fun h => ?_) _ _ _
      rw [rowEntryOf_images read]
      exact h.2.1 addr w0 scan
    next => exact failStart_kept early _ _
  next e rowAddr addr seen scan =>
    have early : s.reader.scan ≠ .idle := by simp [scan]
    have images (h : s.RowTableFits) : e.images ≠ 0 := h.2.2 e rowAddr addr seen scan
    unfold State.takeStepRecord
    dsimp only
    split
    · split
      · exact failStart_kept early _ _
      next some => exact rowRead_kept early _ images _ some
    split
    · exact failStart_kept early _ _
    split
    · exact nextStepRecord_kept early images _ _ _
    · exact failStart_kept early _ _

/-- The read in flight is over. -/
theorem readOver_kept (s : State) : s.Kept (s.modReader fun r => { r with read := none }) :=
  .modReader_walk rfl rfl rfl rfl fun h => ⟨h.1, nofun⟩

/-- A walking read has room in the buffer for its record (R18). -/
theorem takeWalk_kept {d : Read} {c : Cursor} (read : s.reader.read = some d) (walk : d.cursor = some c)
    (ws : List Word) : s.Kept (s.takeWalk d c ws) := by
  refine .trans (.modReader_walk rfl rfl rfl rfl fun h => ⟨?_, by simp⟩) (issueRead_kept _)
  have room := h.2 d read (by simp [walk])
  simp only [modReader_reader]
  split
  · exact h.1
  next mark =>
    simp only [List.length_append, List.length_singleton]
    exact room (by simpa using mark)

end State
end Sys2Proof.Machine
end

section
/-!
# What every step keeps: the commands

Each command but RESET answers the state itself, or the end of a command (`State.finish`) on a state that keeps what the
invariants hold.
-/
namespace Sys2Proof.Machine

/-- A command that began in `s` answers `s` itself, or ends on a state that keeps the invariants of `s`. -/
def State.Ends (s : State) (o : Host.Outcome State Fault Refusal) : Prop :=
  ∀ t, o = .next t → t = s ∨ ∃ u, s.Kept u ∧ t = s.settle u

namespace State
variable {s t u : State}

theorem Ends.same (s : State) : s.Ends (.next s) := fun t h => .inl (by cases h; rfl)

theorem Ends.fault (s : State) (f : Fault) : s.Ends (.fault f) := fun t h => by cases h

theorem Kept.ends (h : s.Kept t) : s.Ends (s.finish t) := fun u hu => .inr ⟨t, h, by cases hu; rfl⟩

theorem Ends.ite {c : Prop} [Decidable c] {o p : Host.Outcome State Fault Refusal} (yes : c → s.Ends o)
    (no : ¬c → s.Ends p) : s.Ends (if c then o else p) := by
  split
  · exact yes ‹_›
  · exact no ‹_›

theorem Kept.ite {c : Prop} [Decidable c] (yes : c → s.Kept t) (no : ¬c → s.Kept u) : s.Kept (if c then t else u) := by
  split
  · exact yes ‹_›
  · exact no ‹_›

/-! ## Reset and the program reader -/

theorem execResetRelease_ends (addr : BitVec 5) (role : Role) (localStrap : Bool) (s : State) :
    s.Ends (execResetRelease addr role localStrap s) := by
  refine .ite (fun _ => .same s) fun asserted => ?_
  have early : s.ReadingUp := .inl (by simpa [State.released] using asserted)
  have begun (f : Reader → Reader) (straps : (f s.reader).straps.isSome = true)
      (buffer : (f s.reader).buffer = s.reader.buffer) (read : ∀ d, (f s.reader).read = some d → d.cursor = none)
      (rows : (f s.reader).rows = s.reader.rows) (scan : (f s.reader).scan = .idle ∨ (f s.reader).scan = .header) :
      s.Kept ((s.modReader f).modLink fun l => { l with due := true, statusTimer := some l.period }) := by
    refine .trans (.modReader_early early (fun none => by simp [none] at straps) buffer read fun h => ?_)
      (.modLink_same rfl rfl rfl)
    unfold State.RowTableFits
    rw [modReader_reader, rows]
    exact ⟨h.1, by rcases scan with h | h <;> simp [h], by rcases scan with h | h <;> simp [h]⟩
  refine Kept.ends (.ite (fun _ => ?_) fun _ => ?_)
  · exact begun (fun r => { r with
      straps := some ⟨addr, role, localStrap⟩, read := some ⟨0, Config.headerWords, none, false⟩, scan := .header })
      rfl rfl (by rintro d ⟨⟩; rfl) rfl (.inr rfl)
  · exact begun (fun r => { r with
      straps := some ⟨addr, role, localStrap⟩, phase := .fault, reason := .c07, detail := addr.toNat, scan := .idle,
      draft := none, read := none }) rfl rfl (by simp) rfl (.inl rfl)

theorem execPmemReadCompletion_ends (words : List Word) (s : State) : s.Ends (execPmemReadCompletion words s) := by
  unfold execPmemReadCompletion
  split
  next => exact .same s
  next d read =>
    refine .ite (fun _ => .fault s _) fun _ => ?_
    split
    next c walk => exact (takeWalk_kept read walk words).ends
    next => exact ((readOver_kept s).trans (takeStartUp_kept _ words)).ends

/-! ## The tape and the verifier -/

theorem execFeedStart_ends (s : State) : s.Ends (execFeedStart s) := by
  refine .ite (fun ready => ?_) fun _ => .same s
  have fed := tryFeed_kept s
  unfold State.tryFeed at fed
  rw [if_pos ready] at fed
  exact fed.ends

theorem execIndexEvent_ends (pres : Bool) (s : State) : s.Ends (execIndexEvent pres s) := by
  unfold execIndexEvent
  refine .ite (fun feeding => ?_) fun _ => (Kept.modLines s _).ends
  split
  next r rest buffer => exact ((Kept.modLines s _).trans (feedEnds_kept (by simpa using feeding) pres buffer)).ends
  next => exact ((Kept.modLines s _).trans ((Kept.modTape_stop rfl rfl rfl).trans (endIfQuiet_kept _))).ends

theorem execConversionCompletion_ends (code : BitVec 12) (s : State) : s.Ends (execConversionCompletion code s) := by
  have free := Kept.modVerifier s fun v => { v with conversion := none }
  have judged (lap : Lap) (k : Nat) (v : Verdict) (codes : List Nat) :
      s.Kept ((s.modVerifier fun v => { v with conversion := none }).giveVerdict lap k v codes).takeRowHold.decideOldest :=
    free.trans ((giveVerdict_kept _ _ _ _ _).trans ((takeRowHold_kept _).trans (decideOldest_kept _)))
  unfold execConversionCompletion
  split
  next => exact .same s
  next c _ =>
    refine .ite (fun _ => ?_) fun _ => ?_
    · split
      · exact (free.trans (.modVerifier _ _)).ends
      · exact free.ends
    · split
      · exact .ite (fun _ => (free.trans (.modVerifier _ _)).ends) fun _ => (judged _ _ _ _).ends
      · exact (judged _ _ _ _).ends
      · exact free.ends

theorem execPassExecution_ends (s : State) : s.Ends (execPassExecution s) := by
  have counted (e : Entry) (o : StepOutcome) :=
    (removeOldest_kept s).trans (takeOutcome_kept _ e.record.lap e.record.ordinal o)
  unfold execPassExecution
  split
  next e _ _ =>
    refine Kept.ends (.trans (.trans ?_ (useStep_kept _)) ((followOn_kept _).trans (endIfQuiet_kept _)))
    split
    · exact counted e _
    · exact counted e _
    · exact removeOldest_kept s
  next => exact .same s

theorem execTapeJam_ends (s : State) : s.Ends (execTapeJam s) :=
  .ite (fun _ => ((Kept.modTape_stop rfl rfl rfl).trans ((abandon_kept _).trans ((resync_kept _).trans
    (raise_kept _ _)))).ends) fun _ => .same s

theorem execTapeBreak_ends (s : State) : s.Ends (execTapeBreak s) :=
  Kept.ends (.ite (fun _ => (Kept.modLines s _).trans (breakTape_kept _)) fun _ => .modLines s _)

theorem execTbrkInactive_ends (s : State) : s.Ends (execTbrkInactive s) :=
  ((Kept.modLines s _).trans (reportCondition_kept _ _ _)).ends

theorem execTapeLow_ends (s : State) : s.Ends (execTapeLow s) :=
  ((Kept.modLines s _).trans (raiseTapeLow_kept _)).ends

theorem execTendInactive_ends (s : State) : s.Ends (execTendInactive s) :=
  ((Kept.modLines s _).trans (reportCondition_kept _ _ _)).ends

/-! ## The table -/

theorem execHomingBegin_ends (home : HomeLevels) (bin : Bool) (s : State) : s.Ends (execHomingBegin home bin s) := by
  refine .ite (fun _ => .ite (fun _ => ?_) fun _ => Kept.ends ?_) fun _ => (Kept.modLines s _).ends
  · exact ((Kept.modLines s _).trans ((Kept.modTable _ _).trans (raiseLimit_kept _ _))).ends
  · have begun := (Kept.modLines s fun l => { l with home := home, bin := bin }).trans (.modTable _ fun x =>
      { x with activity := .homing, seeking := homeSeek home })
    exact .ite (fun _ => begun.trans (homingDone_kept _)) fun _ => begun

theorem execHomeSensor_ends (axis : Axis) (bin : Bool) (s : State) : s.Ends (execHomeSensor axis bin s) := by
  refine .ite (fun _ => Kept.ends ?_) fun _ => (Kept.modLines s _).ends
  have reached := (Kept.modLines s fun l => { l with home := homeReach l.home axis, bin := bin }).trans
    (.modTable _ fun x => { x with seeking := s.table.seeking.filter fun a => a != axis })
  exact .ite (fun _ => reached.trans (homingDone_kept _)) fun _ => reached

theorem execHomeFail_ends (s : State) : s.Ends (execHomeFail s) :=
  .ite (fun _ => ((Kept.modTable s _).trans (raise_kept _ _)).ends) fun _ => .same s

theorem execTableLimit_ends (axis : LimitAxis) (s : State) : s.Ends (execTableLimit axis s) :=
  Kept.ends (.ite (fun _ => (Kept.modLines s _).trans (hitLimit_kept _)) fun _ => .modLines s _)

theorem execLimitInactive_ends (s : State) : s.Ends (execLimitInactive s) :=
  ((Kept.modLines s _).trans (reportCondition_kept _ _ _)).ends

theorem execInsertMoveStart_ends (s : State) : s.Ends (execInsertMoveStart s) := by
  unfold execInsertMoveStart
  split
  · exact .same s
  · exact (tryInsertMove_kept s).ends

theorem execMarkMoveStart_ends (mark : Bool) (s : State) : s.Ends (execMarkMoveStart mark s) := by
  unfold execMarkMoveStart
  have sampled := Kept.modLines s fun l => { l with mark := mark }
  split
  next => exact sampled.ends
  next g _ =>
    refine .ite (fun _ => ?_) fun _ => .ite (fun _ => ?_) fun _ => ?_
    · exact (sampled.trans ((Kept.modTable _ _).trans ((markArrival_kept _ _ _).trans (endIfQuiet_kept _)))).ends
    · exact (sampled.trans (refuseMove_kept _ _)).ends
    · exact (sampled.trans ((Kept.modTable _ _).trans (startMove_kept _ _ _))).ends

theorem execMoveComplete_ends (mark : Bool) (s : State) : s.Ends (execMoveComplete mark s) := by
  unfold execMoveComplete
  have sampled := Kept.modLines s fun l => { l with mark := mark }
  split
  next m _ _ =>
    refine Kept.ends (.trans ?_ ((tryInsertMove_kept _).trans (endIfQuiet_kept _)))
    split
    · exact sampled.trans ((Kept.modTable _ _).trans (markArrival_kept _ _ _))
    · exact sampled.trans (.modTable _ _)
  next => exact sampled.ends

/-! ## The head -/

theorem execStrokeStart_ends (s : State) : s.Ends (execStrokeStart s) := by
  unfold execStrokeStart
  split
  next => exact .same s
  next e _ =>
    refine Kept.ends (.trans (.trans ?_ (useStep_kept _)) (.modHead _ _))
    split
    · exact (Kept.modHead s _).trans (evaluate_kept _ _ _)
    · exact .modHead s _

theorem execBottomEdge_ends (s : State) : s.Ends (execBottomEdge s) :=
  .ite (fun _ => (Kept.modHead s _).ends) fun _ => .same s

theorem execClinchDoneEdge_ends (cla clb : Bool) (s : State) : s.Ends (execClinchDoneEdge cla clb s) :=
  .ite (fun _ => ((Kept.modLines s _).trans (.modHead _ _)).ends) fun _ => .same s

theorem execConfirmSample_ends (cla clb : Bool) (s : State) : s.Ends (execConfirmSample cla clb s) := by
  unfold execConfirmSample
  split
  · exact ((Kept.modLines s _).trans (.modHead _ _)).ends
  · exact .same s

theorem execTopEdge_ends (s : State) : s.Ends (execTopEdge s) := by
  unfold execTopEdge
  have noted := Kept.modLines s fun l => { l with top := true }
  dsimp only
  split
  · exact (noted.trans ((strokeDone_kept _).trans (endIfQuiet_kept _))).ends
  · exact (noted.trans ((returnDone_kept _).trans (endIfQuiet_kept _))).ends
  · exact noted.ends

theorem execHeadJam_ends (s : State) : s.Ends (execHeadJam s) :=
  .ite (fun _ => ((Kept.modHead s _).trans ((markAttempted_kept _).trans (raise_kept _ _))).ends) fun _ =>
    .ite (fun _ => ((Kept.modHead s _).trans (raise_kept _ _)).ends) fun _ => .same s

theorem execHeadDrop_ends (s : State) : s.Ends (execHeadDrop s) :=
  Kept.ends (.ite (fun _ => (Kept.modLines s _).trans (dropHead_kept _)) fun _ => .modLines s _)

/-! ## The board at the work position -/

/-- The work position enters with its operation and its drive in one (R109). -/
theorem enter_kept (empty : s.work.state = .empty) :
    s.Kept ((s.modWork fun w => { w with state := .entering }).drive .conveyorIn) := by
  refine .modWork (s := s) (f := fun w => { ({ w with state := .entering } : Work).driveFor s.lines.bout .conveyorIn with
    op := some (.conveyorIn, .driving), opTimer := some (opTimeout s.header .conveyorIn) })
    (fun h b hb => h b hb) (fun _ => rfl) fun h => ?_
  rw [workFits_iff] at h ⊢
  obtain ⟨board, -⟩ := h
  simpa [OpKind.workState, empty] using board

theorem execConveyorInStart_ends (s : State) : s.Ends (execConveyorInStart s) := by
  refine .ite (fun ready => ?_) fun _ => (Kept.modLines s _).ends
  simp only [State.conveyorInReady, Bool.and_eq_true, beq_iff_eq] at ready
  obtain ⟨⟨⟨-, empty⟩, -⟩, -⟩ := ready
  have driven := (Kept.modLines s fun l => { l with bin := true }).trans (enter_kept empty)
  unfold State.startConveyorIn
  exact Kept.ends (.ite (fun _ => driven.trans (arrive_kept (.inl rfl))) fun _ => driven)

theorem execBwkActive_ends (s : State) : s.Ends (execBwkActive s) := by
  have noted := Kept.modLines s fun l => { l with bwk := true }
  refine .ite (fun _ => noted.ends) fun _ => ?_
  split
  next state => exact (noted.trans ((arrive_kept (by exact .inl state)).trans (endIfQuiet_kept _))).ends
  next => exact (noted.trans (makeOwnBoard_kept _ _)).ends
  next => exact noted.ends

theorem execBwkInactive_ends (bin : Bool) (s : State) : s.Ends (execBwkInactive bin s) := (Kept.modLines s _).ends

theorem execMatchTimeout_ends (s : State) : s.Ends (execMatchTimeout s) :=
  .ite (fun _ => ((Kept.modTrav id id).trans (makeOwnBoard_kept _ _)).ends) fun _ => .same s

theorem opReady_hasOp {k : OpKind} (h : s.opReady k = true) : s.HasOp k := by
  simp only [State.opReady, Bool.and_eq_true, beq_iff_eq] at h
  exact ⟨.waiting, h.2⟩

theorem under_hasOp {k : OpKind} (h : s.work.under k = true) : s.HasOp k := by
  simp only [Work.under, Bool.or_eq_true, beq_iff_eq] at h
  exact h.elim (fun h => ⟨.driving, h⟩) fun h => ⟨.stalled, h⟩

theorem execClampStart_ends (s : State) : s.Ends (execClampStart s) :=
  .ite (fun ready => (startClamp_kept (opReady_hasOp ready)).ends) fun _ => .same s

theorem execClampedActive_ends (s : State) : s.Ends (execClampedActive s) := by
  have noted := Kept.modLines s fun l => { l with clamped := true }
  exact .ite (fun has => (noted.trans ((clampDone_kept (by exact under_hasOp has)).trans (endIfQuiet_kept _))).ends) fun _ =>
    .ite (fun _ => (noted.trans (.modWork_same rfl rfl rfl rfl)).ends) fun _ => noted.ends

theorem execClampedInactive_ends (s : State) : s.Ends (execClampedInactive s) := by
  have noted := Kept.modLines s fun l => { l with clamped := false }
  exact .ite (fun has => (noted.trans ((toConveyorOut_kept (by exact under_hasOp has)).trans (endIfQuiet_kept _))).ends) fun _ =>
    .ite (fun _ => (noted.trans ((Kept.modWork_same rfl rfl rfl rfl).trans (raise_kept _ _))).ends) fun _ => noted.ends

theorem execLineEndRelease_ends (s : State) : s.Ends (execLineEndRelease s) := by
  have noted := Kept.modLines s fun l => { l with unloadReady := true }
  refine .ite (fun ready => ?_) fun _ => noted.ends
  simp only [State.lineEndReady, Bool.and_eq_true, beq_iff_eq] at ready
  exact (noted.trans ((Kept.modWork_same rfl rfl rfl rfl).trans (releaseBoard_kept (by exact ready.1.2)))).ends

theorem execConveyorOutStart_ends (s : State) : s.Ends (execConveyorOutStart s) :=
  .ite (fun ready => (startConveyorOut_kept (opReady_hasOp ready)).ends) fun _ => .same s

theorem execBoutActive_ends (s : State) : s.Ends (execBoutActive s) :=
  .ite (fun _ => ((Kept.modLines s _).trans (.modWork_same rfl rfl rfl rfl)).ends) fun _ => (Kept.modLines s _).ends

theorem execBoutInactive_ends (bin : Bool) (s : State) : s.Ends (execBoutInactive bin s) :=
  .ite (fun _ => ((Kept.modLines s _).trans ((conveyorOutDone_kept _).trans (endIfQuiet_kept _))).ends) fun _ =>
    (Kept.modLines s _).ends

@[simp] theorem driveOff_frame (w : Work) (k : OpKind) :
    (w.driveOff k).state = w.state ∧ (w.driveOff k).board = w.board := by
  cases k <;> exact ⟨rfl, rfl⟩

theorem stall_kept {k : OpKind} {c : OpCondition} (op : s.work.op = some (k, c)) :
    s.Kept (s.modWork fun w => { w.driveOff k with op := some (k, .stalled), opTimer := none }) := by
  refine .modWork (fun h b hb => h b (by simpa using hb)) (fun _ => rfl) fun h => ?_
  rw [workFits_iff, op] at h
  rw [workFits_iff]
  simpa using h

theorem execOperationTimeout_ends (s : State) : s.Ends (execOperationTimeout s) := by
  unfold execOperationTimeout
  split
  next k op => exact ((stall_kept op).trans ((raise_kept _ _).trans (endIfQuiet_kept _))).ends
  next => exact .same s

/-! ## Travellers and hand-off -/

theorem execReleaseGrant_ends (s : State) : s.Ends (execReleaseGrant s) := by
  unfold execReleaseGrant
  split
  · exact (tryGrant_kept s).ends
  · exact .same s

theorem execTravellerExpiry_ends (serial : Serial) (s : State) : s.Ends (execTravellerExpiry serial s) :=
  .ite (fun _ => (expire_kept s serial).ends) fun _ => .same s

/-- The watch of a hand-off ends without its timer (R137, R138). -/
theorem watchEnds_kept (s : State) {p : HandPhase} (ended : p ≠ .timing) :
    s.Kept (s.modTrav fun t => { t with phase := p, timer := none }) :=
  .modTrav id fun _ => by simpa using ended

theorem execHandoffTimeout_ends (s : State) : s.Ends (execHandoffTimeout s) :=
  .ite (fun _ => ((watchEnds_kept s (by decide)).trans (raise_kept _ _)).ends) fun _ => .same s

theorem execTravellerReceive_ends (s : State) : s.Ends (execTravellerReceive s) := by
  unfold execTravellerReceive
  split
  next => exact .same s
  next f _ =>
    refine .ite (fun _ => (handDone_kept s).ends) fun _ => .ite (fun _ => ?_) fun _ => ?_
    · exact ((handDone_kept s).trans (.modTrav id id)).ends
    · split
      · exact ((handDone_kept s).trans (.modTrav id id)).ends
      · exact ((handDone_kept s).trans (arriveTraveller_kept _ _)).ends

theorem execLostReceive_ends (s : State) : s.Ends (execLostReceive s) := by
  unfold execLostReceive
  split
  · exact .same s
  · exact .ite (fun _ => ((handDone_kept s).trans ((watchEnds_kept _ (by decide)).trans (raise_kept _ _))).ends) fun _ =>
      (handDone_kept s).ends

/-! ## Operator lines and windows -/

theorem execRun_ends (top bin : Bool) (s : State) : s.Ends (execRun top bin s) :=
  .ite (fun h => ((sample_kept s top bin).trans (pressRun_kept h.2)).ends) fun _ => (sample_kept s top bin).ends

theorem execStep_ends (levels : PressLevels) (s : State) : s.Ends (execStep levels s) :=
  .ite (fun h => ((sample_kept s _ _).trans (pressStep_kept h.2)).ends) fun _ => (sample_kept s _ _).ends

theorem execStop_ends (s : State) : s.Ends (execStop s) :=
  .ite (fun stops => (pressStop_kept stops).ends) fun _ => .same s

theorem execClear_ends (s : State) : s.Ends (execClear s) :=
  .ite (fun _ => (pressClear_kept s).ends) fun _ => .same s

theorem execPurge_ends (s : State) : s.Ends (execPurge s) :=
  .ite (fun _ => (purgeBoard_kept s).ends) fun _ => .same s

theorem execStoplineAsserted_ends (s : State) : s.Ends (execStoplineAsserted s) :=
  ((Kept.modLines s _).trans (followStopline_kept _)).ends

theorem execStoplineReleased_ends (bin : Bool) (s : State) : s.Ends (execStoplineReleased bin s) := by
  have noted := Kept.modLines s fun l => { l with stopline := false, bin := bin }
  exact .ite (fun h => (Kept.enterWork (noted.trans (setRun_kept (by simp [h]) (by decide)))).ends) fun _ => noted.ends

theorem execWindowEnd_ends (s : State) : s.Ends (execWindowEnd s) :=
  .ite (fun _ => ((Kept.modLink_same rfl rfl rfl).trans ((modAlarm_kept rfl rfl fun _ => id).trans
    (evaluate_kept _ _ _))).ends) fun _ => .same s

theorem execLampFlash_ends (s : State) : s.Ends (execLampFlash s) := (modAlarm_kept rfl rfl fun _ => id).ends

/-! ## The line link -/

theorem characterEnds_ends (s : State) (ch : Character) :
    s.Ends (if s.sampling then s.finish (s.characterEnds ch) else .next s) :=
  .ite (fun _ => (characterEnds_kept s ch).ends) fun _ => .same s

theorem execValidStart_ends (s : State) : s.Ends (execValidStart s) :=
  .ite (fun _ => ((Kept.modLines s _).trans (.modLink_same rfl rfl rfl)).ends) fun _ => .same s

theorem execGapAbandon_ends (s : State) : s.Ends (execGapAbandon s) :=
  .ite (fun _ => ((Kept.modLines s _).trans (.modLink_same (by simp) (by simp) (by simp))).ends) fun _ => .same s

theorem execHandingOnStart_ends (s : State) : s.Ends (execHandingOnStart s) :=
  .ite (fun _ => (Kept.modLink_same rfl rfl rfl).ends) fun _ => .same s

theorem handed_eq_some {kind : Byte} {f : Frame} (h : s.handed kind = some f) : f ∈ s.link.rx ∧ f.kind = kind := by
  unfold State.handed at h
  split at h
  · obtain ⟨front, kind⟩ := Option.filter_eq_some_iff.1 h
    exact ⟨List.mem_of_head? front, by simpa using kind⟩
  · cases h

/-- A STATUS in the receive queue has ten bytes, which fill the sender's peer entry (R168, R176). -/
theorem takeStatus_kept {f : Frame} (queued : f ∈ s.link.rx) (kind : f.kind = kindStatus) (a : Nat) :
    s.Kept (s.handDone.modLink fun l => l.store a f.payload) := by
  refine .modLink (s := s) (f := fun l =>
    ({ l with rx := l.rx.tail, handing := !l.rx.tail.isEmpty } : Link).store a f.payload)
    (fun h => ?_) (fun h => h) fun ⟨thirty, heard, status⟩ => ⟨?_, fun p hp => ?_, fun g hg => ?_⟩
  · simp only [Link.store, List.length_tail]; omega
  · simpa [Link.store] using thirty
  · rcases List.mem_or_eq_of_mem_set hp with old | rfl
    · exact heard p old
    · exact fun _ => status f queued kind
  · exact status g (List.mem_of_mem_tail hg)

theorem execStatusReceive_ends (s : State) : s.Ends (execStatusReceive s) := by
  unfold execStatusReceive
  split
  next => exact .same s
  next f h =>
    obtain ⟨queued, kind⟩ := handed_eq_some h
    have stored := takeStatus_kept queued kind f.sender.toNat
    exact .ite (fun _ => (stored.trans (hearDownstream_kept _ _ _)).ends) fun _ => stored.ends

theorem execPeerStale_ends (addr : BitVec 5) (s : State) : s.Ends (execPeerStale addr s) :=
  .ite (fun _ => (stale_kept s _).ends) fun _ => .same s

theorem execFrameSendStart_ends (idle : Nat) (s : State) : s.Ends (execFrameSendStart idle s) :=
  .ite (fun _ => ((Kept.modLines s _).trans (.modLink_same rfl rfl rfl)).ends) fun _ => .same s

theorem execArbitrationLost_ends (s : State) : s.Ends (execArbitrationLost s) :=
  .ite (fun _ => (Kept.modLink_same rfl rfl rfl).ends) fun _ => .same s

/-- The sender's own end of a frame: the queues lose at most the frame sent. -/
theorem sender_kept {f : Link → Link} (fewer : (f s.link).rx = s.link.rx ∧
    (f s.link).tx.length ≤ s.link.tx.length ∧ (f s.link).peers = s.link.peers) : s.Kept (s.modLink f) := by
  obtain ⟨rx, tx, peers⟩ := fewer
  exact .modLink (by rw [rx]; exact id) tx.trans (by
    unfold State.PeersFit; rw [modLink_link, rx, peers]; exact id)

theorem execCollision_ends (s : State) : s.Ends (execCollision s) := by
  unfold execCollision
  split
  next x _ => exact (sender_kept (Link.retry_queues _ x.status)).ends
  next => exact .same s

theorem execFrameSent_ends (s : State) : s.Ends (execFrameSent s) := by
  unfold execFrameSent
  split
  next x _ => exact (sender_kept (s.link.sent_queues x.status)).ends
  next => exact .same s

theorem execStatusTimerExpiry_ends (s : State) : s.Ends (execStatusTimerExpiry s) :=
  .ite (fun _ => (Kept.modLink_same (by simp) (by simp) (by simp)).ends) fun _ => .same s

/-! ## The service tool -/

theorem answer_kept (s : State) (item part : Byte) (run : List Byte) : s.Kept (s.answer item part run) :=
  (handDone_kept s).trans (report_kept _ _)

/-- A QUERY that is handed on is answered, and no other row of a query does anything. -/
theorem asked_ends (s : State) (item : Byte) (run : List Byte) :
    s.Ends (match s.asked item with
      | some p => s.finish (s.answer item p run)
      | none => .next s) := by
  split
  · exact (answer_kept s _ _ _).ends
  · exact .same s

theorem execQueryNoItem_ends (s : State) : s.Ends (execQueryNoItem s) := by
  unfold execQueryNoItem
  split
  · exact .ite (fun _ => .same s) fun _ => ((handDone_kept s).trans (report_kept _ _)).ends
  · exact .same s

theorem remote_kept (command : Byte) {result : RemoteResult} {act : State → State}
    (acts : result = .taken → s.Kept (act s)) : s.Kept (s.remote command result act) :=
  Kept.trans (.ite acts fun _ => .refl s) (report_kept _ _)

theorem execRemoteRun_ends (top bin : Bool) (s : State) : s.Ends (execRemoteRun top bin s) := by
  refine .ite (fun _ => Kept.ends ?_) fun _ => .same s
  have sampled := (handDone_kept s).trans (sample_kept _ top bin)
  refine sampled.trans (remote_kept _ fun taken => pressRun_kept ?_)
  have stopped {u : State} (h : u.runResult = .taken) : u.alarm.run = .stopped := by
    unfold State.runResult at h
    (repeat' split at h) <;> first | assumption | cases h
  split at taken
  · exact stopped taken
  · exact absurd (stopped taken) ‹_›

theorem execRemoteStop_ends (s : State) : s.Ends (execRemoteStop s) := by
  refine .ite (fun _ => Kept.ends ?_) fun _ => .same s
  refine (handDone_kept s).trans (remote_kept _ fun taken => pressStop_kept ?_)
  unfold State.stopResult at taken
  (repeat' split at taken) <;> first | assumption | cases taken

theorem execRemoteClear_ends (s : State) : s.Ends (execRemoteClear s) :=
  .ite (fun _ => ((handDone_kept s).trans (remote_kept _ fun _ => pressClear_kept _)).ends) fun _ => .same s

theorem execRemoteOther_ends (s : State) : s.Ends (execRemoteOther s) := by
  unfold execRemoteOther
  split
  · exact .ite (fun _ => .same s) fun _ => ((handDone_kept s).trans (report_kept _ _)).ends
  · exact .same s

end State
end Sys2Proof.Machine
end

section
/-!
# The invariants of the station

What every command but RESET keeps (`exec_ends`), what a ms of time keeps, and what RESET answers, put together: every step
keeps every invariant, and the outputs follow the state.
-/
namespace Sys2Proof.Machine

namespace State
variable {s t : State}

theorem exec_ends {c : Instr} (notReset : c ≠ .reset) (s : State) : s.Ends (exec c s) := by
  cases c with
  | reset => exact absurd rfl notReset
  | resetRelease addr role localStrap => exact execResetRelease_ends addr role localStrap s
  | pmemReadCompletion words => exact execPmemReadCompletion_ends words s
  | feedStart => exact execFeedStart_ends s
  | indexEvent pres => exact execIndexEvent_ends pres s
  | conversionCompletion code => exact execConversionCompletion_ends code s
  | passExecution => exact execPassExecution_ends s
  | tapeJam => exact execTapeJam_ends s
  | tapeBreak => exact execTapeBreak_ends s
  | tbrkInactive => exact execTbrkInactive_ends s
  | tapeLow => exact execTapeLow_ends s
  | tendInactive => exact execTendInactive_ends s
  | homingBegin home bin => exact execHomingBegin_ends home bin s
  | homeSensor axis bin => exact execHomeSensor_ends axis bin s
  | homeFail => exact execHomeFail_ends s
  | tableLimit axis => exact execTableLimit_ends axis s
  | limitInactive => exact execLimitInactive_ends s
  | insertMoveStart => exact execInsertMoveStart_ends s
  | markMoveStart mark => exact execMarkMoveStart_ends mark s
  | moveComplete mark => exact execMoveComplete_ends mark s
  | strokeStart => exact execStrokeStart_ends s
  | bottomEdge => exact execBottomEdge_ends s
  | clinchDoneEdge cla clb => exact execClinchDoneEdge_ends cla clb s
  | confirmSample cla clb => exact execConfirmSample_ends cla clb s
  | topEdge => exact execTopEdge_ends s
  | headJam => exact execHeadJam_ends s
  | headDrop => exact execHeadDrop_ends s
  | conveyorInStart => exact execConveyorInStart_ends s
  | bwkActive => exact execBwkActive_ends s
  | matchTimeout => exact execMatchTimeout_ends s
  | clampStart => exact execClampStart_ends s
  | clampedActive => exact execClampedActive_ends s
  | clampedInactive => exact execClampedInactive_ends s
  | lineEndRelease => exact execLineEndRelease_ends s
  | conveyorOutStart => exact execConveyorOutStart_ends s
  | boutActive => exact execBoutActive_ends s
  | boutInactive bin => exact execBoutInactive_ends bin s
  | operationTimeout => exact execOperationTimeout_ends s
  | releaseGrant => exact execReleaseGrant_ends s
  | travellerExpiry serial => exact execTravellerExpiry_ends serial s
  | handoffTimeout => exact execHandoffTimeout_ends s
  | run top bin => exact execRun_ends top bin s
  | stop => exact execStop_ends s
  | clear => exact execClear_ends s
  | step levels => exact execStep_ends levels s
  | purge => exact execPurge_ends s
  | stoplineAsserted => exact execStoplineAsserted_ends s
  | stoplineReleased bin => exact execStoplineReleased_ends bin s
  | windowEnd => exact execWindowEnd_ends s
  | lampFlash => exact execLampFlash_ends s
  | frameBroken ch => exact characterEnds_ends s ch
  | gapAbandon => exact execGapAbandon_ends s
  | frameReceived ch => exact characterEnds_ends s ch
  | handingOnStart => exact execHandingOnStart_ends s
  | statusReceive => exact execStatusReceive_ends s
  | travellerReceive => exact execTravellerReceive_ends s
  | lostReceive => exact execLostReceive_ends s
  | queryStation => exact asked_ends s _ _
  | queryBoard => exact asked_ends s _ _
  | queryQueue => exact asked_ends s _ _
  | queryAlarms => exact asked_ends s _ _
  | queryMonitors => exact asked_ends s _ _
  | queryPeers => exact asked_ends s _ _
  | queryNoItem => exact execQueryNoItem_ends s
  | remoteRun top bin => exact execRemoteRun_ends top bin s
  | remoteStop => exact execRemoteStop_ends s
  | remoteClear => exact execRemoteClear_ends s
  | remoteOther => exact execRemoteOther_ends s
  | peerStale addr => exact execPeerStale_ends addr s
  | statusTimerExpiry => exact execStatusTimerExpiry_ends s
  | frameSendStart idle => exact execFrameSendStart_ends idle s
  | arbitrationLost => exact execArbitrationLost_ends s
  | collision => exact execCollision_ends s
  | frameSent => exact execFrameSent_ends s
  | validStart => exact execValidStart_ends s
  | goodCharacter ch => exact characterEnds_ends s ch
  | bwkInactive bin => exact execBwkInactive_ends bin s

theorem settle_kept (s t : State) : t.Kept (s.settle t) := by
  have due : t.Kept (if s.announced = t.announced then t else t.modLink Link.markDue) := by
    split
    · exact .refl t
    · exact .modLink_same (by simp) (by simp) (by simp)
  exact due.trans (.of_unread rfl rfl rfl rfl rfl rfl rfl)

/-- Every command but RESET keeps every invariant, and the program data of a started station (R14). -/
theorem exec_kept {c : Instr} (notReset : c ≠ .reset) (h : exec c s = .next t) : s.Kept t := by
  rcases exec_ends notReset s t h with rfl | ⟨u, kept, rfl⟩
  · exact .refl _
  · exact kept.trans (settle_kept s u)

theorem pending_kept (s : State) (rest : List Instr) : s.Kept { s with pending := rest } :=
  .of_unread rfl rfl rfl rfl rfl rfl rfl

@[simp] theorem tickTimer_isSome (t : Option Nat) : (tickTimer t).isSome = t.isSome := by simp [tickTimer]

@[simp] theorem idleTick_queues (l : Link) (high : Bool) :
    (l.idleTick high).rx = l.rx ∧ (l.idleTick high).tx = l.tx ∧ (l.idleTick high).peers = l.peers := by
  unfold Link.idleTick; split <;> exact ⟨rfl, rfl, rfl⟩

/-- The station one ms on, the outputs apart: what `State.passTime` drives the outputs from. -/
def ticked (s : State) : State :=
  { s with
    now := s.now + 1
    verifier := { s.verifier with conversion := s.verifier.conversion.map fun c => { c with left := c.left - 1 } }
    tape := { s.tape with timer := tickTimer s.tape.timer }
    table := { s.table with homingTimer := tickTimer s.table.homingTimer }
    head := { s.head with timer := tickTimer s.head.timer, confirm := tickTimer s.head.confirm }
    work := { s.work with opTimer := tickTimer s.work.opTimer, matchTimer := tickTimer s.work.matchTimer }
    trav := { s.trav with
      timer := tickTimer s.trav.timer, arrivals := s.trav.arrivals.map fun a => { a with left := a.left - 1 } }
    alarm := { s.alarm with windowTimer := tickTimer s.alarm.windowTimer, flashLeft := s.alarm.flashLeft - 1 }
    link := { s.link.idleTick s.lines.link with
      statusTimer := tickTimer s.link.statusTimer, peers := s.link.peers.map Peer.older } }

theorem passTime_eq (s : State) : s.passTime = s.settle s.ticked := rfl

/-- Time changes timers and ages alone. -/
theorem ticked_kept (s : State) : s.Kept s.ticked where
  room h := by simpa [State.WithinRoom, State.ticked] using h
  depth := id
  buffer := id
  oldest := id
  misses := id
  timers h := by simpa [State.TimersFit, State.ticked, Work.driving] using h
  work := id
  peers h := by
    obtain ⟨thirty, heard, status⟩ := h
    refine ⟨by simpa [State.ticked] using thirty, fun p hp => ?_, by simpa [State.ticked] using status⟩
    obtain ⟨q, hq, rfl⟩ := List.mem_map.1 hp
    exact heard q hq
  alarm := id
  rows := id
  program _ := ⟨rfl, rfl, rfl, rfl, rfl⟩

/-- The state that RESET leaves (R21, R37, R61, R83, R103, R124, R140, R161, R180). -/
def resetFrom (s : State) : State := { State.reset with pending := s.pending, lines := s.lines, now := s.now }

/-- A step answers its own state, ends a command, lets a ms pass, or is a RESET. -/
theorem step_cases (h : step s = .next t) :
    t = s ∨ (∃ r u, t = State.settle r u ∧ s.Kept t) ∨ (∃ c rest, s.pending = c :: rest ∧ t = { s with pending := rest }) ∨
      ∃ u : State, t = u.resetFrom := by
  have ended {c : Instr} {r : State} (kept : s.Kept r) (h : exec c r = .next t) :
      t = r ∨ (∃ r u, t = State.settle r u ∧ s.Kept t) ∨ ∃ u : State, t = u.resetFrom := by
    by_cases reset : c = .reset
    · subst reset
      cases h
      exact .inr (.inr ⟨r, rfl⟩)
    · rcases exec_ends reset r t h with same | ⟨u, more, rfl⟩
      · exact .inl same
      · exact .inr (.inl ⟨r, u, rfl, kept.trans (more.trans (settle_kept r u))⟩)
  unfold step at h
  split at h
  next c rest front =>
    rcases ended (pending_kept s rest) h with same | ended | reset
    · exact .inr (.inr (.inl ⟨c, rest, front, same⟩))
    · exact .inr (.inl ended)
    · exact .inr (.inr (.inr reset))
  next =>
    split at h
    · split at h
      · rcases ended (.refl s) h with same | ended | reset
        · exact .inl same
        · exact .inr (.inl ended)
        · exact .inr (.inr (.inr reset))
      · cases h
        exact .inr (.inl ⟨s, s.ticked, passTime_eq s, (ticked_kept s).trans (passTime_eq s ▸ settle_kept s s.ticked)⟩)
    · cases h
      exact .inl rfl

/-- Every step keeps what holds of every state after RESET and is kept by the commands. -/
theorem step_keeps {P : State → Prop} (kept : s.Kept t → P s → P t) (reset : ∀ u : State, P u.resetFrom)
    (h : step s = .next t) (hs : P s) : P t := by
  rcases step_cases h with rfl | ⟨_, _, -, more⟩ | ⟨c, rest, -, rfl⟩ | ⟨u, rfl⟩
  · exact hs
  · exact kept more hs
  · exact kept (pending_kept s rest) hs
  · exact reset u

/-! ## The state after RESET meets every invariant -/

section
variable (s : State)

theorem resetFrom_withinRoom : s.resetFrom.WithinRoom := ⟨Nat.zero_le _, Nat.zero_le _, Nat.zero_le _, Nat.zero_le _⟩

theorem resetFrom_startUpQuiet : s.resetFrom.StartUpQuiet := ⟨fun _ => rfl, fun _ => ⟨rfl, rfl, rfl⟩⟩

theorem resetFrom_queueWithinDepth : s.resetFrom.QueueWithinDepth :=
  ⟨resetFrom_startUpQuiet s, Nat.zero_le _, by rintro ⟨⟩⟩

theorem resetFrom_bufferWithinRoom : s.resetFrom.BufferWithinRoom := ⟨Nat.zero_le _, by rintro d ⟨⟩⟩

theorem resetFrom_onlyOldestDecided : s.resetFrom.OnlyOldestDecided := by rintro e ⟨⟩

theorem resetFrom_missesCounted : s.resetFrom.MissesCounted := .of_none rfl

theorem resetFrom_timersFit : s.resetFrom.TimersFit := ⟨rfl, rfl, by constructor <;> rintro ⟨⟩⟩

theorem resetFrom_workFits : s.resetFrom.WorkFits := by
  rw [workFits_iff]; exact ⟨by simp [State.resetFrom, State.reset, Work.atReset], by
    simp [State.resetFrom, State.reset, Work.atReset]⟩

theorem resetFrom_peersFit : s.resetFrom.PeersFit := by
  refine ⟨by simp [State.resetFrom, State.reset, Link.atReset], fun p hp => ?_, by rintro f ⟨⟩⟩
  obtain rfl := List.eq_of_mem_replicate hp
  rintro ⟨⟩

theorem resetFrom_alarmFitsList : s.resetFrom.AlarmFitsList :=
  ⟨fun _ => rfl, fun _ => rfl, fun _ => rfl, by rintro e ⟨⟩, by rintro r ⟨⟩, by constructor <;> rintro ⟨⟩⟩

theorem resetFrom_rowTableFits : s.resetFrom.RowTableFits := by
  refine ⟨fun i r hi => ?_, by rintro a w ⟨⟩, by rintro e ra a seen ⟨⟩⟩
  simp [State.resetFrom, State.reset, Reader.atReset] at hi

theorem resetFrom_out : s.resetFrom.out = s.resetFrom.outputs := by
  have busy : s.resetFrom.entryState = .busy := by simp [State.entryState, State.resetFrom, State.reset, Alarm.atReset]
  unfold State.outputs
  rw [busy]
  rfl

end

/-! ## The outputs follow the state (R107, R158 to R160) -/

theorem driveRuns_iff (s : State) (axis : Axis) (time : DriveTimes → Nat) :
    s.driveRuns axis time = true ↔ s.Driven axis time := by
  unfold State.driveRuns State.Driven
  split <;> simp_all

theorem entryState_eq_free (s : State) :
    s.entryState = .free ↔ s.work.state = .empty ∧ s.lines.bin = false ∧ s.lines.bwk = false ∧ s.alarm.run = .running := by
  unfold State.entryState
  split <;> simp_all

theorem lowestOf_eq_none {l : List AlarmEntry} : lowestOf l = none ↔ l = [] := by
  cases l with
  | nil => simp [lowestOf]
  | cons e es =>
    simp only [lowestOf, reduceCtorEq, iff_false]
    split
    · simp
    · split <;> simp

/-- The lowest code of a list is the code of one of its entries, and none is lower. -/
theorem lowestOf_eq_some {l : List AlarmEntry} {c : AlarmCode} (h : lowestOf l = some c) :
    (∃ e ∈ l, e.code = c) ∧ ∀ e ∈ l, c.code ≤ e.code.code := by
  induction l generalizing c with
  | nil => cases h
  | cons e es ih =>
    unfold lowestOf at h
    split at h
    next none =>
      cases h
      simp [lowestOf_eq_none.1 none]
    next d lowest =>
      obtain ⟨⟨x, hx, code⟩, least⟩ := ih lowest
      split at h
      next below =>
        cases h
        exact ⟨⟨e, by simp, rfl⟩, List.forall_mem_cons.2 ⟨le_rfl, fun y hy => below.trans (least y hy)⟩⟩
      next above =>
        cases h
        exact ⟨⟨x, List.mem_cons_of_mem e hx, code⟩, List.forall_mem_cons.2 ⟨(not_le.1 above).le, least⟩⟩

theorem AlarmCode.code_injective {c d : AlarmCode} (h : c.code = d.code) : c = d := by
  cases c <;> cases d <;> first | rfl | cases h

/-- The entry of the lowest code is shown (R160). -/
theorem lowest_of_least {a : Alarm} {e : AlarmEntry} (he : e ∈ a.list) (least : ∀ f ∈ a.list, e.code.code ≤ f.code.code) :
    a.lowest = some e.code := by
  unfold Alarm.lowest
  cases h : lowestOf a.list with
  | none => simp [lowestOf_eq_none.1 h] at he
  | some c =>
    obtain ⟨⟨x, hx, code⟩, lowest⟩ := lowestOf_eq_some h
    rw [AlarmCode.code_injective (Nat.le_antisymm (lowest e he) (code ▸ least x hx))]

theorem lowest_of_empty {a : Alarm} (h : a.list = []) : a.lowest = none := lowestOf_eq_none.2 h

/-- The peer table read in the order of the addresses, the first that fits named by its own (R160). -/
theorem findSome_zipIdx (l : List Peer) (p : Peer → Bool) (n : Nat) :
    ((l.zipIdx n).findSome? fun q => if p q.1 then some q.2 else none) = (l.findIdx? p).map (n + ·) := by
  induction l generalizing n with
  | nil => rfl
  | cons x xs ih =>
    rw [List.zipIdx_cons, List.findSome?_cons, List.findIdx?_cons]
    cases p x
    · simp only [Bool.false_eq_true, if_false, ih, Option.map_map]
      exact congrArg (Option.map · _) (funext fun i => by simp only [Function.comp]; omega)
    · rfl

/-- The peer's last STATUS is fresh and carries the stop-drive flag. -/
def holdsLine (period : Nat) (p : Peer) : Bool := p.fresh period && (statusView p.bytes).stopDrive

theorem holder_eq (s : State) : s.holder = (s.link.peers.findIdx? (holdsLine s.link.period)).map (1 + ·) :=
  findSome_zipIdx s.link.peers (holdsLine s.link.period) 1

theorem heldBy_iff (s : State) (a : Nat) :
    s.HeldBy a ↔ 1 ≤ a ∧ ∃ p, s.link.peers[a - 1]? = some p ∧ holdsLine s.link.period p = true := by
  unfold State.HeldBy holdsLine Peer.fresh statusView
  simp [and_assoc]

theorem holder_of_least {a : Nat} (h : s.HeldBy a) (least : ∀ b, s.HeldBy b → a ≤ b) : s.holder = some a := by
  obtain ⟨one, p, hp, holds⟩ := (heldBy_iff s a).1 h
  obtain ⟨inside, hp⟩ := List.getElem?_eq_some_iff.1 hp
  rw [holder_eq, List.findIdx?_eq_some_iff_getElem.2 ⟨inside, by rw [hp]; exact holds, fun j below found => ?_⟩]
  · simp only [Option.map_some, Option.some.injEq]; omega
  · have := least (j + 1) ((heldBy_iff s _).2 ⟨by omega, _, by rw [Nat.add_sub_cancel, List.getElem?_eq_getElem], found⟩)
    omega

theorem holder_of_none (h : ∀ a, ¬s.HeldBy a) : s.holder = none := by
  rw [holder_eq, Option.map_eq_none_iff, List.findIdx?_eq_none_iff]
  intro p hp
  obtain ⟨i, hi⟩ := List.mem_iff_getElem?.1 hp
  by_contra holds
  exact h (i + 1) ((heldBy_iff s _).2 ⟨by omega, p, by simpa using hi, by simpa using holds⟩)

theorem displayRight_of_out (h : s.out = s.outputs) : s.DisplayRight := by
  have shown : s.out.display = s.displayed := congrArg Outputs.display h
  unfold State.DisplayRight
  rw [shown]
  unfold State.displayed
  refine ⟨fun off => if_pos off, fun on => ?_⟩
  rw [if_neg on]
  refine ⟨fun e he least => by rw [lowest_of_least he least], fun empty => ?_⟩
  rw [lowest_of_empty empty]
  refine ⟨fun holding => ?_, fun other => if_neg other⟩
  simp only [if_pos holding]
  exact ⟨fun a held least => by rw [holder_of_least held least], fun none => by rw [holder_of_none none]⟩

/-- Outputs driven from the state are those that the rules give for it. -/
theorem outputsRight_of_out (h : s.out = s.outputs) : s.OutputsRight := by
  have display := displayRight_of_out h
  unfold State.OutputsRight
  rw [h]
  refine ⟨rfl, driveRuns_iff _ _ _, driveRuns_iff _ _ _, driveRuns_iff _ _ _, driveRuns_iff _ _ _, entryState_eq_free s,
    ?stop, ?drive, ?run, ?stopped, ?alarm, ?display⟩
  case stop => simp [State.outputs, Alarm.stopListed]
  case drive => simp [State.outputs, State.drivesStopline]
  case run => cases run : s.alarm.run <;> simp [State.outputs, State.lampRunMode, Lamp.lit, run]
  case stopped => cases run : s.alarm.run <;> simp [State.outputs, State.lampStopMode, Lamp.lit, run]
  case alarm =>
    have faulted : Lamp.lit s.alarm.flashLit (if s.reader.reason = .c00 then .off else .on) =
        decide (s.reader.reason ≠ .c00) := by
      split <;> simp_all [Lamp.lit]
    have listed : Lamp.lit s.alarm.flashLit (if s.alarm.list.isEmpty then .off else .flashing) =
        if s.alarm.list = [] then false else s.alarm.flashLit := by
      cases s.alarm.list <;> simp [Lamp.lit]
    simp only [State.outputs, State.lampAlarmMode]
    cases run : s.alarm.run <;> first | simpa using faulted | simpa using listed | simp [Lamp.lit]
  case display => exact display

end State

/-! ## The invariants -/

open State in
/-- Settles O3: every step but RESET and those that change nothing ends with the outputs driven from the state. -/
theorem outputsFollowTheRules : Obligations.OutputsFollowTheRules := by
  intro s t right h
  rcases step_cases h with rfl | ⟨r, u, rfl, -⟩ | ⟨c, rest, -, rfl⟩ | ⟨u, rfl⟩
  · exact right
  · exact outputsRight_of_out (settle_out_self r u)
  · exact right
  · exact outputsRight_of_out u.resetFrom_out

open State in
/-- Settles O4: no operation adds to a list of fixed room without having looked for room. -/
theorem roomIsKept : Obligations.RoomIsKept := fun _ _ h =>
  ⟨step_keeps Kept.room resetFrom_withinRoom h, step_keeps Kept.depth resetFrom_queueWithinDepth h,
    step_keeps Kept.buffer resetFrom_bufferWithinRoom h⟩

open State in
/-- Settles O5: the operations change decisions, counts, timers and the work position's state together. -/
theorem recordsStayConsistent : Obligations.RecordsStayConsistent := fun _ _ h =>
  ⟨step_keeps Kept.oldest resetFrom_onlyOldestDecided h, step_keeps Kept.misses resetFrom_missesCounted h,
    step_keeps Kept.timers resetFrom_timersFit h, step_keeps Kept.work resetFrom_workFits h,
    step_keeps Kept.peers resetFrom_peersFit h⟩

open State in
/-- Settles O6: a raise with its stop bit enters ALARM with its entry, and a CLEAR of the last one leaves it. -/
theorem alarmExactlyWithAStopEntry : Obligations.AlarmExactlyWithAStopEntry := fun _ _ fits h =>
  step_keeps Kept.alarm resetFrom_alarmFitsList h fits

open State in
/-- Settles O8: past a valid start-up only RESET changes the program data. -/
theorem programDataHeldUntilReset : Obligations.ProgramDataHeldUntilReset := by
  intro c s t notReset walking idle released h
  obtain ⟨hdr, rows, straps, phase, scan⟩ := (exec_kept notReset h).program ⟨walking, idle, released⟩
  exact ⟨hdr, rows, straps, phase.trans walking, scan.trans idle⟩

open State in
/-- Settles O12: start-up reading adds a row with images and steps at the totals before it. -/
theorem rowTableStaysSound : Obligations.RowTableStaysSound := by
  unfold Obligations.RowTableStaysSound
  exact fun _ _ fits h => step_keeps Kept.rows resetFrom_rowTableFits h fits

open State in
/-- Settles O7: under RESET every list is empty, and nothing is read. -/
theorem invariantsHoldAtReset : Obligations.InvariantsHoldAtReset := by
  have left : State.reset.NothingLeft :=
    ⟨State.reset.resetFrom_startUpQuiet, by rintro e ⟨⟩, by rintro ⟨⟨⟩, -⟩⟩
  exact ⟨State.reset.resetFrom_withinRoom, State.reset.resetFrom_queueWithinDepth,
    State.reset.resetFrom_bufferWithinRoom, State.reset.resetFrom_onlyOldestDecided,
    State.reset.resetFrom_missesCounted, State.reset.resetFrom_timersFit, State.reset.resetFrom_alarmFitsList,
    State.reset.resetFrom_rowTableFits, outputsRight_of_out State.reset.resetFrom_out, State.reset.resetFrom_workFits,
    State.reset.resetFrom_peersFit, left⟩

end Sys2Proof.Machine
end

section
/-!
# The conditions of the starts

Each condition that the model computes, as the rule states it.
-/
namespace Sys2Proof.Machine

/-! ## Entries -/

theorem Entry.toInsert_iff (e : Entry) : e.toInsert = true ↔ e.target ≠ none := by
  unfold Entry.toInsert Entry.target
  split <;> simp_all

theorem Entry.toPass_iff (e : Entry) : e.toPass = true ↔ ∃ d, e.decision = some d ∧ d.IsPass := by
  unfold Entry.toPass Decision.IsPass
  rcases e.decision with _ | d
  · simp
  · cases d <;> simp

namespace State
variable {s : State}

theorem mayStart_iff (s : State) : s.mayStart = true ↔ s.MayStart := by
  simp [State.mayStart, State.MayStart]

theorem live_iff (s : State) : s.live = true ↔ s.alarm.run ≠ .configFault := by
  simp [State.live]

theorem oldest_eq (s : State) : s.oldest = s.tape.queue.head? := rfl

theorem workingBoard_iff {b : Board} :
    s.workingBoard = some b ↔ s.work.state = .working ∧ s.work.board = some b := by
  unfold State.workingBoard
  split <;> simp_all

theorem newestFinal_iff (t : Tape) :
    t.newestFinal = true ↔ ∀ e, t.queue.getLast? = some e → e.verdict ≠ .pending := by
  unfold Tape.newestFinal
  split <;> simp_all

theorem feedReady_iff (s : State) : s.feedReady = true ↔ s.CanFeed := by
  simp [State.feedReady, State.CanFeed, mayStart_iff, newestFinal_iff, and_assoc]

theorem armsRowHold_iff (e : Entry) : s.armsRowHold e = true ↔
    e.record.rowFirst = true ∧ (s.reader.rows.getD e.record.row default).entry.rowHold = true := by
  simp [State.armsRowHold]

theorem mayDecide_iff (e : Entry) : s.mayDecide e = true ↔ s.CanDecide e := by
  unfold State.mayDecide State.CanDecide
  simp only [Bool.and_eq_true, Bool.or_eq_true, Option.isNone_iff_eq_none, bne_iff_ne, Bool.not_eq_true',
    beq_iff_eq, and_assoc]
  refine and_congr_right fun _ => and_congr_right fun _ => and_congr_right fun _ => or_congr_right ?_
  cases board : s.workingBoard with
  | none =>
    simp only [Bool.false_eq_true, false_iff, not_exists]
    rintro b ⟨working, held, -⟩
    simp [workingBoard_iff.2 ⟨working, held⟩] at board
  | some b =>
    obtain ⟨working, held⟩ := workingBoard_iff.1 board
    simp only [working, held, Bool.and_eq_true, beq_iff_eq, Bool.or_eq_true, Bool.not_eq_true', true_and,
      Option.some.injEq, exists_eq_left', Board.holdTaken, ← Bool.not_eq_true, armsRowHold_iff, not_and_or]
    tauto

theorem holdDue_iff {e : Entry} {b : Board} (oldest : s.oldest = some e) (board : s.workingBoard = some b) :
    s.holdDue e b = true ↔ s.HoldDue e b := by
  obtain ⟨working, held⟩ := workingBoard_iff.1 board
  rw [oldest_eq] at oldest
  simp [State.holdDue, State.HoldDue, working, held, oldest, armsRowHold_iff, mayStart_iff, Board.holdTaken, and_assoc]

theorem atHead_iff (s : State) : s.atHead = true ↔ s.tape.queue.length = s.header.depth ∧ s.tape.feeding = false := by
  simp [State.atHead]

theorem passReady_iff (s : State) : s.passReady = true ↔ ∃ e, s.CanPass e := by
  unfold State.passReady State.CanPass State.oldest
  cases s.tape.queue.head? with
  | none => simp
  | some e => simp [mayStart_iff, atHead_iff, Entry.toPass_iff]; tauto

theorem homingReady_iff (s : State) : s.homingReady = true ↔ s.CanHome := by
  simp [State.homingReady, State.CanHome, and_assoc, Option.isSome_iff_ne_none]

theorem insertMove_iff {e : Entry} {goal : Target} : s.insertMove = some (e, goal) ↔ s.CanMove e goal := by
  unfold State.insertMove State.CanMove State.oldest
  rw [Option.ite_none_right_eq_some]
  simp only [mayStart_iff, Bool.and_eq_true, beq_iff_eq]
  cases queue : s.tape.queue.head? with
  | none => simp
  | some x =>
    dsimp only
    cases target : x.target with
    | none => simp only [reduceCtorEq, and_false, Option.some.injEq, false_iff]; rintro ⟨-, -, -, rfl, aims, -⟩; simp_all
    | some g =>
      simp only [Option.ite_none_right_eq_some, bne_iff_ne, Bool.not_eq_true', Option.some.injEq,
        Prod.mk.injEq]
      constructor
      · rintro ⟨⟨⟨⟨start, homed⟩, idle⟩, top⟩, ⟨free, off⟩, rfl, rfl⟩
        exact ⟨start, homed, idle, rfl, target, free, off, top⟩
      · rintro ⟨start, homed, idle, rfl, aims, free, off, top⟩
        obtain rfl : g = goal := Option.some.inj (target.symm.trans aims)
        exact ⟨⟨⟨⟨start, homed⟩, idle⟩, top⟩, ⟨free, off⟩, rfl, rfl⟩

theorem markMove_iff {g : Nat} : s.markMove = some g ↔ s.CanMarkMove g := by
  unfold State.markMove State.CanMarkMove
  rw [Option.ite_none_right_eq_some]
  simp [mayStart_iff, and_assoc]

theorem strokeEntry_iff {e : Entry} : s.strokeEntry = some e ↔ s.GateOpen e := by
  unfold State.strokeEntry State.GateOpen State.oldest
  cases queue : s.tape.queue.head? with
  | none => simp
  | some x =>
    cases board : s.workingBoard with
    | none =>
      simp only [reduceCtorEq, false_iff]
      rintro ⟨-, -, -, -, -, -, -, -, -, b, working, held, -⟩
      simp [workingBoard_iff.2 ⟨working, held⟩] at board
    | some b =>
      obtain ⟨working, held⟩ := workingBoard_iff.1 board
      simp only [Option.ite_none_right_eq_some, Bool.and_eq_true, beq_iff_eq, mayStart_iff, atHead_iff,
        Entry.toInsert_iff, Bool.not_eq_true', Option.some.injEq, working, held, true_and, exists_eq_left']
      constructor
      · rintro ⟨⟨⟨⟨⟨⟨⟨⟨⟨⟨start, top⟩, -⟩, free⟩, full, still⟩, idle⟩, homed⟩, aims⟩, clamped⟩, lap⟩, rfl⟩
        exact ⟨start, top, rfl, free, full, still, idle, homed, aims, clamped, lap⟩
      · rintro ⟨start, top, rfl, free, full, still, idle, homed, aims, clamped, lap⟩
        exact ⟨⟨⟨⟨⟨⟨⟨⟨⟨⟨start, top⟩, by simp [aims]⟩, free⟩, full, still⟩, idle⟩, homed⟩, aims⟩, clamped⟩, lap⟩, rfl⟩

theorem under_iff (s : State) (k : OpKind) : s.work.under k = true ↔ s.Under k := by
  simp [Work.under, State.Under]

theorem opReady_iff (s : State) (k : OpKind) :
    s.opReady k = true ↔ s.MayStart ∧ s.work.op = some (k, .waiting) := by
  simp [State.opReady, mayStart_iff]

theorem lineEndReady_iff (s : State) : s.lineEndReady = true ↔
    s.MayStart ∧ s.role = .lineEnd ∧ s.work.state = .done ∧ s.lines.unloadReady = true := by
  simp [State.lineEndReady, mayStart_iff, and_assoc]

theorem conveyorInReady_iff (s : State) : s.conveyorInReady = true ↔
    s.MayStart ∧ s.work.state = .empty ∧ s.lines.bin = true ∧ s.lines.bwk = false := by
  simp [State.conveyorInReady, mayStart_iff, and_assoc]

theorem sendReady_iff (s : State) (idle : Nat) : s.sendReady idle = true ↔ s.CanSend idle := by
  have twelve : Config.idleToSend = 12 := rfl
  simp only [State.sendReady, State.CanSend, Bool.and_eq_true, decide_eq_true_eq, twelve]
  simp [and_assoc, Option.isSome_iff_ne_none]

theorem grantable_iff {b : Board} {a : BitVec 8} :
    s.grantable = some (b, a) ↔ ∃ v, s.CanGrant b v ∧ v.accept = a := by
  unfold State.grantable State.CanGrant
  cases board : s.work.board with
  | none => simp
  | some c =>
    cases fresh : s.freshDown with
    | none => simp
    | some v =>
      have unseen : (match s.trav.release with | none => true | some r => r.2 != v.accept) = true ↔
          ∀ r, s.trav.release = some r → r.2 ≠ v.accept := by
        cases s.trav.release <;> simp
      have four : Config.frameRoom = 4 := rfl
      dsimp only
      rw [Option.ite_none_right_eq_some]
      simp only [Bool.and_eq_true, beq_iff_eq, bne_iff_ne, mayStart_iff, decide_eq_true_eq, four,
        Option.some.injEq, Prod.mk.injEq]
      constructor
      · rintro ⟨⟨⟨⟨⟨⟨start, role⟩, done⟩, free⟩, unheard⟩, room⟩, rfl, rfl⟩
        exact ⟨v, ⟨start, role, done, rfl, rfl, free, unseen.1 unheard, room⟩, rfl⟩
      · rintro ⟨w, ⟨start, role, done, rfl, rfl, free, unheard, room⟩, rfl⟩
        exact ⟨⟨⟨⟨⟨⟨start, role⟩, done⟩, free⟩, unseen.2 unheard⟩, room⟩, rfl, rfl⟩

/-! ## What a command leaves unchanged -/

/-- The end of a command changes the outputs and the status slot alone. -/
theorem keepsBut_settle {r u : State} {ps : List Part} (h : s.KeepsBut u ps) : s.KeepsBut (State.settle r u) ps := by
  simpa [State.KeepsBut] using h

theorem KeepsBut.mono {t : State} {ps qs : List Part} (sub : ∀ p ∈ ps, p ∈ qs) (h : s.KeepsBut t ps) :
    s.KeepsBut t qs := by
  obtain ⟨pending, now, hdr, lines, reader, verifier, tape, table, head, work, trav, alarm, link⟩ := h
  exact ⟨pending, now, hdr, lines.imp_left (sub _), reader.imp_left (sub _), verifier.imp_left (sub _),
    tape.imp_left (sub _), table.imp_left (sub _), head.imp_left (sub _), work.imp_left (sub _), trav.imp_left (sub _),
    alarm.imp_left (sub _), link.imp_left (sub _)⟩

@[simp] theorem headAfter_self (s : State) : s.headAfter s.alarm.run = s.head := by
  unfold State.headAfter
  simp

end State
end Sys2Proof.Machine
end

section
/-!
# The walk (R13, R15, R17, R20)

The rows of a sound table divide the ordinals of a lap: every ordinal below N_PANEL is a position in exactly one row, and
`cursorAt` names that row and the position's image and step. Going on by one position is then arithmetic in the row, or the
start of the next row.
-/
namespace Sys2Proof.Machine

theorem panelSteps_concat (rows : List Row) (r : Row) :
    panelSteps (rows ++ [r]) = panelSteps rows + r.entry.images * r.steps := by
  simp [panelSteps]

theorem panelSteps_take_succ {rows : List Row} {i : Nat} {r : Row} (h : rows[i]? = some r) :
    panelSteps (rows.take (i + 1)) = panelSteps (rows.take i) + r.entry.images * r.steps := by
  rw [List.take_add_one, h, Option.toList_some, panelSteps_concat]

theorem panelSteps_take_mono (rows : List Row) : Monotone fun i => panelSteps (rows.take i) := by
  refine monotone_nat_of_le_succ fun i => ?_
  cases h : rows[i]? with
  | none => rw [List.take_add_one, h]; simp
  | some r => rw [panelSteps_take_succ h]; exact Nat.le_add_right _ _

/-- The ordinal stands in the row (R13). -/
def Row.holds (r : Row) (k : Nat) : Bool := decide (r.start ≤ k) && decide (k < r.start + r.entry.images * r.steps)

/-- The cursor at a position of a row (R15). -/
def Row.cursor (r : Row) (lap : Lap) (i j : Nat) : Cursor :=
  match r.entry.order with
  | .imageMajor => ⟨lap, r.start + j, i, j / r.steps, j % r.steps⟩
  | .stepMajor => ⟨lap, r.start + j, i, j % r.entry.images, j / r.entry.images⟩

theorem Row.cursor_zero (r : Row) (lap : Lap) (i : Nat) : r.cursor lap i 0 = ⟨lap, r.start, i, 0, 0⟩ := by
  unfold Row.cursor
  split <;> simp

/-- One position on, its quotient and remainder by the inner count of the walk order. -/
theorem succ_div_mod {d : Nat} (pos : 0 < d) (j : Nat) :
    (j % d + 1 < d → (j + 1) / d = j / d ∧ (j + 1) % d = j % d + 1) ∧
      (¬j % d + 1 < d → (j + 1) / d = j / d + 1 ∧ (j + 1) % d = 0) := by
  have split := Nat.div_add_mod j d
  have below := Nat.mod_lt j pos
  constructor
  · exact fun inside => (Nat.div_mod_unique pos).2 ⟨by omega, inside⟩
  · intro last
    refine (Nat.div_mod_unique pos).2 ⟨?_, pos⟩
    rw [Nat.mul_add]
    omega

/-- A position with the last inner index is before the row's last exactly while its outer index is not the last. -/
theorem succ_lt_mul_iff {d n j : Nat} (pos : 0 < d) (inside : j < n * d) :
    (j % d + 1 < d ∨ j / d + 1 < n) ↔ j + 1 < n * d := by
  obtain ⟨goes, turns⟩ := succ_div_mod pos j
  have outer : j / d < n := Nat.div_lt_of_lt_mul (by rwa [Nat.mul_comm])
  rw [← Nat.div_lt_iff_lt_mul pos]
  by_cases last : j % d + 1 < d
  · rw [(goes last).1]
    exact iff_of_true (.inl last) outer
  · rw [(turns last).1]
    exact or_iff_right last

namespace RowsSound
variable {rows : List Row} {i k : Nat} {r : Row}

theorem start_eq (sound : RowsSound rows) (h : rows[i]? = some r) : r.start = panelSteps (rows.take i) := by
  obtain ⟨-, -, -, start⟩ := sound i r h
  exact start

theorem end_eq (sound : RowsSound rows) (h : rows[i]? = some r) :
    r.start + r.entry.images * r.steps = panelSteps (rows.take (i + 1)) := by
  rw [panelSteps_take_succ h, sound.start_eq h]

/-- The first row that holds an ordinal is the only one. -/
theorem findIdx_holds (sound : RowsSound rows) (h : rows[i]? = some r) (holds : r.holds k = true) :
    rows.findIdx? (fun q => q.holds k) = some i := by
  obtain ⟨inside, at_i⟩ := List.getElem?_eq_some_iff.1 h
  refine List.findIdx?_eq_some_iff_getElem.2 ⟨inside, by rwa [at_i], fun j before found => ?_⟩
  have at_j : rows[j]? = some rows[j] := List.getElem?_eq_getElem _
  have ended := sound.end_eq at_j
  have begun := sound.start_eq h
  have order := panelSteps_take_mono rows (Nat.succ_le_of_lt before)
  simp only [Row.holds, Bool.and_eq_true, decide_eq_true_eq] at holds found
  simp only [Nat.succ_eq_add_one] at order
  omega

theorem cursorAt_holds (sound : RowsSound rows) (lap : Lap) (h : rows[i]? = some r) {j : Nat}
    (inside : j < r.entry.images * r.steps) : cursorAt rows lap (r.start + j) = r.cursor lap i j := by
  have found := sound.findIdx_holds (k := r.start + j) h (by simp [Row.holds, inside])
  unfold Row.holds at found
  have row : rows.getD i default = r := by rw [List.getD_eq_getElem?_getD, h]; rfl
  unfold cursorAt Row.cursor
  rw [found]
  cases order : r.entry.order <;> simp only [row, Nat.add_sub_cancel_left, order]

/-- Every ordinal of a lap stands in a row. -/
theorem exists_row (sound : RowsSound rows) (inside : k < panelSteps rows) :
    ∃ (i : Nat) (r : Row) (j : Nat), rows[i]? = some r ∧ k = r.start + j ∧ j < r.entry.images * r.steps := by
  have upTo (n : Nat) (below : k < panelSteps (rows.take n)) :
      ∃ (i : Nat) (r : Row) (j : Nat), rows[i]? = some r ∧ k = r.start + j ∧ j < r.entry.images * r.steps := by
    induction n with
    | zero => simp [panelSteps] at below
    | succ n ih =>
      cases h : rows[n]? with
      | none =>
        rw [List.take_add_one, h] at below
        exact ih (by simpa using below)
      | some r =>
        by_cases before : k < panelSteps (rows.take n)
        · exact ih before
        · have start := sound.start_eq h
          rw [panelSteps_take_succ h] at below
          exact ⟨n, r, k - r.start, h, by omega, by omega⟩
  exact upTo rows.length (by rwa [List.take_length])

/-- A row's last position is followed by the next row, or by the next lap. -/
theorem next_row (sound : RowsSound rows) (lap : Lap) (h : rows[i]? = some r) {j : Nat} (c : Cursor)
    (at_c : c.lap = lap ∧ c.ordinal = r.start + j ∧ c.row = i) (last : j + 1 = r.entry.images * r.steps) :
    c.nextRow rows =
      if r.start + j + 1 = panelSteps rows then cursorAt rows (lap + 1) 0 else cursorAt rows lap (r.start + j + 1) := by
  obtain ⟨rfl, ordinal, rfl⟩ := at_c
  have ended : r.start + j + 1 = panelSteps (rows.take (c.row + 1)) := by rw [← sound.end_eq h]; omega
  unfold Cursor.nextRow
  by_cases more : c.row + 1 < rows.length
  · have next : rows[c.row + 1]? = some rows[c.row + 1] := List.getElem?_eq_getElem more
    obtain ⟨images, steps, -, start⟩ := sound _ _ next
    have notAll : panelSteps (rows.take (c.row + 1)) ≠ panelSteps rows := by
      have order := panelSteps_take_mono rows (Nat.succ_le_of_lt more)
      simp only [Nat.succ_eq_add_one, List.take_length, panelSteps_take_succ next] at order
      have := Nat.mul_pos images steps
      omega
    have there := sound.cursorAt_holds c.lap next (j := 0) (Nat.mul_pos images steps)
    rw [if_pos more, if_neg (by rwa [ended]), ended, ← start]
    rw [Nat.add_zero, Row.cursor_zero] at there
    rw [there, ordinal, start, ended]
  · have all : rows.take (c.row + 1) = rows := List.take_of_length_le (not_lt.1 more)
    have first : 0 < rows.length := by
      obtain ⟨inside, -⟩ := List.getElem?_eq_some_iff.1 h
      omega
    have row : rows[0]? = some rows[0] := List.getElem?_eq_getElem first
    obtain ⟨images, steps, -, start⟩ := sound _ _ row
    have there := sound.cursorAt_holds (c.lap + 1) row (j := 0) (Nat.mul_pos images steps)
    have zero : rows[0].start = 0 := by rw [start]; rfl
    rw [Nat.add_zero, Row.cursor_zero, zero] at there
    rw [if_neg more, if_pos (by rw [ended, all]), there]

/-- The walk goes from a position to the one after it, image by image and step by step as the row's order has it (R15). -/
theorem cursor_next (sound : RowsSound rows) (lap : Lap) (h : rows[i]? = some r) {j : Nat}
    (inside : j < r.entry.images * r.steps) : (r.cursor lap i j).next rows =
      if r.start + j + 1 = panelSteps rows then cursorAt rows (lap + 1) 0 else cursorAt rows lap (r.start + j + 1) := by
  obtain ⟨images, steps, -, -⟩ := sound i r h
  have ended := sound.end_eq h
  have whole := panelSteps_take_mono rows (Nat.succ_le_of_lt (List.getElem?_eq_some_iff.1 h).1)
  simp only [Nat.succ_eq_add_one, List.take_length] at whole
  have stays (before : j + 1 < r.entry.images * r.steps) :
      (if r.start + j + 1 = panelSteps rows then cursorAt rows (lap + 1) 0 else cursorAt rows lap (r.start + j + 1)) =
        r.cursor lap i (j + 1) := by
    rw [if_neg (by omega), ← sound.cursorAt_holds lap h before, Nat.add_assoc]
  unfold Cursor.next
  cases order : r.entry.order with
  | imageMajor =>
    obtain ⟨goes, turns⟩ := succ_div_mod steps j
    have last := succ_lt_mul_iff steps inside
    simp only [Row.cursor, order] at stays ⊢
    rw [h]
    simp only [order]
    by_cases inner : j % r.steps + 1 < r.steps
    · rw [if_pos inner, stays (last.1 (.inl inner)), (goes inner).1, (goes inner).2, Nat.add_assoc]
    by_cases outer : j / r.steps + 1 < r.entry.images
    · rw [if_neg inner, if_pos outer, stays (last.1 (.inr outer)), (turns inner).1, (turns inner).2, Nat.add_assoc]
    · rw [if_neg inner, if_neg outer]
      have past := mt last.2 (not_or.2 ⟨inner, outer⟩)
      exact sound.next_row lap h _ ⟨rfl, rfl, rfl⟩ (by omega)
  | stepMajor =>
    obtain ⟨goes, turns⟩ := succ_div_mod images j
    have last := succ_lt_mul_iff images (n := r.steps) (by rwa [Nat.mul_comm])
    rw [Nat.mul_comm r.steps] at last
    simp only [Row.cursor, order] at stays ⊢
    rw [h]
    simp only [order]
    by_cases inner : j % r.entry.images + 1 < r.entry.images
    · rw [if_pos inner, stays (last.1 (.inl inner)), (goes inner).1, (goes inner).2, Nat.add_assoc]
    by_cases outer : j / r.entry.images + 1 < r.steps
    · rw [if_neg inner, if_pos outer, stays (last.1 (.inr outer)), (turns inner).1, (turns inner).2, Nat.add_assoc]
    · rw [if_neg inner, if_neg outer]
      have past := mt last.2 (not_or.2 ⟨inner, outer⟩)
      exact sound.next_row lap h _ ⟨rfl, rfl, rfl⟩ (by omega)

end RowsSound

/-- Settles O13: an ordinal is a position of one row, and the walk goes on by one position. -/
theorem rewindPointsFollowTheWalk : Obligations.RewindPointsFollowTheWalk := by
  intro rows lap k sound inside
  obtain ⟨i, r, j, h, rfl, position⟩ := sound.exists_row inside
  rw [sound.cursorAt_holds lap h position]
  exact sound.cursor_next lap h position

end Sys2Proof.Machine
end

section
/-!
# Steps, reset and the program reader's reads
-/
namespace Sys2Proof.Machine

/-- Settles O1. -/
theorem stepTakesTheFrontCommand : Obligations.StepTakesTheFrontCommand := by
  intro c rest s front
  unfold step
  rw [front]

/-! ## Time (log entries 3 and 8) -/

/-- One ms of high line in whole bit times and their remainder. -/
theorem idleTick_high {l : Link} (hunt : l.inCharacter = false) (quiet : l.sending = none) :
    10 * (l.divisor + 1) * (l.idleTick true).idle + (l.idleTick true).idlePart =
        10 * (l.divisor + 1) * l.idle + l.idlePart + 2304 ∧
      (l.idleTick true).idlePart < 10 * (l.divisor + 1) := by
  have split := Nat.div_add_mod (l.idlePart + 2304) (10 * (l.divisor + 1))
  have below := Nat.mod_lt (l.idlePart + 2304) (show 0 < 10 * (l.divisor + 1) by omega)
  simp only [Link.idleTick, hunt, quiet, and_self, if_true, Nat.mul_add]
  rw [Nat.mul_add] at split below
  omega

theorem idleTick_held {l : Link} {high : Bool} (h : l.inCharacter = true ∨ l.sending ≠ none ∨ high = false) :
    l.idleTick high = l := by
  refine if_neg ?_
  rintro ⟨hunt, quiet, rfl⟩
  simp [hunt, quiet] at h

theorem idleTick_counts (l : Link) (high : Bool) :
    l.idleTick high = { l with idle := (l.idleTick high).idle, idlePart := (l.idleTick high).idlePart } := by
  unfold Link.idleTick; split <;> rfl

namespace State
variable {s : State}

/-- Nothing that is announced depends on the timers. -/
theorem passTime_link (s : State) : s.passTime.link =
    { s.link.idleTick s.lines.link with
      statusTimer := tickTimer s.link.statusTimer, peers := s.link.peers.map Peer.older } := by
  have same : s.announced = s.ticked.announced := rfl
  rw [passTime_eq, settle_link, if_pos same]
  rfl

theorem passTime_peer {a : Nat} {q : Peer} (h : s.link.peer a = some q) :
    s.passTime.link.peer a = some { q with age := min 65535 (q.age + 1) } := by
  unfold Link.peer at h ⊢
  rw [passTime_link]
  rw [Option.ite_none_right_eq_some] at h ⊢
  exact ⟨h.1, by simp [h.2, Peer.older, bump, Config.counterMax]⟩

end State

/-- Settles O2: the queue's front, the row that is due and the ms are the step's three ways. -/
theorem emptyQueueRunsTheDueRowOrTime : Obligations.EmptyQueueRunsTheDueRowOrTime := by
  intro s empty
  refine ⟨fun asserted => ?reset, fun p released => ⟨fun c due => ?row, fun none => ⟨s.passTime, ?time, ?_⟩⟩⟩
  case reset => simp [step, empty, State.released, asserted]
  case row => simp [step, empty, State.released, released, due]
  case time => simp [step, empty, State.released, released, none]
  have link := State.passTime_link s
  rw [State.passTime_eq] at link ⊢
  simp only [State.settle_frame]
  refine ⟨rfl, empty, rfl, rfl, rfl, rfl, rfl, rfl, rfl, rfl, rfl, rfl, ?link, fun held => ?held, fun hunt quiet high => ?high,
    fun a q heard => State.passTime_peer heard⟩
  case link => rw [link, idleTick_counts]; rfl
  case held =>
    rw [link, idleTick_held held]
    exact ⟨rfl, rfl⟩
  case high =>
    rw [link, high]
    exact idleTick_high hunt quiet

/-- Settles O9: RESET answers the reset state, but for the waiting commands, the lines and the clock. -/
theorem resetSetsEveryUnit : Obligations.ResetSetsEveryUnit := by
  intro s
  have unheard (a : Nat) (p : Peer) (h : s.resetFrom.link.peer a = some p) : p.heard = false ∧ p.age = 0 := by
    unfold Link.peer at h
    rw [Option.ite_none_right_eq_some] at h
    rw [List.eq_of_mem_replicate (List.mem_of_getElem? h.2)]
    exact ⟨rfl, rfl⟩
  refine ⟨s.resetFrom, rfl, rfl, rfl, rfl, rfl, ?_, ?_, ?_, ?_, ?_, ?_, ?_, ?_, ?_, ?_⟩ <;>
    simp only [State.resetFrom, State.reset, Reader.atReset, Verifier.atReset, Tape.atReset, Table.atReset, Head.atReset,
      Work.atReset, Trav.atReset, Alarm.atReset, Link.atReset, Outputs.atReset, Config.defaultDivisor,
      Config.defaultPeriod, and_self, true_and]
  · intro m; cases m <;> rfl
  · exact ⟨unheard, trivial⟩

namespace State
variable {s : State}

/-! ## The reader's reads (R7, R18) -/

theorem within_address (addr : BitVec 5) : within 1 30 addr.toNat = true ↔ addr ≠ 0 ∧ addr ≠ 31 := by
  unfold within
  simp only [Bool.and_eq_true, decide_eq_true_eq]
  bv_omega

/-- The next read can be issued (R18). -/
def CanRead (s : State) : Prop :=
  s.reader.phase = .walking ∧ s.reader.buffer.length < 4 ∧ s.reader.read = none

theorem readReady_iff (s : State) :
    (s.reader.phase == .walking && decide (s.reader.buffer.length < Config.bufferRoom) && s.reader.read.isNone) = true ↔
      s.CanRead := by
  have four : Config.bufferRoom = 4 := rfl
  simp only [State.CanRead, Bool.and_eq_true, beq_iff_eq, decide_eq_true_eq, Option.isNone_iff_eq_none, four, and_assoc]

/-- A read is issued in WALKING with room in the buffer and none in flight, and the cursor then goes on (R15, R18). -/
theorem issueRead_of_ready (ready : s.CanRead) : s.issueRead.reader = { s.reader with
    read := some ⟨stepAddr s.reader.rows s.reader.cursor, 4, some s.reader.cursor, false⟩
    cursor := s.reader.cursor.next s.reader.rows } := by
  unfold State.issueRead
  rw [if_pos ((readReady_iff s).2 ready)]
  rfl

theorem issueRead_of_not_ready (h : ¬s.CanRead) : s.issueRead = s := if_neg (mt (readReady_iff s).1 h)

end State

/-- Settles O10: the straps as sampled, the status slot, and the first read or the failed address. -/
theorem releaseSamplesTheStrapsAndBegins : Obligations.ReleaseSamplesTheStrapsAndBegins := by
  intro addr role lo s
  constructor
  · intro asserted
    have unreleased : s.released = false := by simp [State.released, asserted]
    refine ⟨_, if_neg (by simp [unreleased]), ?_⟩
    by_cases own : within 1 30 addr.toNat = true
    · have inside := (State.within_address addr).1 own
      rw [if_pos own]
      refine ⟨fun _ => by simp [State.readNext, Config.headerWords], fun out => ?_, ?_, State.keepsBut_settle ?_⟩
      · exact absurd inside (by rcases out with h | h <;> simp [h])
      · rw [State.settle_link_of_same] <;> rfl
      · simp [State.KeepsBut, State.readNext]
    · have outside := mt (State.within_address addr).2 own
      rw [if_neg own]
      refine ⟨fun inside => absurd inside outside, fun _ => by simp [State.failStart], ?_, State.keepsBut_settle ?_⟩
      · rw [State.settle_link_of_same] <;> rfl
      · simp [State.KeepsBut, State.failStart]
  · intro released
    exact if_pos (by simpa [State.released, Option.isSome_iff_ne_none] using released)

/-! ## The walking read (R16, R18) -/

theorem checkKindOfCode_code {n : Nat} (small : n ≤ 3) : ((checkKindOfCode n).getD .none).code = n := by
  interval_cases n <;> rfl

theorem position_eq_zero {r : Row} (images : 0 < r.entry.images) (steps : 0 < r.steps) (image step : Nat) :
    r.position image step = 0 ↔ image = 0 ∧ step = 0 := by
  unfold Row.position
  split <;> simp [images.ne', steps.ne', and_comm]

/-- Settles O11: the resolved record field by field, and the next read by `State.issueRead_reads`. -/
theorem walkingReadsFillTheBuffer : Obligations.WalkingReadsFillTheBuffer := by
  intro s ws d c read walk
  have exec_eq : exec (.pmemReadCompletion ws) s =
      if ws.length ≠ d.count then .fault .wordsNotAsNamed else s.finish (s.takeWalk d c ws) := by
    change execPmemReadCompletion ws s = _
    unfold execPmemReadCompletion
    rw [read]
    simp only [walk]
  refine ⟨fun other => by rw [exec_eq, if_pos other], fun named =>
    ⟨s.settle (s.takeWalk d c ws), resolve s.reader.rows c ws, by rw [exec_eq, if_neg (by simp [named])]; rfl, ?record, ?_⟩⟩
  case record =>
    have rowAt {row : Row} (h : s.reader.rows[c.row]? = some row) : s.reader.rows.getD c.row default = row := by
      rw [List.getD_eq_getElem?_getD, h]; rfl
    refine ⟨rfl, rfl, rfl, rfl, fun row h => ?_, rfl, ?_, fun small => checkKindOfCode_code small, rfl, rfl, rfl,
      fun row h images steps => ?_⟩
    · simp only [resolve, rowAt h]
      exact ⟨trivial, rfl, rfl⟩
    · simp [resolve, stepRecordOf, wordAt]
    · simp only [resolve, rowAt h, decide_eq_true_eq]
      exact position_eq_zero images steps _ _
  generalize record : resolve s.reader.rows c ws = r
  have taken : s.takeWalk d c ws = (s.modReader fun x =>
      { x with read := none, buffer := if d.discarded then s.reader.buffer else s.reader.buffer ++ [r] }).issueRead := by
    rw [← record]; rfl
  refine ⟨?buffer, ?next, ?rest, State.keepsBut_settle (by simp [State.KeepsBut, State.takeWalk])⟩ <;>
    rw [taken] <;> generalize buffer : (if d.discarded then s.reader.buffer else s.reader.buffer ++ [r]) = b
  case buffer => simp [State.issueRead_buffer]
  case next =>
    simp only [State.settle_frame, State.issueRead_buffer, State.modReader_reader]
    split
    next ready =>
      rw [State.issueRead_of_ready (by exact ⟨ready.1, ready.2, rfl⟩)]
      exact ⟨rfl, rfl⟩
    next unready =>
      rw [State.issueRead_of_not_ready (by exact fun ready => unready ⟨ready.1, ready.2.1⟩)]
      exact ⟨rfl, rfl⟩
  case rest =>
    simp only [State.settle_frame]
    by_cases ready : (s.modReader fun x => { x with read := none, buffer := b }).CanRead
    · rw [State.issueRead_of_ready ready]; rfl
    · rw [State.issueRead_of_not_ready ready]; rfl

end Sys2Proof.Machine
end

section
/-!
# Feeds, jams and the tape sensors (R42, R54 to R56, R59, R80)
-/
namespace Sys2Proof.Machine

/-- Settles O18: the model's condition is R42's. -/
theorem feedStartsWhenItMay : Obligations.FeedStartsWhenItMay := by
  refine fun s => ⟨fun can => ⟨_, if_pos ((State.feedReady_iff s).2 can), ?_, ?_, ?_⟩, fun cannot =>
    if_neg (mt (State.feedReady_iff s).1 cannot)⟩
  · rw [State.settle_out]; rfl
  · simp [State.startFeed]
  · exact State.keepsBut_settle (by simp [State.KeepsBut, State.startFeed])

namespace State
variable {s : State}

/-- A decision of the oldest entry changes neither what is held of the entries, nor the rest of the tape (R46). -/
theorem decideOldest_held (s : State) : s.decideOldest.tape.queue.map Entry.held = s.tape.queue.map Entry.held := by
  cases queue : s.tape.queue with
  | nil => rw [decideOldest_tape_nil queue, queue]
  | cons e es => rw [decideOldest_tape_cons queue]; rfl

theorem decideOldest_tail (s : State) : s.decideOldest.tape.queue.tail = s.tape.queue.tail := by
  cases queue : s.tape.queue with
  | nil => rw [decideOldest_tape_nil queue, queue]
  | cons e es => rw [decideOldest_tape_cons queue]; rfl

theorem decideOldest_rest (s : State) :
    s.decideOldest.tape = { s.tape with queue := s.decideOldest.tape.queue } := by
  cases queue : s.tape.queue with
  | nil => rw [decideOldest_tape_nil queue]
  | cons e es => rw [decideOldest_tape_cons queue]

theorem abandon_verifier_of_idle (idle : s.verifier.phase = .idle) : s.abandon.verifier = s.verifier := by
  unfold State.abandon
  rw [if_pos idle]

theorem abandon_modTape (s : State) (f : Tape → Tape) : (s.modTape f).abandon = s.abandon.modTape f := by
  unfold State.abandon
  rw [modTape_verifier]
  split <;> rfl

end State

/-- An entry after the queue is resynchronised (R55). -/
def Entry.unchecked (e : Entry) : Entry :=
  { e with verdict := .unchecked, codes := [], decision := if e.attempted then e.decision else none }

/-- The tape after TAPE_JAM, before the oldest entry is decided (R54, R55). -/
def Tape.jam (t : Tape) : Tape :=
  { t with feeding := false, timer := none, fault := .jammed, queue := t.queue.map Entry.unchecked }

/-- TAPE_JAM before its alarm (R54). -/
def State.jamTape (s : State) : State := (s.abandon.modTape Tape.jam).decideOldest

theorem exec_tapeJam (s : State) (feeding : s.tape.feeding = true) :
    exec .tapeJam s = .next (s.settle (s.jamTape.raise
      ⟨.tapeJam, s.workingSerial, s.reader.buffer.head?.map Record.ordinal, false⟩)) := by
  have jammed : (((s.modTape fun t => { t with feeding := false, timer := none, fault := .jammed }).abandon).resync) =
      s.jamTape := by
    rw [State.abandon_modTape]
    rfl
  change execTapeJam s = _
  unfold execTapeJam
  rw [if_pos feeding, jammed]
  rfl

/-- Settles O21: the queue by what `Entry.unchecked` makes of each entry and a decision of the oldest one. -/
theorem tapeJamResynchronisesTheQueue : Obligations.TapeJamResynchronisesTheQueue := by
  refine fun s => ⟨fun idle => if_neg (by simp [idle]), fun feeding => ⟨_, exec_tapeJam s feeding, ?_⟩⟩
  have tape := State.decideOldest_rest (s.abandon.modTape Tape.jam)
  have alarm : (s.jamTape.raise ⟨.tapeJam, s.workingSerial, s.reader.buffer.head?.map Record.ordinal, false⟩).alarm =
      (s.raise ⟨.tapeJam, s.workingSerial, s.reader.buffer.head?.map Record.ordinal, false⟩).alarm :=
    State.raise_alarm_congr _ _ _ (by simp [State.jamTape]) (by simp [State.jamTape])
  simp only [State.settle_frame, State.raise_frame, alarm]
  unfold State.jamTape
  refine ⟨by rw [tape]; rfl, by rw [tape]; rfl, by rw [tape]; rfl, ?held, ?undecided, ?phase, ?same, trivial, ?frame⟩
  case held =>
    refine (State.decideOldest_held (s.abandon.modTape Tape.jam)).trans ?_
    simp [Tape.jam, Entry.unchecked, Entry.held]
  case undecided =>
    rw [State.decideOldest_tail]
    simp only [State.modTape_tape, State.abandon_frame, Tape.jam, ← List.map_tail, List.mem_map, forall_exists_index, and_imp]
    rintro _ e - rfl free
    simp only [Entry.unchecked] at free ⊢
    simp [free]
  case phase => simpa using State.abandon_verifier_phase s
  case same => exact fun idle => by simpa using State.abandon_verifier_of_idle idle
  case frame =>
    refine State.keepsBut_settle ?_
    simp [State.KeepsBut, State.raise_head, State.headAfter]

namespace State

/-- A raise beside a change of lines and tape is the raise in the state before. -/
theorem raise_keepsBut {s t : State} (r : Raise) {ps : List Part} (kept : s.KeepsBut t ps) (alarm : t.alarm = s.alarm)
    (head : t.head = s.head) (more : .alarm ∈ ps) : s.KeepsBut (t.raise r) ps := by
  obtain ⟨pending, now, hdr, lines, reader, verifier, tape, table, -, work, trav, -, link⟩ := kept
  have headAfter (x : RunState) : t.headAfter x = s.headAfter x := by
    unfold State.headAfter
    rw [alarm, head]
  unfold State.KeepsBut
  simp only [raise_frame, raise_head, headAfter]
  exact ⟨pending, now, hdr, lines, reader, verifier, tape, table, .inr trivial, work, trav, .inl more, link⟩

/-- A report of a condition beside a change of the lines. -/
theorem report_alarm (s : State) (c : AlarmCode) (active : Bool) :
    (s.reportCondition c active).alarm =
      { s.alarm with list := s.alarm.list.map (AlarmEntry.withPersists c active) } := rfl

end State

/-- Settles O22: a raise or a report beside the line's own level. -/
theorem tapeSensorsRaiseAndReport : Obligations.TapeSensorsRaiseAndReport := by
  intro s
  have reported (f : Lines → Lines) (c : AlarmCode) :
      (s.settle ((s.modLines f).reportCondition c false)).lines = f s.lines ∧
        (s.settle ((s.modLines f).reportCondition c false)).alarm =
          { s.alarm with list := s.alarm.list.map (AlarmEntry.withPersists c false) } ∧
        s.KeepsBut (s.settle ((s.modLines f).reportCondition c false)) [.lines, .alarm] :=
    ⟨by simp, by simp [State.report_alarm], State.keepsBut_settle (by simp [State.KeepsBut, State.reportCondition])⟩
  refine ⟨⟨_, rfl, ?tbrk⟩, ⟨_, rfl, ?low⟩, ⟨_, rfl, reported _ _⟩, ⟨_, rfl, reported _ _⟩, ⟨_, rfl, reported _ _⟩⟩
  case tbrk =>
    by_cases off : s.alarm.run = .configFault
    · rw [if_neg (by simp [State.live_iff, off])]
      exact ⟨by simp, fun _ => State.keepsBut_settle (by simp [State.KeepsBut]), fun on => absurd off on⟩
    · rw [if_pos ((State.live_iff s).2 off)]
      refine ⟨by simp [State.breakTape], fun no => absurd no off, fun _ => ⟨by simp [State.breakTape], ?_, ?_⟩⟩
      · simp only [State.settle_frame]
        exact State.raise_alarm_congr _ _ _ rfl rfl
      · exact State.keepsBut_settle (State.raise_keepsBut _ (by simp [State.KeepsBut]) rfl rfl (by simp))
  case low =>
    refine ⟨by simp [State.raiseTapeLow], ?_, ?_⟩
    · simp only [State.settle_frame]
      exact State.raise_alarm_congr _ _ _ rfl rfl
    · exact State.keepsBut_settle (State.raise_keepsBut _ (by simp [State.KeepsBut]) rfl rfl (by simp))

end Sys2Proof.Machine
end

section
/-!
# Homing and moves that end or start (R67, R68, R74, R75, R79, R80)
-/
namespace Sys2Proof.Machine

namespace State
variable {s t : State}

/-- A raise names the board as the state before does. -/
theorem boardSerial_congr (work : t.work = s.work) : t.boardSerial = s.boardSerial := by
  unfold State.boardSerial
  rw [work]

/-- Alarm 22 beside a change that leaves header, alarm and board alone. -/
theorem raiseLimit_alarm (hdr : t.hdr = s.hdr) (alarm : t.alarm = s.alarm) (work : t.work = s.work) (k : Option Nat) :
    (t.raiseLimit k).alarm = (s.raise ⟨.tableLimit, s.boardSerial, k, true⟩).alarm := by
  unfold State.raiseLimit
  rw [boardSerial_congr work]
  exact raise_alarm_congr s t _ alarm hdr

theorem raiseLimit_keepsBut {ps : List Part} (kept : s.KeepsBut t ps) (alarm : t.alarm = s.alarm) (head : t.head = s.head)
    (more : .alarm ∈ ps) (k : Option Nat) : s.KeepsBut (t.raiseLimit k) ps :=
  raise_keepsBut _ kept alarm head more

theorem onLimit_iff (l : Lines) : l.onLimit = true ↔ l.xlim = true ∨ l.ylim = true := by simp [Lines.onLimit]

theorem onLimit_eq_false {l : Lines} (x : l.xlim = false) (y : l.ylim = false) : l.onLimit = false := by
  simp [Lines.onLimit, x, y]

theorem startMove_table (s : State) (p : Purpose) (goal : Target) :
    (s.startMove p goal).table = s.table.moved s.header s.now p goal := rfl

theorem refuseMove_table (s : State) (k : Option Nat) : (s.refuseMove k).table = { s.table with homed := false } := by
  simp [State.refuseMove]

theorem refuseMove_alarm (s : State) (k : Option Nat) :
    (s.refuseMove k).alarm = (s.raise ⟨.tableLimit, s.boardSerial, k, true⟩).alarm :=
  raiseLimit_alarm (s := s) (t := s.modTable fun t => { t with homed := false }) rfl rfl rfl k

/-- The move of the oldest entry starts, or is refused at an active limit (R74, R80). -/
theorem tryInsertMove_of_can {e : Entry} {goal : Target} (can : s.CanMove e goal) :
    s.tryInsertMove = if s.lines.onLimit then s.refuseMove (some e.record.ordinal)
      else s.startMove (.insert e.record.lap e.record.ordinal) goal := by
  unfold State.tryInsertMove
  rw [insertMove_iff.2 can]

theorem insertMove_eq_none (cannot : ¬∃ e goal, s.CanMove e goal) : s.insertMove = none := by
  by_contra some
  obtain ⟨⟨e, goal⟩, h⟩ := Option.ne_none_iff_exists'.1 some
  exact cannot ⟨e, goal, insertMove_iff.1 h⟩

theorem tryInsertMove_of_cannot (cannot : ¬∃ e goal, s.CanMove e goal) : s.tryInsertMove = s := by
  unfold State.tryInsertMove
  rw [insertMove_eq_none cannot]

/-! ## Limits (R68, R79, R80) -/

theorem hitLimit_of_homing (homing : s.table.activity = .homing) : s.hitLimit =
    (s.modTable fun x => { x with activity := .idle, homingTimer := none, seeking := [], homed := false }).raiseLimit
      none := by
  simp [State.hitLimit, homing]

theorem hitLimit_of_moving (moving : s.table.activity = .moving) {m : Move} (slot : s.table.slot = some m) : s.hitLimit =
    ((s.modTable fun x => { x with activity := .idle, slot := none, homed := false }).raiseLimit m.purpose.ordinal).askAgain
      m.purpose := by
  simp [State.hitLimit, moving, slot]

theorem hitLimit_of_idle (idle : s.table.activity = .idle) : s.hitLimit = s.reportCondition .tableLimit true := by
  simp [State.hitLimit, idle]

/-- A MARK move that ended is asked for again, for the scan cursor's image (R116). -/
theorem askAgain_table (s : State) (p : Purpose) :
    (s.askAgain p).table = { s.table with markRequest := (s.askAgain p).table.markRequest } := by
  unfold State.askAgain
  split <;> rfl

theorem askAgain_insert (s : State) (lap : Lap) (k : Nat) : s.askAgain (.insert lap k) = s := rfl

theorem askAgain_mark_of_scanning (scanning : s.work.state = .scanning) (scan : s.work.scan ≠ none) (g : Nat) :
    (s.askAgain (.mark g)).table.markRequest = s.work.scan := by
  obtain ⟨n, hn⟩ := Option.ne_none_iff_exists'.1 scan
  simp [State.askAgain, scanning, hn]

theorem askAgain_mark_of_not_scanning (h : s.work.state ≠ .scanning) (g : Nat) : s.askAgain (.mark g) = s := by
  unfold State.askAgain
  split
  next state _ => exact absurd state h
  next => rfl

end State

/-- Settles O26: HOME_FAIL ends homing, and a limit ends what the table is doing. -/
theorem homeFailAndLimitsEndMotion : Obligations.HomeFailAndLimitsEndMotion := by
  intro s
  refine ⟨fun none => if_neg (by simp [none]), fun running => ⟨_, if_pos (Option.isSome_iff_ne_none.2 running), ?fail⟩,
    fun axis => ⟨_, rfl, ?limit⟩⟩
  case fail =>
    simp only [State.settle_frame, State.raise_frame, State.modTable_table]
    refine ⟨trivial, fun still => ?_, fun moving => by simp [moving], ?_, State.keepsBut_settle (State.raise_keepsBut _
      (by simp [State.KeepsBut]) (by rfl) (by rfl) (by simp))⟩
    · cases activity : s.table.activity <;> simp_all
    · exact State.raise_alarm_congr _ _ _ rfl rfl
  case limit =>
    have linesOf (u : State) (lines : u.lines = s.lines.limit axis) :
        (axis = .x → (s.settle u).lines = { s.lines with xlim := true }) ∧
          (axis = .y → (s.settle u).lines = { s.lines with ylim := true }) := by
      simp only [State.settle_frame, lines]
      exact ⟨by rintro rfl; rfl, by rintro rfl; rfl⟩
    by_cases off : s.alarm.run = .configFault
    · rw [if_neg (by simp [State.live_iff, off])]
      obtain ⟨x, y⟩ := linesOf (s.modLines fun l => l.limit axis) rfl
      exact ⟨x, y, fun _ => State.keepsBut_settle (by simp [State.KeepsBut]), fun on => absurd off on,
        fun on => absurd off on, fun on => absurd off on⟩
    rw [if_pos ((State.live_iff s).2 off)]
    obtain ⟨x, y⟩ := linesOf (s.modLines fun l => l.limit axis).hitLimit (by simp)
    refine ⟨x, y, fun no => absurd no off, fun _ homing => ?_, fun _ moving m slot => ?_, fun _ idle => ?_⟩
    · rw [State.hitLimit_of_homing (by exact homing)]
      refine ⟨by simp, ?_, State.keepsBut_settle (State.raiseLimit_keepsBut (by simp [State.KeepsBut]) (by rfl) (by rfl) (by simp) _)⟩
      simp only [State.settle_frame]
      exact State.raiseLimit_alarm (by rfl) (by rfl) (by rfl) _
    · rw [State.hitLimit_of_moving (by exact moving) (by exact slot)]
      have alarm (k : Option Nat) := State.raiseLimit_alarm (s := s)
        (t := (s.modLines fun l => l.limit axis).modTable fun x => { x with activity := .idle, slot := none, homed := false })
        rfl rfl rfl k
      refine ⟨?table, ?frame, fun lap k purpose => ?insert, fun g purpose => ?mark⟩
      case table => simp only [State.settle_frame]; rw [State.askAgain_table]; simp
      case frame =>
        refine State.keepsBut_settle ?_
        have raised := State.raiseLimit_keepsBut (s := s) (ps := [.lines, .table, .alarm])
          (t := (s.modLines fun l => l.limit axis).modTable fun x =>
            { x with activity := .idle, slot := none, homed := false })
          (by simp [State.KeepsBut]) (by rfl) (by rfl) (by simp) m.purpose.ordinal
        simpa [State.KeepsBut] using raised
      case insert =>
        rw [purpose, State.askAgain_insert]
        simp only [State.settle_frame]
        exact ⟨by simp, alarm _⟩
      case mark =>
        rw [purpose]
        simp only [State.settle_frame, State.askAgain_frame]
        refine ⟨alarm _, fun scanning scan => ?_, fun other => ?_⟩
        · rw [State.askAgain_mark_of_scanning (by simpa using scanning) (by simpa using scan)]
          simp
        · rw [State.askAgain_mark_of_not_scanning (by simpa using other)]
          simp
    · rw [State.hitLimit_of_idle (by exact idle)]
      exact ⟨by simp [State.report_alarm], State.keepsBut_settle (by simp [State.KeepsBut, State.reportCondition])⟩

/-- Settles O27: the model's condition is R74's, and the target set is R48's. -/
theorem insertMovesStartFromTheCommandedValues : Obligations.InsertMovesStartFromTheCommandedValues := by
  intro s
  constructor
  · intro cannot
    change execInsertMoveStart s = _
    unfold execInsertMoveStart
    rw [State.insertMove_eq_none cannot]
  · intro e goal can
    have acts : exec .insertMoveStart s = .next (s.settle s.tryInsertMove) := by
      change execInsertMoveStart s = _
      unfold execInsertMoveStart
      rw [State.insertMove_iff.2 can]
      rfl
    refine ⟨_, acts, ?target, fun x y => ?moves, fun limit => ?refused⟩
    case target =>
      obtain ⟨-, -, -, -, target, -⟩ := can
      unfold Entry.target at target
      split at target <;> cases target <;> simp [*]
    case moves =>
      rw [State.tryInsertMove_of_can can, State.onLimit_eq_false x y]
      exact ⟨by simp [State.startMove_table], State.keepsBut_settle (by simp [State.KeepsBut])⟩
    case refused =>
      rw [State.tryInsertMove_of_can can, (State.onLimit_iff _).2 limit]
      refine ⟨by simp [State.refuseMove_table], by simp [State.refuseMove_alarm], State.keepsBut_settle ?_⟩
      exact State.raiseLimit_keepsBut (by simp [State.KeepsBut]) (by rfl) (by rfl) (by simp) _

end Sys2Proof.Machine
end

section
/-!
# The move plan (R3, R69 to R73)

The axis time is the clamped table at the multiples of 512, a ceiling of a part of the table's step between them, and a
ceiling past the table: it never falls from one distance to the next, so it is 0 at distance 0 alone.
-/
namespace Sys2Proof.Machine

/-! ## The clamped table (R3) -/

theorem runningMax_length (m : Nat) (ts : List Nat) : (runningMax m ts).length = ts.length := by
  induction ts generalizing m with
  | nil => rfl
  | cons t ts ih => simp [runningMax, ih]

theorem le_of_mem_runningMax {m x : Nat} {ts : List Nat} (h : x ∈ runningMax m ts) : m ≤ x := by
  induction ts generalizing m with
  | nil => cases h
  | cons t ts ih =>
    rcases List.mem_cons.1 h with rfl | h
    · exact le_max_left _ _
    · exact (le_max_left _ _).trans (ih h)

theorem runningMax_pairwise (m : Nat) (ts : List Nat) : (runningMax m ts).Pairwise (· ≤ ·) := by
  induction ts generalizing m with
  | nil => exact .nil
  | cons t ts ih => exact .cons (fun x hx => le_of_mem_runningMax hx) (ih _)

theorem headerFault_eq_none {w : Nat → Nat} : headerFault w = none ↔ ∀ c ∈ headerChecks w, c.2 = true := by
  simp [headerFault, List.find?_eq_none]

/-- The fields that the plan reads, in their ranges. -/
theorem moves_in_range {w : Nat → Nat} (h : headerFault w = none) :
    1 ≤ w 7 ∧ 1 ≤ w 8 ∧ 1 ≤ w 42 ∧ ∀ b < 32, 1 ≤ w (10 + b) := by
  have passes := headerFault_eq_none.1 h
  have field (i lo hi : Nat) (mem : (i, within lo hi (w i)) ∈ headerChecks w) : lo ≤ w i := by
    have := passes _ mem
    simp only [within, Bool.and_eq_true, decide_eq_true_eq] at this
    exact this.1
  refine ⟨field 7 1 50 (by simp [headerChecks]), (by decide : 1 ≤ 10).trans (field 8 10 400 (by simp [headerChecks])),
    field 42 1 64 (by simp [headerChecks]), fun b hb => field (10 + b) 1 2000 ?_⟩
  exact List.mem_append_left _ (List.mem_append_left _ (List.mem_append_left _ (List.mem_append_right _
    (List.mem_map.2 ⟨b, List.mem_range.2 hb, rfl⟩))))

theorem headerOf_movesFit {w : Nat → Nat} (h : headerFault w = none) : (headerOf w).MovesFit := by
  obtain ⟨fs, tq, vEnd, times⟩ := moves_in_range h
  have length : (headerOf w).times.length = 32 := by simp [headerOf, runningMax_length]
  refine ⟨length, fun i j hij hj => ?_, ?_, vEnd, tq, fs⟩
  · rw [List.getD_eq_getElem _ _ (by omega), List.getD_eq_getElem _ _ (by omega)]
    rcases hij.eq_or_lt with rfl | hij
    · exact le_rfl
    · exact List.pairwise_iff_getElem.1 (runningMax_pairwise 0 _) i j _ _ hij
  · have first : (headerOf w).times.getD 0 0 = max 0 (w 10) := rfl
    rw [first]
    exact le_max_of_le_right (times 0 (by decide))

/-! ## Ceilings -/

theorem ceilDiv_zero {b : Nat} (hb : 0 < b) : ceilDiv 0 b = 0 := Nat.le_zero.1 ((ceilDiv_le_iff hb).2 (by simp))

theorem ceilDiv_mono {a c b : Nat} (h : a ≤ c) : ceilDiv a b ≤ ceilDiv c b := Nat.div_le_div_right (by omega)

theorem ceilDiv_pos {a b : Nat} (hb : 0 < b) : 0 < ceilDiv a b ↔ 0 < a := by rw [lt_ceilDiv_iff hb, Nat.zero_mul]

namespace Header
variable {h : Header}

/-! ## The axis time (R69, R70) -/

theorem moveTime_mono (fits : h.MovesFit) {b c : Nat} (hbc : b ≤ c) (hc : c ≤ 32) :
    moveTime h.times b ≤ moveTime h.times c := by
  obtain ⟨-, mono, -⟩ := fits
  unfold moveTime
  split
  · exact Nat.zero_le _
  · rw [if_neg (by omega)]
    exact mono _ _ (by omega) (by omega)

theorem axisTime_below (h : Header) {b r : Nat} (hb : b < 32) (hr : r < 512) :
    axisTime h (512 * b + r) =
      moveTime h.times b + ceilDiv ((moveTime h.times (b + 1) - moveTime h.times b) * r) 512 := by
  unfold axisTime
  rw [if_pos (by omega), show (512 * b + r) / 512 = b by omega, show (512 * b + r) % 512 = r by omega]

theorem axisTime_past (h : Header) {d : Nat} (hd : 16384 ≤ d) :
    axisTime h d = moveTime h.times 32 + ceilDiv (d - 16384) h.vEnd := if_neg (by omega)

theorem axisTime_multiple (fits : h.MovesFit) {b : Nat} (hb : b ≤ 32) : axisTime h (512 * b) = moveTime h.times b := by
  obtain ⟨-, -, -, vEnd, -⟩ := fits
  rcases hb.lt_or_eq with hb | rfl
  · have := axisTime_below h hb (show 0 < 512 by decide)
    rwa [Nat.mul_zero, ceilDiv_zero (by decide)] at this
  · rw [axisTime_past h (by decide), ceilDiv_zero vEnd]
    rfl

/-- From one distance to the next the time stays in the table's step, or reaches the next multiple. -/
theorem axisTime_mono (fits : h.MovesFit) : Monotone (axisTime h) := by
  refine monotone_nat_of_le_succ fun d => ?_
  by_cases past : 16384 ≤ d
  · rw [axisTime_past h past, axisTime_past h (by omega)]
    exact Nat.add_le_add_left (ceilDiv_mono (by omega)) _
  obtain ⟨b, r, hr, rfl⟩ : ∃ b r, r < 512 ∧ d = 512 * b + r := ⟨d / 512, d % 512, Nat.mod_lt _ (by decide), by omega⟩
  have hb : b < 32 := by omega
  rw [axisTime_below h hb hr]
  by_cases inner : r + 1 < 512
  · rw [Nat.add_assoc, axisTime_below h hb inner]
    exact Nat.add_le_add_left (ceilDiv_mono (Nat.mul_le_mul_left _ (by omega))) _
  · have rise := moveTime_mono fits (show b ≤ b + 1 by omega) hb
    have part : ceilDiv ((moveTime h.times (b + 1) - moveTime h.times b) * r) 512 ≤
        moveTime h.times (b + 1) - moveTime h.times b :=
      (ceilDiv_le_iff (by decide)).2 (Nat.mul_le_mul_left _ hr.le)
    rw [show 512 * b + r + 1 = 512 * (b + 1) by omega, axisTime_multiple fits (show b + 1 ≤ 32 from hb)]
    omega

theorem axisTime_eq_zero (fits : h.MovesFit) (d : Nat) : axisTime h d = 0 ↔ d = 0 := by
  have zero : axisTime h 0 = 0 := axisTime_multiple fits (b := 0) (by decide)
  refine ⟨fun none => ?_, fun none => none ▸ zero⟩
  by_contra far
  have first : 1 ≤ h.times.getD 0 0 := by obtain ⟨-, -, first, -⟩ := fits; exact first
  have one : axisTime h (512 * 0 + 1) = _ := axisTime_below h (by decide) (by decide)
  have step : moveTime h.times (0 + 1) - moveTime h.times 0 = h.times.getD 0 0 := rfl
  have pos : 0 < ceilDiv (h.times.getD 0 0 * 1) 512 := (ceilDiv_pos (by decide)).2 (by omega)
  have least := axisTime_mono fits (show 1 ≤ d by omega)
  rw [step] at one
  simp only [Nat.mul_zero, Nat.zero_add] at one
  omega

/-! ## The plan (R71 to R73) -/

theorem quarterTurns_eq (start goal : Quarter) :
    quarterTurns start goal = min (goal - start).toNat (start - goal).toNat := by
  revert start goal
  decide

theorem quarterTurns_eq_zero (start goal : Quarter) : quarterTurns start goal = 0 ↔ goal = start := by
  revert start goal
  decide

theorem longest_eq_zero (fits : h.MovesFit) (start goal : Target) :
    (driveTimes h start goal).longest = 0 ↔ goal = start := by
  obtain ⟨tq, fs⟩ : h.tq ≠ 0 ∧ 0 < h.fs := by
    obtain ⟨-, -, -, -, tq, fs⟩ := fits
    omega
  have former : ceilDiv ((goal.span : Int) - start.span).natAbs h.fs = 0 ↔ goal.span = start.span := by
    have := ceilDiv_pos (a := ((goal.span : Int) - start.span).natAbs) fs
    omega
  obtain ⟨x, y, turret, span⟩ := start
  obtain ⟨x', y', turret', span'⟩ := goal
  simp only [DriveTimes.longest, driveTimes, turretTime, formerTime, ← Nat.le_zero, max_le_iff] at former ⊢
  simp only [Nat.le_zero, axisTime_eq_zero fits, Nat.mul_eq_zero, tq, false_or, quarterTurns_eq_zero, former,
    Target.mk.injEq, Int.natAbs_eq_zero, sub_eq_zero, and_assoc]

theorem planOf_eq_zero (fits : h.MovesFit) (start goal : Target) :
    planOf h (driveTimes h start goal) = 0 ↔ goal = start := by
  rw [← longest_eq_zero fits]
  unfold planOf
  split
  · exact iff_of_true rfl ‹_›
  · exact iff_of_false (by omega) ‹_›

end Header

/-- Settles O24: the table is the running maximum of the header's times, and the axis time rises with the distance. -/
theorem plansAreZeroOnlyAtTheTarget : Obligations.PlansAreZeroOnlyAtTheTarget := by
  refine ⟨fun w => headerOf_movesFit, fun h fits => ?_⟩
  refine ⟨Header.axisTime_multiple fits (b := 0) (by decide), fun b one le => ?multiple, fun b r hb hr => ?between,
    fun d hd => ?past, fun d d' hd => Header.axisTime_mono fits hd, Header.planOf_eq_zero fits, fun start goal off => ?plan⟩
  case multiple =>
    rw [Header.axisTime_multiple fits le]
    exact if_neg (by omega)
  case between =>
    rw [Header.axisTime_below h hb hr]
    unfold ceilDiv moveTime
    rw [if_neg (Nat.succ_ne_zero b), Nat.add_sub_cancel]
    rfl
  case past =>
    rw [Header.axisTime_past h hd]
    rfl
  case plan =>
    unfold planOf
    rw [if_neg (mt (Header.longest_eq_zero fits start goal).1 off), ← Header.quarterTurns_eq]
    rfl

end Sys2Proof.Machine
end

section
/-!
# What an operation changes

`State.Only s t ps`: from `s` to `t` only the named parts change, and RUNNING is not entered. The relation is transitive, so
what a command changes is read off the operations that it calls, each said once.
-/
namespace Sys2Proof.Machine

/-- From `s` to `t` only the named parts change, and RUNNING is not entered. -/
def State.Only (s t : State) (ps : List Part) : Prop :=
  s.KeepsBut t ps ∧ (t.alarm.run = .running → s.alarm.run = .running)

namespace State
variable {s t u : State} {ps qs : List Part}

namespace Only

theorem keepsBut (h : s.Only t ps) : s.KeepsBut t ps := h.1

theorem mono (h : s.Only t ps) (sub : ∀ p ∈ ps, p ∈ qs) : s.Only t qs := ⟨h.1.mono sub, h.2⟩

theorem refl (s : State) (ps : List Part) : s.Only s ps := ⟨by simp [State.KeepsBut], id⟩

/-- The last cycle start that a change of run state takes away stays away while RUNNING is not entered (R100). -/
theorem headAfter_trans (first : t.head = s.headAfter t.alarm.run) (second : u.head = t.headAfter u.alarm.run)
    (into : t.alarm.run = .running → s.alarm.run = .running) (on : u.alarm.run = .running → t.alarm.run = .running) :
    u.head = s.headAfter u.alarm.run := by
  unfold State.headAfter at *
  by_cases running : t.alarm.run = .running
  · rw [if_neg (by simp [running])] at first
    rw [second, first]
    simp [running, into running]
  · have stays : u.alarm.run ≠ .running := fun h => running (on h)
    rw [if_neg (by simp [running])] at second
    rw [second, first]
    simp [running, stays]

theorem trans (h : s.Only t ps) (k : t.Only u ps) : s.Only u ps := by
  obtain ⟨⟨hp, hn, hh, hl, hr, hv, ht, hb, hhead, hw, htr, ha, hk⟩, hrun⟩ := h
  obtain ⟨⟨kp, kn, kh, kl, kr, kv, kt, kb, khead, kw, ktr, ka, kk⟩, krun⟩ := k
  have either {A : Type} {p : Part} {x y z : A} (h : p ∈ ps ∨ y = x) (k : p ∈ ps ∨ z = y) : p ∈ ps ∨ z = x :=
    h.elim .inl fun h => k.imp_right fun k => k.trans h
  refine ⟨⟨kp.trans hp, kn.trans hn, kh.trans hh, either hl kl, either hr kr, either hv kv, either ht kt, either hb kb, ?_,
    either hw kw, either htr ktr, either ha ka, either hk kk⟩, fun h => hrun (krun h)⟩
  exact hhead.elim .inl fun first => khead.imp_right fun second => headAfter_trans first second hrun krun

theorem ite {c : Prop} [Decidable c] (yes : c → s.Only t ps) (no : ¬c → s.Only u ps) :
    s.Only (if c then t else u) ps := by
  split
  · exact yes ‹_›
  · exact no ‹_›

theorem modLines (s : State) (f : Lines → Lines) (more : .lines ∈ ps) : s.Only (s.modLines f) ps :=
  ⟨by simp [State.KeepsBut, more], id⟩
theorem modReader (s : State) (f : Reader → Reader) (more : .reader ∈ ps) : s.Only (s.modReader f) ps :=
  ⟨by simp [State.KeepsBut, more], id⟩
theorem modVerifier (s : State) (f : Verifier → Verifier) (more : .verifier ∈ ps) : s.Only (s.modVerifier f) ps :=
  ⟨by simp [State.KeepsBut, more], id⟩
theorem modTape (s : State) (f : Tape → Tape) (more : .tape ∈ ps) : s.Only (s.modTape f) ps :=
  ⟨by simp [State.KeepsBut, more], id⟩
theorem modTable (s : State) (f : Table → Table) (more : .table ∈ ps) : s.Only (s.modTable f) ps :=
  ⟨by simp [State.KeepsBut, more], id⟩
theorem modHead (s : State) (f : Head → Head) (more : .head ∈ ps) : s.Only (s.modHead f) ps :=
  ⟨by simp [State.KeepsBut, more], id⟩
theorem modWork (s : State) (f : Work → Work) (more : .work ∈ ps) : s.Only (s.modWork f) ps :=
  ⟨by simp [State.KeepsBut, more], id⟩
theorem modTrav (s : State) (f : Trav → Trav) (more : .trav ∈ ps) : s.Only (s.modTrav f) ps :=
  ⟨by simp [State.KeepsBut, more], id⟩
theorem modLink (s : State) (f : Link → Link) (more : .link ∈ ps) : s.Only (s.modLink f) ps :=
  ⟨by simp [State.KeepsBut, more], id⟩
theorem modAlarm (s : State) (f : Alarm → Alarm) (run : (f s.alarm).run = s.alarm.run) (more : .alarm ∈ ps) :
    s.Only (s.modAlarm f) ps :=
  ⟨by simp [State.KeepsBut, more, run], by simp [run]⟩

end Only

/-! ## Run state and alarms -/

/-- STOPPED is entered from STOPPING, or from STEPPING with its execution used; the run state stays otherwise (R144). -/
theorem endIfQuiet_run (s : State) : s.endIfQuiet.alarm.run = s.alarm.run ∨
    s.endIfQuiet.alarm.run = .stopped ∧ (s.alarm.run = .stopping ∨ s.alarm.run = .stepping ∧ s.alarm.stepUsed = true) := by
  unfold State.endIfQuiet
  split
  next h =>
    simp only [Bool.and_eq_true, Bool.or_eq_true, beq_iff_eq] at h
    exact .inr ⟨setRun_run s _, h.2⟩
  next => exact .inl rfl

theorem endIfQuiet_alarm (s : State) : s.endIfQuiet.alarm = { s.alarm with run := s.endIfQuiet.alarm.run } := by
  unfold State.endIfQuiet
  split
  · rw [setRun_alarm]
  · rfl

@[simp] theorem endIfQuiet_head (s : State) : s.endIfQuiet.head = s.head := by
  unfold State.endIfQuiet
  split
  next h =>
    simp only [Bool.and_eq_true, Bool.or_eq_true, beq_iff_eq] at h
    rw [setRun_head]
    unfold State.headAfter
    rw [if_neg (by rcases h.2 with h | ⟨h, -⟩ <;> simp [h])]
  next => rfl

theorem raise_run (s : State) (r : Raise) : (s.raise r).alarm.run = s.alarm.run ∨ (s.raise r).alarm.run = .alarm := by
  by_cases off : s.alarm.run = .configFault
  · rw [raise_of_configFault off]; exact .inl rfl
  · cases stop : s.stopBit r.code
    · exact .inl (raise_run_of_no_stop off stop)
    · exact .inr (raise_enters_alarm off stop).1

theorem evaluate_run (s : State) (id : MonitorId) (v : Nat) :
    (s.evaluate id v).alarm.run = s.alarm.run ∨ (s.evaluate id v).alarm.run = .alarm := by
  have raised (m : Monitor) (r : Raise) := raise_run (s.modAlarm fun a => a.setMonitor id m) r
  simp only [modAlarm_alarm, Alarm.setMonitor_frame] at raised
  unfold State.evaluate
  dsimp only
  split
  · split
    · split
      · exact raised _ _
      · exact .inl (by simp)
    · split
      · exact .inl (by simp)
      · exact .inl (by simp)
  · exact .inl rfl

theorem setRun_only {r : RunState} (notRunning : r ≠ .running) (more : .alarm ∈ ps) : s.Only (s.setRun r) ps :=
  ⟨by simp [State.KeepsBut, setRun_head, more], by simp [notRunning]⟩

theorem endIfQuiet_only (s : State) (more : .alarm ∈ ps) : s.Only s.endIfQuiet ps := by
  have head : s.headAfter s.endIfQuiet.alarm.run = s.head := by
    unfold State.headAfter
    rcases endIfQuiet_run s with same | ⟨-, ran⟩
    · rw [same]; simp
    · rw [if_neg (by rcases ran with h | ⟨h, -⟩ <;> simp [h])]
  refine ⟨by simp [State.KeepsBut, more, head], fun running => ?_⟩
  rcases endIfQuiet_run s with same | ⟨stopped, -⟩
  · exact same ▸ running
  · simp [stopped] at running

theorem useStep_run (s : State) : s.useStep.alarm.run = s.alarm.run := by
  unfold State.useStep; split <;> rfl

theorem useStep_only (s : State) (more : .alarm ∈ ps) : s.Only s.useStep ps :=
  ⟨by simp [State.KeepsBut, more, useStep_run], by simp [useStep_run]⟩

theorem raise_only (s : State) (r : Raise) (more : .alarm ∈ ps) : s.Only (s.raise r) ps :=
  ⟨by simp [State.KeepsBut, raise_head, more], fun running => (raise_run s r).elim (· ▸ running) fun h => by
    simp [h] at running⟩

theorem evaluate_only (s : State) (id : MonitorId) (v : Nat) (more : .alarm ∈ ps) : s.Only (s.evaluate id v) ps :=
  ⟨by simp [State.KeepsBut, evaluate_head, more], fun running => (evaluate_run s id v).elim (· ▸ running) fun h => by
    simp [h] at running⟩

/-! ## The bookkeeping (R46, R117, R118) -/

theorem decideOldest_only (s : State) (more : .tape ∈ ps) : s.Only s.decideOldest ps := by
  unfold State.decideOldest
  split
  · exact .refl s ps
  · exact .ite (fun _ => .modTape s _ more) fun _ => .refl s ps

theorem checkFlush_only (s : State) (more : .tape ∈ ps) : s.Only s.checkFlush ps := by
  unfold State.checkFlush
  split
  · exact .ite (fun _ => .refl s ps) fun _ => .modTape s _ more
  · exact .refl s ps

theorem tryFeed_only (s : State) (more : .tape ∈ ps) : s.Only s.tryFeed ps :=
  .ite (fun _ => .modTape s _ more) fun _ => .refl s ps

theorem removeOldest_only (s : State) (more : .tape ∈ ps) : s.Only s.removeOldest ps := .modTape s _ more

theorem startBoard_only (s : State) (head : .head ∈ ps) (work : .work ∈ ps) (alarm : .alarm ∈ ps) :
    s.Only s.startBoard ps := by
  unfold State.startBoard
  split
  · exact .ite (fun _ => .trans (.trans (.modWork s _ work) (.modAlarm _ _ rfl alarm)) (.modHead _ _ head)) fun _ => .refl s ps
  · exact .refl s ps

theorem takeRowHold_only (s : State) (work : .work ∈ ps) (alarm : .alarm ∈ ps) : s.Only s.takeRowHold ps := by
  unfold State.takeRowHold
  split
  · exact .ite (fun _ => .trans (.trans (.trans (.modWork s _ work) (.modAlarm _ _ rfl alarm))
      (setRun_only (by decide) alarm)) (endIfQuiet_only _ alarm)) fun _ => .refl s ps
  · exact .refl s ps

/-- The parts that the bookkeeping on the oldest entry changes. -/
def Books (ps : List Part) : Prop := .tape ∈ ps ∧ .head ∈ ps ∧ .work ∈ ps ∧ .alarm ∈ ps

theorem bookkeep_only (s : State) (books : Books ps) : s.Only s.bookkeep ps := by
  obtain ⟨tape, head, work, alarm⟩ := books
  exact (startBoard_only s head work alarm).trans ((takeRowHold_only _ work alarm).trans (decideOldest_only _ tape))

theorem followOn_only (s : State) (books : Books ps) : s.Only s.followOn ps :=
  (checkFlush_only s books.1).trans ((bookkeep_only _ books).trans (tryFeed_only _ books.1))

theorem takeOutcome_only (s : State) (lap : Lap) (k : Nat) (o : StepOutcome) (work : .work ∈ ps) (alarm : .alarm ∈ ps) :
    s.Only (s.takeOutcome lap k o) ps := by
  cases working : s.workingBoard with
  | none => unfold State.takeOutcome; rw [working]; exact .refl s ps
  | some b =>
    have counted : s.Only (s.countOutcome (b.count k o) o) ps := by
      cases o with
      | inserted => exact .modWork s _ work
      | passed => exact .modWork s _ work
      | missed r => exact .trans (.modWork s _ work) (evaluate_only _ _ _ alarm)
    rw [takeOutcome_of_working working]
    exact .ite (fun _ => .ite (fun _ => counted.trans (.modWork _ _ work)) fun _ => counted) fun _ => .refl s ps

/-! ## The board at the work position -/

/-- The parts that a board made READY may change: the bookkeeping's and the table's mark request. -/
def Scans (ps : List Part) : Prop := Books ps ∧ .table ∈ ps

theorem scanFrom_only (s : State) (start : Nat) (scans : Scans ps) : s.Only (s.scanFrom start) ps := by
  obtain ⟨books, table⟩ := scans
  have work : .work ∈ ps := books.2.2.1
  unfold State.scanFrom
  split
  · exact .trans (.modWork s _ work) (.modTable _ _ table)
  · exact .trans (.modWork s _ work) (bookkeep_only _ books)

theorem markArrival_only (s : State) (g : Nat) (mark : Bool) (scans : Scans ps) : s.Only (s.markArrival g mark) ps := by
  have books := scans.1
  obtain ⟨-, -, work, alarm⟩ := books
  unfold State.markArrival
  split
  · exact .refl s ps
  · exact .ite (fun _ => .trans (.trans (.modWork s _ work) (useStep_only _ alarm)) (scanFrom_only _ _ scans)) fun _ =>
      .refl s ps

theorem drive_only (s : State) (k : OpKind) (work : .work ∈ ps) : s.Only (s.drive k) ps := .modWork s _ work

theorem boardCleared_only (s : State) (trav : .trav ∈ ps) : s.Only s.boardCleared ps :=
  .ite (fun _ => .modTrav s _ trav) fun _ => .refl s ps

theorem conveyorOutDone_only (s : State) (work : .work ∈ ps) (trav : .trav ∈ ps) : s.Only s.conveyorOutDone ps :=
  .trans (.ite (fun _ => .refl s ps) fun _ => boardCleared_only s trav) (.modWork _ _ work)

theorem startConveyorOut_only (s : State) (work : .work ∈ ps) (trav : .trav ∈ ps) : s.Only s.startConveyorOut ps :=
  .ite (fun _ => .trans (drive_only s _ work) (conveyorOutDone_only _ work trav)) fun _ => drive_only s _ work

theorem toConveyorOut_only (s : State) (work : .work ∈ ps) (trav : .trav ∈ ps) : s.Only s.toConveyorOut ps :=
  .ite (fun _ => .trans (.modWork s _ work) (startConveyorOut_only _ work trav)) fun _ => .modWork s _ work

theorem clampDone_only (s : State) (scans : Scans ps) : s.Only s.clampDone ps := by
  have books := scans.1
  obtain ⟨-, -, work, -⟩ := scans.1
  exact .ite (fun _ => .trans (.trans (.modWork s _ work) (.modWork _ _ work)) (scanFrom_only _ _ scans)) fun _ =>
    .trans (.trans (.modWork s _ work) (.modWork _ _ work)) (bookkeep_only _ books)

theorem startClamp_only (s : State) (scans : Scans ps) : s.Only s.startClamp ps := by
  obtain ⟨-, -, work, -⟩ := scans.1
  exact .ite (fun _ => .trans (drive_only s _ work) (clampDone_only _ scans)) fun _ => drive_only s _ work

theorem boardMade_only (s : State) (b : Board) (scans : Scans ps) : s.Only (s.boardMade b) ps := by
  obtain ⟨-, -, work, -⟩ := scans.1
  have made := Only.modWork s (fun w => { w with board := some b, matchTimer := none, op := none, opTimer := none }) work
  exact .ite (fun _ => made.trans (.modWork _ _ work)) fun _ =>
    .ite (fun _ => made.trans (.trans (.modWork _ _ work) (startClamp_only _ scans))) fun _ => made.trans (.modWork _ _ work)

theorem makeOwnBoard_only (s : State) (reject : Option RejectReason) (scans : Scans ps) :
    s.Only (s.makeOwnBoard reject) ps := by
  obtain ⟨-, -, work, -⟩ := scans.1
  exact .trans (.modWork s _ work) (boardMade_only _ _ scans)

theorem makeMatched_only (s : State) (t : Traveller) (scans : Scans ps) : s.Only (s.makeMatched t) ps :=
  boardMade_only s _ scans

theorem beginMatching_only (s : State) (scans : Scans ps) (trav : .trav ∈ ps) : s.Only s.beginMatching ps := by
  obtain ⟨-, -, work, -⟩ := scans.1
  refine .ite (fun _ => makeOwnBoard_only s _ scans) fun _ => ?_
  split
  · exact .trans (.modTrav s _ trav) (makeMatched_only _ _ scans)
  · exact .ite (fun _ => makeOwnBoard_only s _ scans) fun _ => .trans (.modWork s _ work) (.modTrav _ _ trav)

theorem arrive_only (s : State) (scans : Scans ps) (trav : .trav ∈ ps) : s.Only s.arrive ps := by
  obtain ⟨-, -, work, -⟩ := scans.1
  exact .trans (.modWork s _ work) (beginMatching_only _ scans trav)

/-! ## The head -/

theorem returnDone_only (s : State) (books : Books ps) : s.Only s.returnDone ps := by
  have same := books
  obtain ⟨tape, head, work, alarm⟩ := same
  have ended := Only.modHead s (fun h => { h with timer := none, drive := .off, phase := .top }) head
  unfold State.returnDone
  dsimp only
  split
  · refine .ite (fun _ => .trans ?_ (followOn_only _ books)) fun _ => ended
    refine .trans (ended.trans (.trans (removeOldest_only _ tape) ?_)) (useStep_only _ alarm)
    exact .ite (fun _ => takeOutcome_only _ _ _ _ work alarm) fun _ => .refl _ ps
  · exact ended

theorem recoveryReturn_only (s : State) (books : Books ps) : s.Only s.recoveryReturn ps :=
  .ite (fun _ => .ite (fun _ => .trans (.modHead s _ books.2.1) (returnDone_only _ books)) fun _ =>
    .modHead s _ books.2.1) fun _ => .refl s ps

theorem dropHead_only (s : State) (head : .head ∈ ps) (alarm : .alarm ∈ ps) : s.Only s.dropHead ps :=
  .trans (.modHead s _ head) (raise_only _ _ alarm)

/-! ## The verifier and the table -/

theorem giveVerdict_only (s : State) (lap : Lap) (k : Nat) (v : Verdict) (codes : List Nat) (tape : .tape ∈ ps)
    (verifier : .verifier ∈ ps) (alarm : .alarm ∈ ps) : s.Only (s.giveVerdict lap k v codes) ps :=
  .trans (.trans (.modTape s _ tape) (.modVerifier _ _ verifier)) (evaluate_only _ _ _ alarm)

theorem measure_only (s : State) (pres : Bool) (r : Record) (tape : .tape ∈ ps) (verifier : .verifier ∈ ps)
    (alarm : .alarm ∈ ps) : s.Only (s.measure pres r) ps :=
  .ite (fun _ => giveVerdict_only s _ _ _ _ tape verifier alarm) fun _ =>
    .ite (fun _ => giveVerdict_only s _ _ _ _ tape verifier alarm) fun _ => .modVerifier s _ verifier

theorem issueRead_only (s : State) (reader : .reader ∈ ps) : s.Only s.issueRead ps :=
  .ite (fun _ => .modReader s _ reader) fun _ => .refl s ps

theorem refuseMove_only (s : State) (k : Option Nat) (table : .table ∈ ps) (alarm : .alarm ∈ ps) :
    s.Only (s.refuseMove k) ps := .trans (.modTable s _ table) (raise_only _ _ alarm)

theorem startMove_only (s : State) (p : Purpose) (goal : Target) (table : .table ∈ ps) :
    s.Only (s.startMove p goal) ps := .modTable s _ table

theorem tryInsertMove_only (s : State) (table : .table ∈ ps) (alarm : .alarm ∈ ps) : s.Only s.tryInsertMove ps := by
  unfold State.tryInsertMove
  split
  · exact .refl s ps
  · exact .ite (fun _ => refuseMove_only s _ table alarm) fun _ => startMove_only s _ _ table

end State
end Sys2Proof.Machine
end

section
/-!
# Monitors (R156, R157)

An evaluation stores the monitor's record, and then raises its code, removes it, or leaves the list alone.
-/
namespace Sys2Proof.Machine

namespace Alarm

@[simp] theorem monitor_setMonitor (a : Alarm) (id : MonitorId) (m : Monitor) : (a.setMonitor id m).monitor id = m := by
  cases id <;> rfl

theorem monitor_setMonitor_of_ne (a : Alarm) {id other : MonitorId} (ne : other ≠ id) (m : Monitor) :
    (a.setMonitor id m).monitor other = a.monitor other := by
  cases id <;> cases other <;> simp_all [Alarm.setMonitor, Alarm.monitor]

@[simp] theorem setMonitor_marks (a : Alarm) (id : MonitorId) (m : Monitor) :
    (a.setMonitor id m).more = a.more ∧ (a.setMonitor id m).rowHold = a.rowHold ∧
      (a.setMonitor id m).stepUsed = a.stepUsed ∧ (a.setMonitor id m).windowTimer = a.windowTimer ∧
      (a.setMonitor id m).flashLit = a.flashLit ∧ (a.setMonitor id m).flashLeft = a.flashLeft := by
  cases id <;> exact ⟨rfl, rfl, rfl, rfl, rfl, rfl⟩

/-- A raise fills the list and leaves the rest of the alarm unit. -/
theorem take_eq (a : Alarm) (r : Raise) (stop : Bool) :
    a.take r stop = { a with list := (a.take r stop).list, more := (a.take r stop).more } := by
  unfold Alarm.take
  (repeat' split) <;> rfl

theorem take_of_same_list {a b : Alarm} (list : b.list = a.list) (more : b.more = a.more) (r : Raise) (stop : Bool) :
    (b.take r stop).list = (a.take r stop).list ∧ (b.take r stop).more = (a.take r stop).more := by
  unfold Alarm.take Alarm.listed
  rw [list]
  (repeat' split) <;> simp [more]

@[simp] theorem take_monitor (a : Alarm) (r : Raise) (stop : Bool) (id : MonitorId) :
    (a.take r stop).monitor id = a.monitor id := by
  rw [take_eq]
  cases id <;> rfl

end Alarm

namespace State
variable {s t : State} {id : MonitorId}

/-- What a raise makes of the list, MORE and the run state is told by the list, MORE, the run state and the header. -/
theorem raise_list_congr (hdr : t.hdr = s.hdr) (list : t.alarm.list = s.alarm.list) (more : t.alarm.more = s.alarm.more)
    (run : t.alarm.run = s.alarm.run) (r : Raise) :
    (t.raise r).alarm.list = (s.raise r).alarm.list ∧ (t.raise r).alarm.more = (s.raise r).alarm.more ∧
      (t.raise r).alarm.run = (s.raise r).alarm.run := by
  have bit : t.stopBit r.code = s.stopBit r.code := stopBit_congr hdr _
  by_cases off : s.alarm.run = .configFault
  · rw [raise_of_configFault off, raise_of_configFault (run.trans off)]
    exact ⟨list, more, run⟩
  · have on : t.alarm.run ≠ .configFault := run ▸ off
    obtain ⟨takes, marks⟩ := Alarm.take_of_same_list list more r (s.stopBit r.code)
    rw [raise_alarm off, raise_alarm on, bit, run]
    split
    · exact ⟨takes, marks, rfl⟩
    · exact ⟨takes, marks, by rw [Alarm.take_run, Alarm.take_run, run]⟩

@[simp] theorem raise_monitor (s : State) (r : Raise) (id : MonitorId) :
    (s.raise r).alarm.monitor id = s.alarm.monitor id := by
  by_cases off : s.alarm.run = .configFault
  · rw [raise_of_configFault off]
  · rw [raise_alarm off]
    split
    · exact (by cases id <;> rfl : _ = (s.alarm.take r _).monitor id).trans (Alarm.take_monitor _ _ _ _)
    · exact Alarm.take_monitor _ _ _ _

/-- The raise that an evaluation may make (R157 step 3). -/
def alarmOf (s : State) (id : MonitorId) : Raise :=
  { code := id.code, serial := s.boardSerial, ordinal := none, active := false }

/-- The monitor's record is stored (R157 steps 1 to 3). -/
def counted (s : State) (id : MonitorId) (v : Nat) : State :=
  s.modAlarm fun a => a.setMonitor id ((s.alarm.monitor id).after (s.settings id) (min 65535 v))

/-- The code leaves the list unless it carries its stop bit (R157 step 4). -/
def uncoded (s : State) (id : MonitorId) : State :=
  s.modAlarm fun a => { a with list := a.list.filter fun e => e.code != id.code || e.stop }

theorem evaluate_of_over (on : s.alarm.run ≠ .configFault) {v : Nat} (reached : (s.settings id).over (min 65535 v) = true) :
    s.evaluate id v =
      if ((s.alarm.monitor id).after (s.settings id) (min 65535 v)).count = (s.settings id).p ∧
          ((s.alarm.monitor id).alarm = false ∨ s.alarm.listed id.code = false) then
        (s.counted id v).raise (s.alarmOf id)
      else s.counted id v := by
  unfold State.evaluate
  rw [if_pos ((live_iff s).2 on)]
  dsimp only
  rw [if_pos reached]
  rfl

theorem evaluate_of_not_over (on : s.alarm.run ≠ .configFault) {v : Nat}
    (under : (s.settings id).over (min 65535 v) = false) :
    s.evaluate id v =
      if (s.alarm.monitor id).alarm = true ∧ (s.settings id).alarmLatch = false then (s.counted id v).uncoded id
      else s.counted id v := by
  unfold State.evaluate
  rw [if_pos ((live_iff s).2 on)]
  dsimp only
  rw [if_neg (by simp [under])]
  simp only [Bool.and_eq_true, Bool.not_eq_true']
  rfl

theorem evaluate_of_configFault (off : s.alarm.run = .configFault) (id : MonitorId) (v : Nat) : s.evaluate id v = s :=
  if_neg (by simp [live_iff, off])

/-- The four ways of an evaluation: the record alone, with a raise, with a removal, or nothing in CONFIG_FAULT. -/
theorem evaluate_cases (s : State) (id : MonitorId) (v : Nat) :
    s.evaluate id v = s.counted id v ∨ s.evaluate id v = (s.counted id v).raise (s.alarmOf id) ∨
      s.evaluate id v = (s.counted id v).uncoded id ∨ (s.alarm.run = .configFault ∧ s.evaluate id v = s) := by
  by_cases off : s.alarm.run = .configFault
  · exact .inr (.inr (.inr ⟨off, evaluate_of_configFault off id v⟩))
  · cases reached : (s.settings id).over (min 65535 v)
    · rw [evaluate_of_not_over off reached]
      split <;> simp
    · rw [evaluate_of_over off reached]
      split <;> simp

theorem counted_monitor (s : State) (id : MonitorId) (v : Nat) : (s.counted id v).alarm.monitor id =
    (s.alarm.monitor id).after (s.settings id) (min 65535 v) :=
  Alarm.monitor_setMonitor _ _ _

theorem counted_monitor_of_ne {other : MonitorId} (ne : other ≠ id) (v : Nat) :
    (s.counted id v).alarm.monitor other = s.alarm.monitor other :=
  Alarm.monitor_setMonitor_of_ne _ ne _

theorem uncoded_monitor (s : State) (id other : MonitorId) : (s.uncoded id).alarm.monitor other = s.alarm.monitor other := by
  cases other <;> rfl

/-- The record that an evaluation leaves, after a valid start-up. -/
theorem evaluate_monitor (on : s.alarm.run ≠ .configFault) (v : Nat) : (s.evaluate id v).alarm.monitor id =
    (s.alarm.monitor id).after (s.settings id) (min 65535 v) := by
  rcases evaluate_cases s id v with h | h | h | ⟨off, -⟩
  · rw [h, counted_monitor]
  · rw [h, raise_monitor, counted_monitor]
  · rw [h, uncoded_monitor, counted_monitor]
  · exact absurd off on

theorem evaluate_monitor_of_ne {other : MonitorId} (ne : other ≠ id) (v : Nat) :
    (s.evaluate id v).alarm.monitor other = s.alarm.monitor other := by
  rcases evaluate_cases s id v with h | h | h | ⟨-, h⟩
  · rw [h, counted_monitor_of_ne ne]
  · rw [h, raise_monitor, counted_monitor_of_ne ne]
  · rw [h, uncoded_monitor, counted_monitor_of_ne ne]
  · rw [h]

/-- An evaluation is told by the alarm unit, the header values and the board's serial. -/
theorem evaluate_alarm_congr (alarm : t.alarm = s.alarm) (hdr : t.hdr = s.hdr) (serial : t.boardSerial = s.boardSerial)
    (id : MonitorId) (v : Nat) : (t.evaluate id v).alarm = (s.evaluate id v).alarm := by
  have settings : t.settings id = s.settings id := by unfold State.settings State.header; rw [hdr]
  have record : (t.counted id v).alarm = (s.counted id v).alarm := by simp [State.counted, settings, alarm]
  by_cases off : s.alarm.run = .configFault
  · rw [evaluate_of_configFault off, evaluate_of_configFault (by rw [alarm]; exact off), alarm]
  · have on : t.alarm.run ≠ .configFault := by rw [alarm]; exact off
    cases reached : (s.settings id).over (min 65535 v)
    · rw [evaluate_of_not_over off reached, evaluate_of_not_over on (by rw [settings]; exact reached), alarm, settings]
      split
      · simp [State.uncoded, record]
      · exact record
    · rw [evaluate_of_over off reached, evaluate_of_over on (by rw [settings]; exact reached), alarm, settings]
      split
      · rw [show t.alarmOf id = s.alarmOf id by simp [State.alarmOf, serial]]
        exact raise_alarm_congr _ _ _ record hdr
      · exact record

end State

namespace Monitor
variable {m : Monitor} {c : MonitorSettings} {v : Nat}

@[simp] theorem after_value (m : Monitor) (c : MonitorSettings) (v : Nat) : (m.after c v).value = v := by
  unfold Monitor.after
  split <;> rfl

@[simp] theorem after_warn (m : Monitor) (c : MonitorSettings) (v : Nat) : (m.after c v).warn = c.warns v m.warn := by
  unfold Monitor.after
  split <;> rfl

theorem after_of_over (reached : c.over v = true) : (m.after c v).count = min c.p (m.count + 1) ∧
    (m.after c v).alarm = (m.alarm || decide ((m.after c v).count = c.p)) := by
  unfold Monitor.after
  rw [if_pos reached]
  exact ⟨rfl, rfl⟩

theorem after_of_not_over (under : c.over v = false) : (m.after c v).count = 0 ∧
    (m.after c v).alarm = (c.alarmLatch && m.alarm) := by
  unfold Monitor.after
  rw [if_neg (by simp [under])]
  exact ⟨rfl, Bool.and_comm _ _⟩

end Monitor

theorem MonitorSettings.over_iff (c : MonitorSettings) (v : Nat) : c.over v = true ↔ 0 < c.a ∧ c.a ≤ v := by
  simp [MonitorSettings.over]

/-- Settles O47: the record by `Monitor.after`, the list by the three ways of an evaluation. -/
theorem monitorsAreEvaluated : Obligations.MonitorsAreEvaluated := by
  rintro s id value on _ _ _ rfl rfl rfl
  have record := State.evaluate_monitor (id := id) on value
  have value' : ((s.evaluate id value).alarm.monitor id).value = min 65535 value := by rw [record, Monitor.after_value]
  have same (r : Raise) := State.raise_list_congr (s := s) (t := s.counted id value) rfl
    (by simp [State.counted]) (by simp [State.counted]) (by simp [State.counted]) r
  rw [value']
  refine ⟨rfl, fun warns => ?_, fun quiet => ?_, fun reached => ?reached, fun under => ?under⟩
  · rw [record, Monitor.after_warn]
    exact if_pos warns
  · rw [record, Monitor.after_warn]
    exact if_neg quiet
  case reached =>
    have isOver := ((s.settings id).over_iff _).2 reached
    obtain ⟨count, flag⟩ := Monitor.after_of_over (m := s.alarm.monitor id) isOver
    rw [record]
    refine ⟨count, flag, fun full free => ?raised, fun not => ?kept⟩
    case raised =>
      rw [State.evaluate_of_over on isOver, if_pos ⟨full, free⟩]
      exact same _
    case kept =>
      rw [State.evaluate_of_over on isOver, if_neg ?_]
      · simp [State.counted]
      · rintro ⟨full, free⟩
        rcases not with short | ⟨alarm, listed⟩
        · exact short full
        · simp [alarm, listed] at free
  case under =>
    have isUnder : (s.settings id).over (min 65535 value) = false :=
      Bool.eq_false_iff.2 fun reached => under (((s.settings id).over_iff _).1 reached)
    obtain ⟨count, flag⟩ := Monitor.after_of_not_over (m := s.alarm.monitor id) isUnder
    rw [record, State.evaluate_of_not_over on isUnder]
    refine ⟨count, flag, fun removes => ?removed, fun stays => ?stays, ?run⟩
    case removed =>
      rw [if_pos removes]
      simp only [State.counted, State.uncoded, State.modAlarm_alarm, Alarm.setMonitor_frame]
      exact List.filter_congr fun e _ => by rw [Bool.eq_iff_iff]; simp
    case stays =>
      rw [if_neg (by rcases stays with h | h <;> simp [h])]
      simp [State.counted]
    case run =>
      split <;> simp [State.counted, State.uncoded]

end Sys2Proof.Machine
end

section
/-!
# The head (R86 to R91, R95, R97)
-/
namespace Sys2Proof.Machine

namespace State
variable {s t : State}

/-! ## The stroke's start -/

theorem useStep_alarm (s : State) : s.useStep.alarm =
    { s.alarm with stepUsed := if s.alarm.run = .stepping then true else s.alarm.stepUsed } := by
  unfold State.useStep
  split <;> rfl

theorem MayStart.not_configFault (may : s.MayStart) : s.alarm.run ≠ .configFault := by
  rcases may with h | ⟨h, -⟩ <;> simp [h]

/-- The station as a stroke records its start, before M0 is evaluated (R88, R101). -/
def strokeNoted (s : State) (e : Entry) : State :=
  s.modHead fun h =>
    { h with served := some (e.record.lap, e.record.ordinal), strokeStart := some s.now,
             lastCycle := if s.alarm.run = .running then some s.now else h.lastCycle }

/-- M0 takes the time from the last cycle start, where there is one (R101). -/
def cycleTimed (s : State) (e : Entry) : State :=
  match s.head.lastCycle with
  | some c => (s.strokeNoted e).evaluate .m0 (s.now - c)
  | none => s.strokeNoted e

theorem exec_strokeStart {e : Entry} (gate : s.GateOpen e) : exec .strokeStart s =
    .next (s.settle ((s.cycleTimed e).useStep.modHead fun h =>
      { h with drive := .down, phase := .down, timer := some s.header.downTimeout })) := by
  change execStrokeStart s = _
  unfold execStrokeStart
  rw [strokeEntry_iff.2 gate]
  rfl

theorem cycleTimed_only (s : State) (e : Entry) {ps : List Part} (head : .head ∈ ps) (alarm : .alarm ∈ ps) :
    s.Only (s.cycleTimed e) ps := by
  have noted : s.Only (s.strokeNoted e) ps := .modHead s _ head
  unfold State.cycleTimed
  split
  · exact noted.trans (evaluate_only _ _ _ alarm)
  · exact noted

theorem cycleTimed_head (s : State) (e : Entry) : (s.cycleTimed e).head = { s.head with
    served := some (e.record.lap, e.record.ordinal), strokeStart := some s.now
    lastCycle := if (s.cycleTimed e).alarm.run = .running then some s.now
      else if s.alarm.run = .running then none else s.head.lastCycle } := by
  have into := (s.cycleTimed_only e (ps := [.head, .alarm]) (by simp) (by simp)).2
  have head : (s.cycleTimed e).head = (s.strokeNoted e).headAfter (s.cycleTimed e).alarm.run := by
    unfold State.cycleTimed
    split
    · exact evaluate_head _ _ _
    · exact (headAfter_self _).symm
  rw [head]
  simp only [State.headAfter, State.strokeNoted, modHead_alarm, modHead_head]
  by_cases stays : (s.cycleTimed e).alarm.run = .running
  · simp [stays, into stays]
  · by_cases running : s.alarm.run = .running <;> simp [stays, running]

end State

/-- Settles O30: M0's record by `evaluate_monitor`, the last cycle start by what leaves RUNNING. -/
theorem strokesStartAtTheOpenGate : Obligations.StrokesStartAtTheOpenGate := by
  intro s
  refine ⟨fun closed => ?closed, fun e gate => ⟨_, State.exec_strokeStart gate, ?opened⟩⟩
  case closed =>
    have none : s.strokeEntry = none := by
      by_contra some
      obtain ⟨e, h⟩ := Option.ne_none_iff_exists'.1 some
      exact closed ⟨e, State.strokeEntry_iff.1 h⟩
    change execStrokeStart s = _
    unfold execStrokeStart
    rw [none]
  case opened =>
    simp only [State.settle_frame, State.modHead_head, State.modHead_alarm, State.useStep_frame, State.useStep_alarm]
    refine ⟨by rw [State.cycleTimed_head], fun c last => ?timed, fun none => ?untimed, ?frame⟩
    case timed =>
      have on : (s.strokeNoted e).alarm.run ≠ .configFault := gate.1.not_configFault
      have record := State.evaluate_monitor (id := .m0) on (s.now - c)
      have value := (congrArg Monitor.value record).trans (Monitor.after_value _ _ _)
      simpa [State.cycleTimed, last, Alarm.monitor] using value
    case untimed =>
      have untimed : s.cycleTimed e = s.strokeNoted e := by simp [State.cycleTimed, none]
      rw [untimed]
      exact ⟨rfl, rfl, rfl, fun stepping => if_pos stepping⟩
    case frame =>
      have used := (s.cycleTimed_only e (ps := [.head, .alarm]) (by simp) (by simp)).trans
        (State.useStep_only _ (by simp))
      exact State.keepsBut_settle (used.trans (.modHead _ _ (by simp))).keepsBut

/-- Settles O31: one row per phase, each a change of the head and of the lines it samples. -/
theorem phasesEndAtTheirSensors : Obligations.PhasesEndAtTheirSensors := by
  intro s
  refine ⟨fun off => if_neg off, fun down => ⟨_, if_pos down, by simp, State.keepsBut_settle (by simp [State.KeepsBut])⟩,
    fun a b off => if_neg off, fun a b clinch => ⟨_, if_pos clinch, by simp [Config.confirmTime], by simp,
      State.keepsBut_settle (by simp [State.KeepsBut])⟩, fun a b off => ?ignored, fun a b f sense first => ?sampled⟩
  case ignored =>
    change execConfirmSample a b s = _
    unfold execConfirmSample
    split
    next f sense first => simp [sense, first] at off
    next => rfl
  case sampled =>
    change ∃ t, execConfirmSample a b s = _ ∧ _
    unfold execConfirmSample
    rw [sense, first]
    exact ⟨_, rfl, by simp, by simp, State.keepsBut_settle (by simp [State.KeepsBut])⟩

/-! ## Head jams and dropped heads -/

namespace State
variable {s t : State}

/-- A raise beside a change of the head: the last cycle start alone follows the run state. -/
theorem raise_head_beside (r : Raise) : (t.raise r).head = { t.head with lastCycle := (t.raise r).head.lastCycle } := by
  rw [raise_head]
  unfold State.headAfter
  split <;> rfl

theorem markAttempted_tape (s : State) {e : Entry} {es : List Entry} (queue : s.tape.queue = e :: es) :
    s.markAttempted.tape = { s.tape with queue := { e with attempted := true } :: es } := by
  simp [State.markAttempted, queue]

theorem markAttempted_tape_nil (s : State) (queue : s.tape.queue = []) : s.markAttempted.tape = s.tape := by
  unfold State.markAttempted
  simp only [queue, modTape_tape]
  rw [← queue]

/-- The head after a stroke ends as a jam (R95). -/
def jammedHead (s : State) : State :=
  s.modHead fun h =>
    { h with drive := .off, clinchOn := false, timer := none, phase := .halted, strokeStart := none, first := none,
             lead := none, served := none }

theorem jammed_ordinal (s : State) :
    s.jammedHead.markAttempted.attemptedOrdinal = s.tape.queue.head?.map (·.record.ordinal) := by
  cases queue : s.tape.queue with
  | nil =>
    have tape := markAttempted_tape_nil s.jammedHead queue
    simp only [State.attemptedOrdinal, State.oldest, tape]
    simp [State.jammedHead, queue]
  | cons e es => simp [State.attemptedOrdinal, State.oldest, markAttempted_tape s.jammedHead queue]

theorem exec_headJam_of_guarded (guarded : s.head.phase.guarded = true) : exec .headJam s =
    .next (s.settle (s.jammedHead.markAttempted.raise
      ⟨jamCode s.head.phase, s.workingSerial, s.tape.queue.head?.map (·.record.ordinal), false⟩)) := by
  rw [← jammed_ordinal]
  exact if_pos guarded

theorem exec_headJam_of_returning (returning : s.head.phase = .returning) : exec .headJam s =
    .next (s.settle ((s.modHead fun h => { h with drive := .off, timer := none, phase := .halted }).raise
      ⟨.upJam, s.workingSerial, s.attemptedOrdinal, false⟩)) := by
  change execHeadJam s = _
  unfold execHeadJam
  rw [if_neg (by simp [returning, HeadPhase.guarded]), if_pos returning]
  rfl

end State

/-- Settles O33: each jam a raise beside a change of the head, and in a stroke of the oldest entry's mark. -/
theorem jamsAndDropsHaltTheHead : Obligations.JamsAndDropsHaltTheHead := by
  intro s
  refine ⟨fun code phase => ?jam, fun returning => ⟨_, State.exec_headJam_of_returning returning, ?returning⟩,
    fun quiet => ?ignored, ⟨_, rfl, by split <;> simp, fun not => ?still, fun on top => ?drop⟩⟩
  case jam =>
    have code' : s.head.phase.guarded = true ∧ jamCode s.head.phase = code := by
      rcases phase with ⟨h, rfl⟩ | ⟨h, rfl⟩ | ⟨h, rfl⟩ <;> rw [h] <;> exact ⟨rfl, rfl⟩
    refine ⟨_, State.exec_headJam_of_guarded code'.1, ?_⟩
    rw [code'.2]
    simp only [State.settle_frame, State.raise_frame]
    refine ⟨?head, fun e es queue => State.markAttempted_tape _ queue, fun queue => State.markAttempted_tape_nil _ queue,
      State.raise_alarm_congr _ _ _ rfl rfl, State.keepsBut_settle ?frame⟩
    case head =>
      rw [State.raise_head_beside]
      simp [State.jammedHead]
    case frame =>
      exact (State.Only.trans (.trans (.modHead s _ (by simp)) (.modTape _ _ (by simp))) (State.raise_only _ _ (by simp))).keepsBut
  case returning =>
    simp only [State.settle_frame]
    refine ⟨?_, fun ordinal some none => ?_, State.keepsBut_settle ?_⟩
    · rw [State.raise_head_beside]
      simp
    · have same : s.attemptedOrdinal = ordinal := by
        unfold State.attemptedOrdinal State.oldest
        cases queue : s.tape.queue with
        | nil => exact (none queue).symm
        | cons e es => exact (some e (by simp [queue])).symm
      rw [same]
      exact State.raise_alarm_congr _ _ _ rfl rfl
    · exact (State.Only.trans (.modHead s _ (by simp)) (State.raise_only _ _ (by simp))).keepsBut
  case ignored =>
    change execHeadJam s = _
    unfold execHeadJam
    rw [if_neg (by rcases quiet with h | h | h <;> simp [h, HeadPhase.guarded]),
      if_neg (by rcases quiet with h | h | h <;> simp [h])]
  case still =>
    rw [if_neg (by rcases not with h | h <;> simp [State.live_iff, h])]
    exact State.keepsBut_settle (by simp [State.KeepsBut])
  case drop =>
    rw [if_pos ⟨(State.live_iff s).2 on, top⟩]
    simp only [State.settle_frame]
    refine ⟨?_, State.raise_alarm_congr _ _ _ rfl rfl, State.keepsBut_settle ?_⟩
    · unfold State.dropHead
      rw [State.raise_head_beside]
      simp
    · exact (State.Only.trans (.modLines s _ (by simp)) (State.dropHead_only _ (by simp) (by simp))).keepsBut

end Sys2Proof.Machine
end

section
/-!
# The bookkeeping on the oldest entry (R46, R117, R118)

A READY board starts, or a due row hold is taken, or neither; then the oldest entry is decided.
-/
namespace Sys2Proof.Machine

namespace State
variable {s t u : State} {e : Entry} {b : Board}

/-! ## What the bookkeeping has done, carried on -/

theorem headRecord_of_held (held : t.tape.queue.map Entry.held = s.tape.queue.map Entry.held) :
    t.tape.queue.head?.map Entry.record = s.tape.queue.head?.map Entry.record := by
  have heads := congrArg (fun l => (l.head?).map Prod.fst) held
  simpa [List.head?_map, Function.comp_def, Entry.held] using heads

/-- The two conditions on the tape that a started board rests on: the oldest entry's record and the flush marker. -/
def SameOldest (s t : State) : Prop :=
  t.tape.queue.head?.map Entry.record = s.tape.queue.head?.map Entry.record ∧ t.tape.flush = s.tape.flush

theorem SameOldest.of_tape (tape : t.tape = s.tape) : s.SameOldest t := by
  unfold SameOldest
  rw [tape]
  exact ⟨rfl, rfl⟩

theorem SameOldest.head (same : s.SameOldest t) (head : s.tape.queue.head? = some e) :
    ∃ e', t.tape.queue.head? = some e' ∧ e'.record = e.record := by
  have record := same.1
  rw [head, Option.map_some, Option.map_eq_some_iff] at record
  exact record

theorem decideOldest_sameOldest (s : State) : s.SameOldest s.decideOldest :=
  ⟨headRecord_of_held (decideOldest_held s), by rw [decideOldest_rest]⟩

/-- A started board stays started while board, oldest record, flush marker, M2's value and last cycle start stay. -/
theorem BoardStarted.of_same (started : s.BoardStarted) (same : s.SameOldest t)
    (state : t.work.state = s.work.state) (board : t.work.board.map Board.lap = s.work.board.map Board.lap)
    (m2 : t.alarm.m2.value = s.alarm.m2.value) (last : s.head.lastCycle = none → t.head.lastCycle = none) :
    t.BoardStarted := by
  obtain ⟨b, e, working, held, head, first, flush, lap, value, gone⟩ := started
  obtain ⟨e', head', record⟩ := same.head head
  rw [held, Option.map_some, Option.map_eq_some_iff] at board
  obtain ⟨b', held', lap'⟩ := board
  exact ⟨b', e', state.trans working, held', head', record ▸ first, same.2.trans flush, by rw [lap', lap, record],
    m2.trans value, last gone⟩

theorem HoldTaken.of_same {before : BitVec 8} (taken : s.HoldTaken before) (same : s.SameOldest t)
    (work : t.work = s.work) (rows : t.reader.rows = s.reader.rows) (hold : t.alarm.rowHold = s.alarm.rowHold)
    (run : t.alarm.run = s.alarm.run ∨ t.alarm.run = .stopped) : t.HoldTaken before := by
  obtain ⟨b, e, working, held, head, lap, first, carries, holds, reason, stops⟩ := taken
  obtain ⟨e', head', record⟩ := same.head head
  refine ⟨b, e', work ▸ working, work ▸ held, head', record ▸ lap, record ▸ first, ?_, record ▸ holds, hold.trans reason, ?_⟩
  · rw [rows, record]; exact carries
  · rcases run with run | run
    · rw [run]; exact stops
    · exact .inr run

/-! ## Board start (R117) -/

/-- A READY board can start work (R117). -/
def CanStart (s : State) : Prop := s.work.state = .ready ∧ s.work.board.isSome = true ∧ s.TapeLetsStart

/-- The station as a board starts on the entry. -/
def started (s : State) (b : Board) (e : Entry) : State :=
  ((s.modWork fun w => { w with state := .working, board := some { b with lap := some e.record.lap } }).modAlarm
    fun a => { a with m2 := { a.m2 with value := 0 } }).modHead fun h => { h with lastCycle := none }

theorem CanStart.startBoard_eq (can : s.CanStart) : ∃ b e, s.work.board = some b ∧ s.tape.queue.head? = some e ∧
    e.record.ordinal = 0 ∧ s.tape.flush = none ∧ s.startBoard = s.started b e := by
  obtain ⟨ready, board, e, head, first, flush⟩ := can
  obtain ⟨b, held⟩ := Option.isSome_iff_exists.1 board
  obtain ⟨es, queue⟩ := List.head?_eq_some_iff.1 head
  refine ⟨b, e, held, head, first, flush, ?_⟩
  simp [State.startBoard, State.started, ready, held, queue, first, flush]

theorem startBoard_of_cannot (cannot : ¬s.CanStart) : s.startBoard = s := by
  unfold State.startBoard
  split
  next ready queue flush board =>
    exact if_neg fun first => cannot ⟨ready, by simp [board], _, by simp [queue], first, flush⟩
  next => rfl

theorem CanStart.startBoard (can : s.CanStart) : s.startBoard.BoardStarted := by
  obtain ⟨b, e, -, head, first, flush, eq⟩ := can.startBoard_eq
  rw [eq]
  exact ⟨_, e, rfl, rfl, head, first, flush, rfl, rfl, rfl⟩

theorem startBoard_alarm (s : State) : s.startBoard.alarm = { s.alarm with m2 := s.startBoard.alarm.m2 } := by
  by_cases can : s.CanStart
  · obtain ⟨b, e, -, -, -, -, eq⟩ := can.startBoard_eq
    rw [eq]
    rfl
  · rw [startBoard_of_cannot can]

theorem startBoard_holds (s : State) : s.startBoard.work.board.map Board.holds = s.work.board.map Board.holds := by
  by_cases can : s.CanStart
  · obtain ⟨b, e, held, -, -, -, eq⟩ := can.startBoard_eq
    rw [eq, held]
    rfl
  · rw [startBoard_of_cannot can]

/-! ## The row hold (R118) -/

/-- The station as the row hold is taken for the entry on the board, before STOPPING. -/
def holdNoted (s : State) (e : Entry) (b : Board) : State :=
  (s.modWork fun w => { w with board := some { b with holds := b.holds ||| BitVec.ofNat 8 (2 ^ e.record.row) } }).modAlarm
    fun a => { a with rowHold := true }

theorem HoldDue.takeRowHold_eq (due : s.HoldDue e b) :
    s.takeRowHold = ((s.holdNoted e b).setRun .stopping).endIfQuiet := by
  obtain ⟨working, held, head, -⟩ := id due
  have oldest : s.oldest = some e := head
  have board : s.workingBoard = some b := workingBoard_iff.2 ⟨working, held⟩
  simp only [State.takeRowHold, oldest, board, (holdDue_iff oldest board).2 due, if_true]
  rfl

theorem takeRowHold_of_not_due (noneDue : ∀ e b, ¬s.HoldDue e b) : s.takeRowHold = s := by
  unfold State.takeRowHold
  split
  next e b oldest board => exact if_neg fun due => noneDue e b ((holdDue_iff oldest board).1 due)
  next => rfl

theorem HoldDue.takeRowHold_alarm (due : s.HoldDue e b) : s.takeRowHold.alarm =
    { s.alarm with rowHold := true, run := s.takeRowHold.alarm.run } := by
  rw [due.takeRowHold_eq, endIfQuiet_alarm, setRun_alarm]
  rfl

/-- A taken hold leads through STOPPING, at rest to STOPPED (R149). -/
theorem HoldDue.takeRowHold_run (due : s.HoldDue e b) :
    s.takeRowHold.alarm.run = .stopping ∨ s.takeRowHold.alarm.run = .stopped := by
  rw [due.takeRowHold_eq]
  rcases endIfQuiet_run ((s.holdNoted e b).setRun .stopping) with same | ⟨stopped, -⟩
  · exact .inl (same.trans (setRun_run _ _))
  · exact .inr stopped

theorem HoldDue.takeRowHold_work (due : s.HoldDue e b) : s.takeRowHold.work =
    { s.work with board := some { b with holds := b.holds ||| BitVec.ofNat 8 (2 ^ e.record.row) } } := by
  rw [due.takeRowHold_eq]
  simp [State.holdNoted]

theorem HoldDue.takeRowHold (due : s.HoldDue e b) : s.takeRowHold.HoldTaken b.holds := by
  have work := due.takeRowHold_work
  have alarm := due.takeRowHold_alarm
  have run := due.takeRowHold_run
  obtain ⟨working, held, head, lap, first, carries, -⟩ := due
  exact ⟨{ b with holds := b.holds ||| BitVec.ofNat 8 (2 ^ e.record.row) }, e, by rw [work]; exact working, by rw [work],
    by simpa using head, lap, first, by simpa using carries, rfl, by rw [alarm], run⟩

theorem takeRowHold_head (s : State) : s.takeRowHold.head = s.headAfter s.takeRowHold.alarm.run := by
  have kept := (takeRowHold_only s (ps := [.work, .alarm]) (by simp) (by simp)).keepsBut
  obtain ⟨-, -, -, -, -, -, -, -, head, -⟩ := kept
  simpa using head

theorem takeRowHold_board (s : State) : s.takeRowHold.work.state = s.work.state ∧
    s.takeRowHold.work.board.map Board.lap = s.work.board.map Board.lap ∧ s.takeRowHold.alarm.m2 = s.alarm.m2 := by
  by_cases due : ∃ e b, s.HoldDue e b
  · obtain ⟨e, b, due⟩ := due
    rw [due.takeRowHold_work, due.takeRowHold_alarm, due.2.1]
    exact ⟨rfl, rfl, rfl⟩
  · rw [takeRowHold_of_not_due (by simpa using due)]
    exact ⟨rfl, rfl, rfl⟩

theorem headAfter_lastCycle (s : State) (r : RunState) (gone : s.head.lastCycle = none) :
    (s.headAfter r).lastCycle = none := by
  unfold State.headAfter
  split
  · rfl
  · exact gone

theorem BoardStarted.takeRowHold (started : s.BoardStarted) : s.takeRowHold.BoardStarted := by
  obtain ⟨state, board, m2⟩ := takeRowHold_board s
  refine started.of_same (.of_tape (by simp)) state board (by rw [m2]) fun gone => ?_
  rw [takeRowHold_head]
  exact headAfter_lastCycle _ _ gone

/-! ## The three together -/

theorem BoardStarted.decideOldest (started : s.BoardStarted) : s.decideOldest.BoardStarted :=
  started.of_same (decideOldest_sameOldest s) (by simp) (by simp) (by simp) (by simp)

theorem HoldTaken.decideOldest {before : BitVec 8} (taken : s.HoldTaken before) : s.decideOldest.HoldTaken before :=
  taken.of_same (decideOldest_sameOldest s) (by simp) (by simp) (by simp) (by simp)

theorem BoardStarted.endIfQuiet (started : s.BoardStarted) : s.endIfQuiet.BoardStarted :=
  started.of_same (.of_tape (by simp)) (by simp) (by simp) (by rw [endIfQuiet_alarm]) (by simp)

theorem HoldTaken.endIfQuiet {before : BitVec 8} (taken : s.HoldTaken before) : s.endIfQuiet.HoldTaken before := by
  refine taken.of_same (.of_tape (by simp)) (by simp) (by simp) (by rw [endIfQuiet_alarm]) ?_
  exact (endIfQuiet_run s).imp_right And.left

theorem BoardStarted.settle (started : t.BoardStarted) : (s.settle t).BoardStarted := by
  simpa [State.BoardStarted] using started

theorem HoldTaken.settle {before : BitVec 8} (taken : t.HoldTaken before) : (s.settle t).HoldTaken before := by
  simpa [State.HoldTaken] using taken

theorem CanStart.bookkeep (can : s.CanStart) : s.bookkeep.BoardStarted :=
  can.startBoard.takeRowHold.decideOldest

/-- A board that a row hold is due for is WORKING: none starts. -/
theorem HoldDue.not_canStart (due : s.HoldDue e b) : ¬s.CanStart := fun can => by
  have working := due.1
  simp [can.1] at working

theorem HoldDue.bookkeep (due : s.HoldDue e b) : s.bookkeep.HoldTaken b.holds := by
  unfold State.bookkeep
  rw [startBoard_of_cannot due.not_canStart]
  exact due.takeRowHold.decideOldest

theorem bookkeep_of_neither (cannot : ¬s.CanStart) (noneDue : ∀ e b, ¬s.HoldDue e b) : s.bookkeep = s.decideOldest := by
  unfold State.bookkeep
  rw [startBoard_of_cannot cannot, takeRowHold_of_not_due noneDue]

/-- A READY board that cannot start stays, and no hold is taken. -/
theorem bookkeep_of_ready (ready : s.work.state = .ready) (cannot : ¬s.CanStart) : s.bookkeep = s.decideOldest :=
  bookkeep_of_neither cannot fun _ _ due => by simp [due.1] at ready

/-- A board made READY starts at once where the tape lets it (R115, R117). -/
theorem ReadyOrStarted.of_bookkeep (ready : u.work.state = .ready) (tape : u.tape = s.tape)
    (board : u.work.board.isSome = s.work.board.isSome) : s.ReadyOrStarted u.bookkeep := by
  have can : u.CanStart ↔ s.TapeLetsStart ∧ s.work.board.isSome = true := by
    unfold CanStart State.TapeLetsStart
    rw [board, tape]
    exact ⟨fun ⟨_, isSome, lets⟩ => ⟨lets, isSome⟩, fun ⟨lets, isSome⟩ => ⟨ready, isSome, lets⟩⟩
  refine ⟨fun lets => (can.2 lets).bookkeep, fun not => ?_⟩
  rw [bookkeep_of_ready ready (mt can.1 not)]
  simpa using ready

theorem ReadyOrStarted.endIfQuiet (ready : s.ReadyOrStarted t) : s.ReadyOrStarted t.endIfQuiet :=
  ⟨fun lets => (ready.1 lets).endIfQuiet, fun not => by simpa using ready.2 not⟩

theorem ReadyOrStarted.settle (ready : s.ReadyOrStarted t) : s.ReadyOrStarted (u.settle t) :=
  ⟨fun lets => (ready.1 lets).settle, fun not => by simpa using ready.2 not⟩

end State
end Sys2Proof.Machine
end

section
/-!
# Board-handling operations (R108, R109, R114, R115, R121)
-/
namespace Sys2Proof.Machine

namespace State
variable {s t u : State}

/-! ## The conveyor out -/

theorem startConveyorOut_of_waits (waits : s.work.exitSeen = false ∨ s.lines.bout = true) :
    s.startConveyorOut = s.drive .conveyorOut := by
  refine if_neg ?_
  rcases waits with h | h <;> simp [State.opDone, State.drive, Work.driveFor, h]

theorem startConveyorOut_of_clear (seen : s.work.exitSeen = true) (clear : s.lines.bout = false) :
    s.startConveyorOut = (s.drive .conveyorOut).conveyorOutDone :=
  if_pos (by simp [State.opDone, State.drive, Work.driveFor, seen, clear])

theorem OutDriving.of_drive (s : State) : s.OutDriving (s.drive .conveyorOut) ∧
    (s.drive .conveyorOut).work.exitSeen = (s.work.exitSeen || s.lines.bout) :=
  ⟨⟨rfl, rfl, rfl, rfl⟩, rfl⟩

theorem BoardGone.of_conveyorOutDone (s : State) : s.BoardGone s.conveyorOutDone := by
  unfold State.BoardGone State.conveyorOutDone State.boardCleared
  simp only [modWork_work, modWork_trav, true_and]
  by_cases lineEnd : s.role = .lineEnd <;> by_cases sent : s.trav.phase = .sent <;> simp [lineEnd, sent]

theorem OutDriving.of_work (out : s.OutDriving t) (work : u.work = t.work) : s.OutDriving u := by
  unfold State.OutDriving
  rw [work]
  exact out

theorem BoardGone.of_same (gone : s.BoardGone t) (work : u.work = t.work) (trav : u.trav = t.trav) : s.BoardGone u := by
  unfold State.BoardGone
  rw [work, trav]
  exact gone

theorem toConveyorOut_of_not_may (not : ¬s.MayStart) :
    s.toConveyorOut = s.modWork fun w => { w with op := some (.conveyorOut, .waiting), opTimer := none } :=
  if_neg fun may => not ((mayStart_iff s).1 may)

theorem toConveyorOut_of_may (may : s.MayStart) : s.toConveyorOut =
    (s.modWork fun w => { w with op := some (.conveyorOut, .waiting), opTimer := none }).startConveyorOut :=
  if_pos ((mayStart_iff s).2 may)

/-! ## Release (R121) -/

/-- A released board that is clamped, or under the CLAMP drive, is unclamped first. -/
theorem releaseBoard_of_clamped (clamp : s.work.clamped = true ∨ s.work.clampOn = true) (held : s.lines.clamped = true) :
    s.releaseBoard = s.modWork fun w =>
      { w with state := .releasing, exitSeen := false, clampOn := false, clamped := false,
               op := some (.unclamp, .driving), opTimer := some s.header.clampTimeout } := by
  unfold State.releaseBoard State.startUnclamp
  rw [if_pos (by simpa using clamp), if_neg (by simp [State.opDone, held])]
  rfl

/-- A released board goes out at once where nothing clamps it or CLAMPED already reads inactive. -/
theorem releaseBoard_of_free (may : s.MayStart)
    (free : s.lines.clamped = false ∨ (s.work.clamped = false ∧ s.work.clampOn = false)) :
    s.releaseBoard = s.modWork fun w =>
      { w with state := .releasing, exitSeen := s.lines.bout, clampOn := false, clamped := false, convOut := true,
               op := some (.conveyorOut, .driving), opTimer := some s.header.outTimeout } := by
  have away (v : State) (mayV : v.MayStart) (unseen : v.work.exitSeen = false) : v.toConveyorOut =
      v.modWork fun w => { w with exitSeen := v.lines.bout, convOut := true, op := some (.conveyorOut, .driving),
                                  opTimer := some v.header.outTimeout } := by
    rw [toConveyorOut_of_may mayV, startConveyorOut_of_waits (.inl (by exact unseen))]
    simp [State.drive, Work.driveFor, unseen, State.modWork, State.header, opTimeout]
  unfold State.releaseBoard
  by_cases clamp : s.work.clamped = true ∨ s.work.clampOn = true
  · have low : s.lines.clamped = false := by
      rcases free with h | ⟨h, k⟩
      · exact h
      · simp [h, k] at clamp
    unfold State.startUnclamp
    rw [if_pos (by simpa using clamp), if_pos (by simp [State.opDone, low]), away _ (by exact may) (by rfl)]
    rfl
  · have off : s.work.clamped = false ∧ s.work.clampOn = false := by simpa using clamp
    rw [if_neg (by simp [off]), away _ (by exact may) (by rfl)]
    simp [State.modWork, off, State.header]

theorem Released.of_releaseBoard (may : s.MayStart) : s.Released s.releaseBoard := by
  by_cases clamp : s.work.clamped = true ∨ s.work.clampOn = true
  · cases held : s.lines.clamped
    · rw [releaseBoard_of_free may (.inl held)]
      exact ⟨rfl, rfl, fun _ => ⟨rfl, rfl, fun on => by simp [held] at on, fun _ => ⟨⟨rfl, rfl, rfl, rfl⟩, rfl⟩⟩,
        fun off => by simp [off] at clamp⟩
    · rw [releaseBoard_of_clamped clamp held]
      exact ⟨rfl, rfl, fun _ => ⟨rfl, rfl, fun _ => ⟨rfl, rfl, rfl⟩, fun low => by simp [held] at low⟩,
        fun off => by simp [off] at clamp⟩
  · have off : s.work.clamped = false ∧ s.work.clampOn = false := by simpa using clamp
    rw [releaseBoard_of_free may (.inr off)]
    exact ⟨rfl, rfl, fun on => absurd on clamp, fun _ => ⟨⟨rfl, rfl, rfl, rfl⟩, rfl⟩⟩

theorem Released.of_work (out : s.Released t) (work : u.work = t.work) : s.Released u := by
  unfold State.Released State.OutDriving
  rw [work]
  exact out

/-- A release that starts changes the work-position unit alone, and not the gate. -/
theorem releaseBoard_only_work (may : s.MayStart) : s.Only s.releaseBoard [.work] ∧
    s.releaseBoard.work.gateReject = s.work.gateReject ∧ s.releaseBoard.trav = s.trav := by
  by_cases free : s.lines.clamped = false ∨ (s.work.clamped = false ∧ s.work.clampOn = false)
  · rw [releaseBoard_of_free may free]
    exact ⟨.modWork s _ (by simp), rfl, rfl⟩
  · rw [releaseBoard_of_clamped (by rw [not_or, not_and_or] at free; simpa using free.2) (by simpa using (not_or.1 free).1)]
    exact ⟨.modWork s _ (by simp), rfl, rfl⟩

/-! ## CLAMP (R114, R115) -/

theorem startClamp_of_low (low : s.lines.clamped = false) : s.startClamp = s.drive .clamp :=
  if_neg (by simp [State.opDone, low])

theorem startClamp_of_high (high : s.lines.clamped = true) : s.startClamp = (s.drive .clamp).clampDone :=
  if_pos (by simp [State.opDone, high])

theorem scanFrom_of_some {n start : Nat}
    (next : nextMarkImage s.reader.rows ((s.work.board.map Board.mask).getD 0) start = some n) :
    s.scanFrom start = (s.modWork fun w => { w with scan := some n }).modTable fun t => { t with markRequest := some n } := by
  unfold State.scanFrom
  rw [next]

theorem scanFrom_of_none {start : Nat}
    (next : nextMarkImage s.reader.rows ((s.work.board.map Board.mask).getD 0) start = none) :
    s.scanFrom start = (s.modWork fun w => { w with scan := none, state := .ready }).bookkeep := by
  unfold State.scanFrom
  rw [next]

theorem startBoard_work (s : State) : s.startBoard.work =
    { s.work with state := s.startBoard.work.state, board := s.startBoard.work.board } := by
  by_cases can : s.CanStart
  · obtain ⟨b, e, -, -, -, -, eq⟩ := can.startBoard_eq
    rw [eq]
    rfl
  · rw [startBoard_of_cannot can]

theorem takeRowHold_work (s : State) : s.takeRowHold.work = { s.work with board := s.takeRowHold.work.board } := by
  by_cases due : ∃ e b, s.HoldDue e b
  · obtain ⟨e, b, due⟩ := due
    rw [due.takeRowHold_work]
  · rw [takeRowHold_of_not_due (by simpa using due)]

/-- The bookkeeping changes the state of the work position and its board alone. -/
theorem bookkeep_work (s : State) : s.bookkeep.work =
    { s.work with state := s.bookkeep.work.state, board := s.bookkeep.work.board } := by
  have held : s.bookkeep.work = s.startBoard.takeRowHold.work := by simp [State.bookkeep]
  rw [held, takeRowHold_work, startBoard_work]

theorem ClampCloses.of_clampDone (s : State) : s.ClampCloses s.clampDone := by
  cases scans : s.options.markScan with
  | false =>
    have eq : s.clampDone = (s.modWork fun w =>
        { w with clamped := true, clampOn := true, op := none, opTimer := none, state := .ready }).bookkeep :=
      if_neg (by simp [scans])
    have work := bookkeep_work (s.modWork fun w =>
      { w with clamped := true, clampOn := true, op := none, opTimer := none, state := .ready })
    unfold State.ClampCloses
    rw [eq]
    refine ⟨by rw [work]; rfl, by rw [work]; rfl, by rw [work]; rfl, by rw [work]; rfl,
      fun n on => by simp [scans] at on, fun _ => ⟨.of_bookkeep rfl rfl rfl, by simp⟩⟩
  | true =>
    have eq : s.clampDone = (s.modWork fun w =>
        { w with clamped := true, clampOn := true, op := none, opTimer := none, state := .scanning }).scanFrom 0 :=
      if_pos scans
    unfold State.ClampCloses
    rw [eq]
    cases next : nextMarkImage s.reader.rows ((s.work.board.map Board.mask).getD 0) 0 with
    | some n =>
      rw [scanFrom_of_some (by exact next)]
      exact ⟨rfl, rfl, rfl, rfl, fun k _ same => by cases same; exact ⟨rfl, rfl, rfl⟩, fun none => by simp [scans] at none⟩
    | none =>
      rw [scanFrom_of_none (by exact next)]
      refine ⟨by rw [bookkeep_work]; rfl, by rw [bookkeep_work]; rfl, by rw [bookkeep_work]; rfl,
        by rw [bookkeep_work]; rfl, fun n _ same => by simp at same, fun _ => ⟨.of_bookkeep rfl rfl rfl, by simp⟩⟩

theorem ClampCloses.endIfQuiet (closes : s.ClampCloses t) : s.ClampCloses t.endIfQuiet := by
  obtain ⟨clamped, on, op, timer, scan, ready⟩ := closes
  exact ⟨by simpa using clamped, by simpa using on, by simpa using op, by simpa using timer,
    fun n m next => by simpa using scan n m next,
    fun none => ⟨(ready none).1.endIfQuiet, by simpa using (ready none).2⟩⟩

theorem ClampCloses.settle (closes : s.ClampCloses t) : s.ClampCloses (u.settle t) := by
  obtain ⟨clamped, on, op, timer, scan, ready⟩ := closes
  exact ⟨by simpa using clamped, by simpa using on, by simpa using op, by simpa using timer,
    fun n m next => by simpa using scan n m next,
    fun none => ⟨(ready none).1.settle, by simpa using (ready none).2⟩⟩

end State

/-! ## The rows -/

/-- Settles O34: the conveyor in drives at once, since BWK reads inactive. -/
theorem boardsEnterAnEmptyWorkPosition : Obligations.BoardsEnterAnEmptyWorkPosition := by
  refine fun s => ⟨?_, fun bin => ⟨_, rfl, by simp, State.keepsBut_settle (by simp [State.KeepsBut])⟩⟩
  by_cases may : s.MayStart ∧ s.work.state = .empty ∧ s.lines.bwk = false
  · obtain ⟨start, empty, low⟩ := may
    have ready : (s.modLines fun l => { l with bin := true }).conveyorInReady = true :=
      (State.conveyorInReady_iff _).2 ⟨start, empty, rfl, low⟩
    have drives : ((s.modLines fun l => { l with bin := true }).modWork fun w =>
        { w with state := .entering }).startConveyorIn = ((s.modLines fun l => { l with bin := true }).modWork fun w =>
        { w with state := .entering }).drive .conveyorIn := if_neg (by simp [State.opDone, low])
    refine ⟨_, if_pos ready, ?_⟩
    rw [drives]
    refine ⟨by simp, fun _ _ _ => ⟨by simp [State.drive, Work.driveFor, opTimeout, State.header], State.keepsBut_settle ?_⟩,
      fun not => absurd ⟨start, empty, low⟩ not⟩
    simp [State.KeepsBut]
  · have unready : ¬(s.modLines fun l => { l with bin := true }).conveyorInReady = true := fun ready => by
      obtain ⟨start, empty, -, low⟩ := (State.conveyorInReady_iff _).1 ready
      exact may ⟨start, empty, low⟩
    exact ⟨_, if_neg unready, by simp, fun start empty low => absurd ⟨start, empty, low⟩ may,
      fun _ => State.keepsBut_settle (by simp [State.KeepsBut])⟩

/-- Settles O36: each start and completion by what its operation comes to. -/
theorem operationsStartAndTheClampFollows : Obligations.OperationsStartAndTheClampFollows := by
  intro s
  refine ⟨fun ready => ⟨_, if_pos ((s.opReady_iff _).2 ready), fun low => ?low, fun high => ?high⟩,
    fun not => if_neg (mt (s.opReady_iff _).1 not),
    fun ready => ⟨_, if_pos ((s.opReady_iff _).2 ready), fun waits => ?waits, fun seen clear => ?clear⟩,
    fun not => if_neg (mt (s.opReady_iff _).1 not), ?active, ?inactive⟩
  case low =>
    rw [State.startClamp_of_low low]
    exact ⟨by simp [State.drive, Work.driveFor, opTimeout], State.keepsBut_settle (s.drive_only _ (by simp)).keepsBut⟩
  case high =>
    rw [State.startClamp_of_high high]
    refine ⟨State.ClampCloses.settle (State.ClampCloses.of_clampDone (s.drive .clamp)), State.keepsBut_settle ?_⟩
    exact ((s.drive_only _ (by simp)).trans (State.clampDone_only _ (by simp [State.Scans, State.Books]))).keepsBut
  case waits =>
    rw [State.startConveyorOut_of_waits waits]
    obtain ⟨drives, exit⟩ := State.OutDriving.of_drive s
    exact ⟨drives.of_work (by simp), by simpa using exit, State.keepsBut_settle (s.drive_only _ (by simp)).keepsBut⟩
  case clear =>
    rw [State.startConveyorOut_of_clear seen clear]
    refine ⟨(State.BoardGone.of_conveyorOutDone (s.drive .conveyorOut)).of_same (by simp) (by simp), State.keepsBut_settle ?_⟩
    exact ((s.drive_only _ (by simp)).trans (State.conveyorOutDone_only _ (by simp) (by simp))).keepsBut
  case active =>
    by_cases clamping : s.Under .clamp
    · refine ⟨_, if_pos ((s.under_iff _).2 clamping), by simp, fun _ => ⟨?_, State.keepsBut_settle ?_⟩,
        fun not => absurd clamping not, fun not => absurd clamping not⟩
      · exact (State.ClampCloses.of_clampDone (s.modLines fun l => { l with clamped := true })).endIfQuiet.settle
      · exact ((State.Only.modLines s _ (by simp)).trans ((State.clampDone_only _ (by simp [State.Scans, State.Books])).trans
          (State.endIfQuiet_only _ (by simp)))).keepsBut
    · have still : ¬s.work.under .clamp = true := mt (s.under_iff _).1 clamping
      cases on : s.work.clampOn
      · exact ⟨_, (if_neg still).trans (if_neg (by simp [on])), by simp, fun yes => absurd yes clamping,
          fun _ on => by simp at on, fun _ _ => State.keepsBut_settle (by simp [State.KeepsBut])⟩
      · exact ⟨_, (if_neg still).trans (if_pos on), by simp, fun yes => absurd yes clamping,
          fun _ _ => ⟨by simp, State.keepsBut_settle (by simp [State.KeepsBut])⟩, fun _ off => by simp at off⟩
  case inactive =>
    by_cases unclamping : s.Under .unclamp
    · refine ⟨_, if_pos ((s.under_iff _).2 unclamping), by simp, fun _ => ⟨State.keepsBut_settle ?frame, ?rest⟩,
        fun not => absurd unclamping not, fun not => absurd unclamping not⟩
      case frame =>
        exact ((State.Only.modLines s _ (by simp)).trans ((State.toConveyorOut_only _ (by simp) (by simp)).trans
          (State.endIfQuiet_only _ (by simp)))).keepsBut
      case rest =>
        refine ⟨fun not => ?_, fun may waits => ?_, fun may seen clear => ?_⟩
        · rw [State.toConveyorOut_of_not_may (by exact not)]
          simp
        · rw [State.toConveyorOut_of_may (by exact may), State.startConveyorOut_of_waits (by exact waits)]
          obtain ⟨drives, exit⟩ := State.OutDriving.of_drive ((s.modLines fun l => { l with clamped := false }).modWork
            fun w => { w with op := some (.conveyorOut, .waiting), opTimer := none })
          exact ⟨drives.of_work (by simp), by simpa using exit⟩
        · rw [State.toConveyorOut_of_may (by exact may), State.startConveyorOut_of_clear (by exact seen) (by exact clear)]
          exact (State.BoardGone.of_conveyorOutDone (((s.modLines fun l => { l with clamped := false }).modWork
            fun w => { w with op := some (.conveyorOut, .waiting), opTimer := none }).drive .conveyorOut)).of_same
              (by simp) (by simp)
    · have still : ¬s.work.under .unclamp = true := mt (s.under_iff _).1 unclamping
      cases clamped : s.work.clamped
      · exact ⟨_, (if_neg still).trans (if_neg (by simp [clamped])), by simp, fun yes => absurd yes unclamping,
          fun _ on => by simp at on, fun _ _ => State.keepsBut_settle (by simp [State.KeepsBut])⟩
      · refine ⟨_, (if_neg still).trans (if_pos clamped), by simp, fun yes => absurd yes unclamping,
          fun _ _ => ⟨by simp, ?_, State.keepsBut_settle ?_⟩, fun _ off => by simp at off⟩
        · simp only [State.settle_frame]
          exact State.raise_alarm_congr _ _ _ rfl rfl
        · exact ((State.Only.modLines s _ (by simp)).trans ((State.Only.modWork _ _ (by simp)).trans
            (State.raise_only _ _ (by simp)))).keepsBut

/-- Settles O37: the release, the exit seen, and the end of the visit. -/
theorem boardsLeaveThroughTheExit : Obligations.BoardsLeaveThroughTheExit := by
  intro s
  refine ⟨?release, ?exit, fun bin => ?leave⟩
  case release =>
    by_cases ready : s.MayStart ∧ s.role = .lineEnd ∧ s.work.state = .done
    · obtain ⟨may, role, done⟩ := ready
      have lineEnd : (s.modLines fun l => { l with unloadReady := true }).lineEndReady = true :=
        (State.lineEndReady_iff _).2 ⟨may, role, done, rfl⟩
      refine ⟨_, if_pos lineEnd, by simp, fun _ b held => ?_, fun not => absurd ⟨may, role, done⟩ not⟩
      have gated : ((s.modLines fun l => { l with unloadReady := true }).modWork fun w =>
          { w with gateReject := (w.board.map fun b => b.reject.isSome).getD false }).MayStart := may
      obtain ⟨only, gate, -⟩ := State.releaseBoard_only_work gated
      refine ⟨?_, (State.Released.of_releaseBoard gated).of_work (by simp), State.keepsBut_settle ?_⟩
      · simp only [State.settle_frame]
        rw [gate]
        simp [held]
      · exact ((State.Only.modLines s _ (by simp)).trans ((State.Only.modWork _ _ (by simp)).trans
          (only.mono (by simp)))).keepsBut
    · have unready : ¬(s.modLines fun l => { l with unloadReady := true }).lineEndReady = true := fun h => by
        obtain ⟨may, role, done, -⟩ := (State.lineEndReady_iff _).1 h
        exact ready ⟨may, role, done⟩
      exact ⟨_, if_neg unready, by simp, fun yes => absurd yes ready, fun _ =>
        State.keepsBut_settle (by simp [State.KeepsBut])⟩
  case exit =>
    by_cases out : s.Under .conveyorOut
    · exact ⟨_, if_pos ((s.under_iff _).2 out), by simp, fun _ => ⟨by simp, State.keepsBut_settle (by simp [State.KeepsBut])⟩,
        fun not => absurd out not⟩
    · exact ⟨_, if_neg (mt (s.under_iff _).1 out), by simp, fun yes => absurd yes out,
        fun _ => State.keepsBut_settle (by simp [State.KeepsBut])⟩
  case leave =>
    by_cases leaves : s.Under .conveyorOut ∧ s.work.exitSeen = true
    · refine ⟨_, if_pos (by simpa [State.under_iff] using leaves), by simp, fun _ => ⟨?_, State.keepsBut_settle ?_⟩,
        fun not => absurd leaves not⟩
      · exact (State.BoardGone.of_conveyorOutDone (s.modLines fun l => { l with bout := false, bin := bin })).of_same
          (by simp) (by simp)
      · exact ((State.Only.modLines s _ (by simp)).trans ((State.conveyorOutDone_only _ (by simp) (by simp)).trans
          (State.endIfQuiet_only _ (by simp)))).keepsBut
    · exact ⟨_, if_neg (by simpa [State.under_iff] using leaves), by simp, fun yes => absurd yes leaves,
        fun _ => State.keepsBut_settle (by simp [State.KeepsBut])⟩

/-- Settles O38: the stalled operation, its raise, and a STEPPING or STOPPING that ends. -/
theorem operationsStallAtTheirTimeout : Obligations.OperationsStallAtTheirTimeout := by
  refine fun s => ⟨fun none => ?idle, fun k code driving names => ?stalls⟩
  case idle =>
    change execOperationTimeout s = _
    unfold execOperationTimeout
    split
    next k driving => exact absurd driving (none k)
    next => rfl
  case stalls =>
    have alarm : opAlarm k = code := by
      rcases names with ⟨rfl, rfl⟩ | ⟨rfl | rfl, rfl⟩ | ⟨rfl, rfl⟩ <;> rfl
    have raised : ((s.modWork fun w => { w.driveOff k with op := some (k, .stalled), opTimer := none }).raise
        ⟨code, s.boardSerial, none, false⟩).alarm = (s.raise ⟨code, s.boardSerial, none, false⟩).alarm :=
      State.raise_alarm_congr _ _ _ rfl rfl
    have row : exec .operationTimeout s = .next (s.settle (((s.modWork fun w =>
        { w.driveOff k with op := some (k, .stalled), opTimer := none }).raise
          ⟨code, s.boardSerial, none, false⟩).endIfQuiet)) := by
      change execOperationTimeout s = _
      unfold execOperationTimeout
      rw [driving, ← alarm]
      rfl
    refine ⟨_, row, ?work, ?list, ?run, State.keepsBut_settle ?frame⟩
    case work => cases k <;> simp [Work.driveOff]
    case list => rw [State.settle_frame s _ |>.2.2.2.2.2.2.2.2.2.2.2.1, State.endIfQuiet_alarm, raised]
    case run =>
      rw [State.settle_frame s _ |>.2.2.2.2.2.2.2.2.2.2.2.1]
      rcases State.endIfQuiet_run ((s.modWork fun w => { w.driveOff k with op := some (k, .stalled), opTimer := none }).raise
        ⟨code, s.boardSerial, none, false⟩) with same | ⟨stopped, ran⟩
      · exact .inl (same.trans (congrArg _ raised))
      · refine .inr ⟨stopped, ?_⟩
        rw [raised] at ran
        rcases State.raise_run s ⟨code, s.boardSerial, none, false⟩ with same | inAlarm
        · rw [same] at ran
          exact ran.imp id And.left
        · simp [inAlarm] at ran
    case frame =>
      exact ((State.Only.modWork s _ (by simp)).trans ((State.raise_only _ _ (by simp)).trans
        (State.endIfQuiet_only _ (by simp)))).keepsBut

end Sys2Proof.Machine
end

section
/-!
# Boards made at the work position (R109 to R113)
-/
namespace Sys2Proof.Machine

/-- The board record but for its lap and its holds taken, which the bookkeeping gives (R117, R118). -/
def Board.SameBut (b c : Board) : Prop := c = { b with lap := c.lap, holds := c.holds }

theorem Board.SameBut.refl (b : Board) : b.SameBut b := rfl

theorem Board.SameBut.trans {a b c : Board} (first : a.SameBut b) (second : b.SameBut c) : a.SameBut c := by
  unfold Board.SameBut at *
  rw [second, first]

namespace State
variable {s t u : State} {b : Board}

theorem startBoard_board (held : s.work.board = some b) : ∃ c, s.startBoard.work.board = some c ∧ b.SameBut c := by
  by_cases can : s.CanStart
  · obtain ⟨b', e, held', -, -, -, eq⟩ := can.startBoard_eq
    obtain rfl : b = b' := Option.some.inj (held.symm.trans held')
    rw [eq]
    exact ⟨_, rfl, rfl⟩
  · rw [startBoard_of_cannot can]
    exact ⟨b, held, .refl b⟩

theorem takeRowHold_sameBut (held : s.work.board = some b) :
    ∃ c, s.takeRowHold.work.board = some c ∧ b.SameBut c := by
  by_cases due : ∃ e b, s.HoldDue e b
  · obtain ⟨e, b', due⟩ := due
    obtain rfl : b = b' := Option.some.inj (held.symm.trans due.2.1)
    rw [due.takeRowHold_work]
    exact ⟨_, rfl, rfl⟩
  · rw [takeRowHold_of_not_due (by simpa using due)]
    exact ⟨b, held, .refl b⟩

theorem bookkeep_board (held : s.work.board = some b) : ∃ c, s.bookkeep.work.board = some c ∧ b.SameBut c := by
  obtain ⟨c, held', same⟩ := startBoard_board held
  obtain ⟨d, held'', same'⟩ := takeRowHold_sameBut held'
  exact ⟨d, by simpa [State.bookkeep] using held'', same.trans same'⟩

theorem scanFrom_board (held : s.work.board = some b) (start : Nat) :
    ∃ c, (s.scanFrom start).work.board = some c ∧ b.SameBut c := by
  unfold State.scanFrom
  split
  · exact ⟨b, held, .refl b⟩
  · exact bookkeep_board (by exact held)

/-- What of the work position a scan leaves alone. -/
theorem scanFrom_work (s : State) (start : Nat) : (s.scanFrom start).work = { s.work with
    state := (s.scanFrom start).work.state, board := (s.scanFrom start).work.board,
    scan := (s.scanFrom start).work.scan } := by
  unfold State.scanFrom
  split
  · rfl
  · rw [bookkeep_work]
    rfl

theorem clampDone_board (held : s.work.board = some b) : ∃ c, s.clampDone.work.board = some c ∧ b.SameBut c := by
  unfold State.clampDone
  split
  · exact scanFrom_board (by exact held) 0
  · exact bookkeep_board (by exact held)

/-- What of the work position the end of CLAMP leaves alone. -/
theorem clampDone_work (s : State) : s.clampDone.work = { s.work with
    clamped := true, clampOn := true, op := none, opTimer := none, state := s.clampDone.work.state,
    board := s.clampDone.work.board, scan := s.clampDone.work.scan } := by
  unfold State.clampDone
  split
  · rw [scanFrom_work]
    rfl
  · rw [bookkeep_work]
    rfl

/-! ## The way of a board record (R113) -/

/-- The station as a board record is held, before it takes its way. -/
def holding (s : State) (b : Board) : State :=
  s.modWork fun w => { w with board := some b, matchTimer := none, op := none, opTimer := none }

theorem boardMade_of_bypass (reject : b.reject ≠ none) (bypass : s.options.bypass = true) :
    s.boardMade b = (s.holding b).modWork fun w => { w with state := .done } :=
  if_pos (by simp [Option.isSome_iff_ne_none, reject, bypass])

theorem boardMade_of_clamps (way : b.reject = none ∨ s.options.bypass = false) :
    s.boardMade b = if s.mayStart
      then ((s.holding b).modWork fun w => { w with state := .clamping, op := some (.clamp, .waiting) }).startClamp
      else (s.holding b).modWork fun w => { w with state := .clamping, op := some (.clamp, .waiting) } :=
  if_neg (by rcases way with h | h <;> simp [h])

/-- A board record on its way leaves the counters and the conveyor alone. -/
theorem boardMade_counters (s : State) (b : Board) : (s.boardMade b).work.ownCounter = s.work.ownCounter ∧
    (s.boardMade b).work.accept = s.work.accept ∧ (s.boardMade b).work.convIn = s.work.convIn := by
  by_cases bypass : b.reject ≠ none ∧ s.options.bypass = true
  · rw [boardMade_of_bypass bypass.1 bypass.2]
    exact ⟨rfl, rfl, rfl⟩
  · rw [boardMade_of_clamps (by simpa [← or_iff_not_imp_left] using bypass)]
    split
    · cases high : s.lines.clamped
      · rw [startClamp_of_low (by exact high)]
        exact ⟨rfl, rfl, rfl⟩
      · rw [startClamp_of_high (by exact high), clampDone_work]
        exact ⟨rfl, rfl, rfl⟩
    · exact ⟨rfl, rfl, rfl⟩

theorem BoardMade.of_work {serial : Serial} {mask : Mask} {reject : Option RejectReason} {stages : List Stage}
    {dropped : Nat} (made : s.BoardMade t serial mask reject stages dropped) (work : u.work = t.work) :
    s.BoardMade u serial mask reject stages dropped := by
  unfold State.BoardMade
  rw [work]
  exact made

theorem BoardMade.of_boardMade (s : State) (serial : Serial) (mask : Mask) (reject : Option RejectReason)
    (stages : List Stage) (dropped : Nat) :
    s.BoardMade (s.boardMade (newBoard serial mask reject stages dropped)) serial mask reject stages dropped := by
  by_cases bypass : reject ≠ none ∧ s.options.bypass = true
  · rw [boardMade_of_bypass bypass.1 bypass.2]
    exact ⟨_, rfl, rfl, rfl, rfl, rfl, rfl, rfl, rfl, rfl, rfl, rfl, rfl, rfl, fun _ _ => ⟨rfl, rfl, rfl⟩,
      fun way => absurd bypass (by rcases way with h | h <;> simp [h])⟩
  · have way : reject = none ∨ s.options.bypass = false := by simpa [← or_iff_not_imp_left] using bypass
    rw [boardMade_of_clamps way]
    by_cases may : s.MayStart
    · rw [if_pos ((mayStart_iff s).2 may)]
      cases high : s.lines.clamped
      · rw [startClamp_of_low (by exact high)]
        exact ⟨_, rfl, rfl, rfl, rfl, rfl, rfl, rfl, rfl, rfl, rfl, rfl, rfl, rfl, fun on off => absurd ⟨on, off⟩ bypass,
          fun _ => ⟨fun not => absurd may not, fun _ _ => ⟨rfl, rfl, rfl, rfl⟩, fun _ on => by simp [high] at on⟩⟩
      · rw [startClamp_of_high (by exact high)]
        obtain ⟨c, held, same⟩ := clampDone_board (s := ((s.holding (newBoard serial mask reject stages dropped)).modWork
          fun w => { w with state := .clamping, op := some (.clamp, .waiting) }).drive .clamp) rfl
        refine ⟨c, held, by rw [same]; rfl, by rw [same]; rfl, by rw [same]; rfl, by rw [same]; rfl, by rw [same]; rfl,
          by rw [same]; rfl, by rw [same]; rfl, by rw [same]; rfl, by rw [same]; rfl, by rw [same]; rfl, by rw [same]; rfl,
          by rw [clampDone_work]; rfl, fun on off => absurd ⟨on, off⟩ bypass, fun _ => ⟨fun not => absurd may not,
          fun _ off => by simp [high] at off, fun _ _ => ?_⟩⟩
        rw [clampDone_work]
        exact ⟨rfl, rfl, rfl⟩
    · rw [if_neg (mt (mayStart_iff s).1 may)]
      exact ⟨_, rfl, rfl, rfl, rfl, rfl, rfl, rfl, rfl, rfl, rfl, rfl, rfl, rfl, fun on off => absurd ⟨on, off⟩ bypass,
        fun _ => ⟨fun _ => ⟨rfl, rfl⟩, fun yes => absurd yes may, fun yes => absurd yes may⟩⟩

/-- An own board takes the next serial (R111). -/
theorem BoardMade.of_makeOwnBoard (s : State) (reject : Option RejectReason) :
    s.BoardMade (s.makeOwnBoard reject) (nextSerial s.work.ownCounter) 0 reject [] 0 ∧
      (s.makeOwnBoard reject).work.ownCounter = nextSerial s.work.ownCounter ∧
      (s.makeOwnBoard reject).work.accept = s.work.accept ∧ (s.makeOwnBoard reject).work.convIn = s.work.convIn := by
  have counters := boardMade_counters (s.modWork fun w => { w with ownCounter := nextSerial w.ownCounter })
    (newBoard (nextSerial s.work.ownCounter) 0 reject [] 0)
  exact ⟨.of_boardMade (s.modWork fun w => { w with ownCounter := nextSerial w.ownCounter }) _ _ _ _ _, counters⟩

/-- A matched board takes its traveller's fields (R112). -/
theorem BoardMade.of_makeMatched (s : State) (v : Traveller) :
    s.BoardMade (s.makeMatched v) v.serial v.mask (if v.reject = none then none else some .upstream) v.stages v.dropped ∧
      (s.makeMatched v).work.ownCounter = s.work.ownCounter ∧ (s.makeMatched v).work.accept = s.work.accept ∧
      (s.makeMatched v).work.convIn = s.work.convIn := by
  have reject : (if v.reject.isSome then some RejectReason.upstream else none) =
      if v.reject = none then none else some .upstream := by
    cases v.reject <;> rfl
  unfold State.makeMatched
  rw [reject]
  exact ⟨.of_boardMade s _ _ _ _ _, boardMade_counters s _⟩

/-- The station as a board has arrived at BWK, before it is matched (R109). -/
def arrived (s : State) : State :=
  s.modWork fun w => { w with convIn := false, op := none, opTimer := none, accept := w.accept + 1, state := .matching }

theorem beginMatching_of_lineHead (role : s.role = .lineHead) : s.beginMatching = s.makeOwnBoard none := if_pos role

theorem beginMatching_of_queued (role : s.role ≠ .lineHead) {a : Arrival} {rest : List Arrival}
    (queued : s.trav.arrivals = a :: rest) :
    s.beginMatching = (s.modTrav fun t => { t with arrivals := rest }).makeMatched a.traveller := by
  simp [State.beginMatching, role, queued]

theorem beginMatching_of_none (role : s.role ≠ .lineHead) (none : s.trav.arrivals = []) :
    s.beginMatching = if s.header.travWait = 0 then s.makeOwnBoard (some .untracked)
      else (s.modWork fun w => { w with matchTimer := some s.header.travWait }).modTrav fun t =>
        { t with takeOpen := true } := by
  simp [State.beginMatching, role, none, State.makeUntracked]

@[simp] theorem arrived_work (s : State) : s.arrived.work = { s.work with
    convIn := false, op := none, opTimer := none, accept := s.work.accept + 1, state := .matching } := rfl

theorem arrive_eq (s : State) : s.arrive = s.arrived.beginMatching := rfl

theorem makeUntracked_eq (s : State) : s.makeUntracked = s.makeOwnBoard (some .untracked) := rfl

/-- Matching leaves what the arrival has counted. -/
theorem beginMatching_counters (s : State) :
    s.beginMatching.work.accept = s.work.accept ∧ s.beginMatching.work.convIn = s.work.convIn := by
  by_cases role : s.role = .lineHead
  · rw [beginMatching_of_lineHead role]
    exact (BoardMade.of_makeOwnBoard s none).2.2
  · cases queued : s.trav.arrivals with
    | cons a rest =>
      rw [beginMatching_of_queued role queued]
      exact (BoardMade.of_makeMatched _ a.traveller).2.2
    | nil =>
      rw [beginMatching_of_none role queued]
      split
      · exact (BoardMade.of_makeOwnBoard s _).2.2
      · exact ⟨rfl, rfl⟩

end State

/-- Settles O35: an arrival by its match, a board found and a wait run out by the own board. -/
theorem arrivingBoardsAreMatched : Obligations.ArrivingBoardsAreMatched := by
  intro s
  refine ⟨?active, fun waits => ⟨_, if_pos (by simpa [Option.isSome_iff_ne_none] using waits), ?timeout⟩, fun not => if_neg
    (by simpa [Option.isSome_iff_ne_none] using not)⟩
  case timeout =>
    obtain ⟨made, counter, accept, -⟩ :=
      State.BoardMade.of_makeOwnBoard (s.modTrav fun t => { t with takeOpen := false }) (some .untracked)
    rw [State.makeUntracked_eq]
    refine ⟨by simp, by simpa using accept, by simpa using counter, made.of_work (by simp), State.keepsBut_settle ?_⟩
    exact ((State.Only.modTrav s _ (by simp)).trans (State.makeOwnBoard_only _ _ (by simp [State.Scans, State.Books]))).keepsBut
  case active =>
    change ∃ t, execBwkActive s = .next t ∧ _
    unfold execBwkActive
    by_cases off : s.alarm.run = .configFault
    · exact ⟨_, if_pos (by simp [State.live, off]), by simp, fun _ => State.keepsBut_settle (by simp [State.KeepsBut]),
        fun on => absurd off on, fun on => absurd off on⟩
    dsimp only
    rw [if_neg (by simp [State.live, off])]
    split
    next entering =>
      have arrived := State.beginMatching_counters (s.modLines fun l => { l with bwk := true }).arrived
      refine ⟨_, rfl, by simp, fun not => absurd not (by simp [off, entering]), fun _ _ => ⟨by simpa [State.arrive_eq] using arrived.1,
        by simpa [State.arrive_eq] using arrived.2, State.keepsBut_settle ?frame, fun role => ?head, fun role a rest queued => ?queued,
        fun role none zero => ?untracked, fun role none waits => ?waits⟩, fun _ empty => by simp [entering] at empty⟩
      case frame =>
        exact ((State.Only.modLines s _ (by simp)).trans ((State.arrive_only _ (by simp [State.Scans, State.Books])
          (by simp)).trans (State.endIfQuiet_only _ (by simp)))).keepsBut
      case head =>
        obtain ⟨made, counter, -, -⟩ :=
          State.BoardMade.of_makeOwnBoard (s.modLines fun l => { l with bwk := true }).arrived none
        have eq := State.beginMatching_of_lineHead (s := (s.modLines fun l => { l with bwk := true }).arrived) role
        rw [State.arrive_eq, eq]
        exact ⟨made.of_work (by simp), by simpa using counter, by simp [State.arrived]⟩
      case queued =>
        obtain ⟨made, counter, -, -⟩ := State.BoardMade.of_makeMatched
          ((s.modLines fun l => { l with bwk := true }).arrived.modTrav fun t => { t with arrivals := rest }) a.traveller
        have eq := State.beginMatching_of_queued (s := (s.modLines fun l => { l with bwk := true }).arrived) role queued
        rw [State.arrive_eq, eq]
        exact ⟨by simp [State.arrived], by simpa using counter, made.of_work (by simp)⟩
      case untracked =>
        obtain ⟨made, counter, -, -⟩ :=
          State.BoardMade.of_makeOwnBoard (s.modLines fun l => { l with bwk := true }).arrived (some .untracked)
        have eq := (State.beginMatching_of_none (s := (s.modLines fun l => { l with bwk := true }).arrived) role none).trans
          (if_pos zero)
        rw [State.arrive_eq, eq]
        exact ⟨by simp [State.arrived], by simpa using counter, made.of_work (by simp)⟩
      case waits =>
        have eq := (State.beginMatching_of_none (s := (s.modLines fun l => { l with bwk := true }).arrived) role none).trans
          (if_neg waits)
        rw [State.arrive_eq, eq]
        exact ⟨by simp [State.arrived], by simp [State.arrived, State.header]⟩
    next empty =>
      obtain ⟨made, counter, accept, -⟩ :=
        State.BoardMade.of_makeOwnBoard (s.modLines fun l => { l with bwk := true }) (some .untracked)
      refine ⟨_, rfl, by simp, fun not => absurd not (by simp [off, empty]), fun _ entering => by simp [empty] at entering,
        fun _ _ => ⟨by simpa [State.makeUntracked_eq] using accept, by simp, by simpa [State.makeUntracked_eq] using counter, State.keepsBut_settle ?_,
          made.of_work (by simp; rfl)⟩⟩
      exact ((State.Only.modLines s _ (by simp)).trans (State.makeOwnBoard_only _ _ (by simp [State.Scans, State.Books]))).keepsBut
    next notEntering notEmpty =>
      exact ⟨_, rfl, by simp, fun _ => State.keepsBut_settle (by simp [State.KeepsBut]),
        fun _ entering => absurd entering notEntering, fun _ empty => absurd empty notEmpty⟩

end Sys2Proof.Machine
end

section
/-!
# Travellers and the hand-off (R129 to R132, R135, R137, R138)
-/
namespace Sys2Proof.Machine

/-- A value of two bytes reads back (R166). -/
theorem ofLe16_le16 {v : Nat} (fits : v ≤ 65535) : ofLe16 ((le16 v).getD 0 0) ((le16 v).getD 1 0) = v := by
  obtain ⟨lo, hi, eq, low, high⟩ := le16_toNat fits
  rw [eq]
  simp only [ofLe16, List.getD_cons_zero, List.getD_cons_succ, low, high]
  omega

theorem Frame.lostSerial_of_payload {f : Frame} {serial : Serial} (payload : f.payload = le16 serial.toNat) :
    f.lostSerial = serial := by
  unfold Frame.lostSerial
  rw [payload, ofLe16_le16 (by omega)]
  simp

namespace State
variable {s t u : State} {f : Frame} {rest : List Frame} {kind : Byte}

/-! ## Handing on (R175) -/

theorem handed_of (queue : s.link.rx = f :: rest) (handing : s.link.handing = true) (isKind : f.kind = kind) :
    s.handed kind = some f := by
  simp [State.handed, queue, handing, isKind]

theorem handed_eq_none (other : ∀ f rest, s.link.rx = f :: rest → s.link.handing = true → f.kind ≠ kind) :
    s.handed kind = none := by
  unfold State.handed
  split
  next handing =>
    cases queue : s.link.rx with
    | nil => rfl
    | cons f rest => simp [other f rest queue handing]
  next => rfl

theorem handDone_link (queue : s.link.rx = f :: rest) :
    s.handDone.link = { s.link with rx := rest, handing := !rest.isEmpty } := by
  simp [State.handDone, queue]

theorem handDone_only (s : State) {ps : List Part} (link : .link ∈ ps) : s.Only s.handDone ps := .modLink s _ link

/-- An operation after the handing on that leaves the link unit's rest alone. -/
theorem HandedOn.of_butSlot (queue : s.link.rx = f :: rest) (same : t.link.butSlot = s.handDone.link.butSlot) :
    s.HandedOn t rest := by
  unfold State.HandedOn
  rw [same, handDone_link queue]

/-! ## The hand-off watch (R137, R138) -/

theorem lostHere_iff (s : State) (f : Frame) : s.lostHere f = true ↔ s.alarm.run ≠ .configFault ∧
    s.ownAddr.map (· + 1) = some f.sender.toNat ∧ ∃ a, s.trav.release = some (f.lostSerial, a) := by
  simp [State.lostHere, live_iff, State.downAddr, and_assoc]

end State

/-- Settles O45: the hand-off's two ends, each a change of the watch and a raise. -/
theorem handoffsExpireOrAreLost : Obligations.HandoffsExpireOrAreLost := by
  intro s
  refine ⟨fun off => if_neg off, fun timing => ⟨_, if_pos timing, ?expires⟩, fun other => ?none, fun f rest queue handing kind => ?lost⟩
  case expires =>
    refine ⟨by simp, ?_, State.keepsBut_settle ?_⟩
    · simp only [State.settle_frame]
      exact State.raise_alarm_congr _ _ _ rfl rfl
    · exact ((State.Only.modTrav s _ (by simp)).trans (State.raise_only _ _ (by simp))).keepsBut
  case none =>
    change execLostReceive s = _
    unfold execLostReceive
    rw [State.handed_eq_none (kind := kindLost) (by exact other)]
  case lost =>
    have row : exec .lostReceive s = if s.lostHere f then
        s.finish ((s.handDone.modTrav fun t => { t with phase := .lost, timer := none }).raise
          { code := .boardLost, serial := some f.lostSerial, ordinal := none, active := false })
      else s.finish s.handDone := by
      change execLostReceive s = _
      unfold execLostReceive
      rw [State.handed_of queue handing (kind := kindLost) kind]
    rw [row]
    by_cases here : s.lostHere f = true
    · obtain ⟨on, down, a, release⟩ := (s.lostHere_iff f).1 here
      refine ⟨_, if_pos here, .of_butSlot queue (by simp), fun serial _ payload _ _ _ => ?_,
        fun not => absurd not (by simp [on, down, release]), fun serial other b payload held ne => ?_⟩
      · rw [Frame.lostSerial_of_payload payload]
        refine ⟨by simp, ?_, State.keepsBut_settle ?_⟩
        · simp only [State.settle_frame]
          exact State.raise_alarm_congr _ _ _ (by simp) (by simp)
        · exact ((s.handDone_only (by simp)).trans ((State.Only.modTrav _ _ (by simp)).trans
            (State.raise_only _ _ (by simp)))).keepsBut
      · rw [Frame.lostSerial_of_payload payload, held] at release
        simp only [Option.some.injEq, Prod.mk.injEq] at release
        exact absurd release.1 ne
    · have alone := State.keepsBut_settle (r := s) (s.handDone_only (ps := [.link]) (by simp)).keepsBut
      refine ⟨_, if_neg here, .of_butSlot queue (by simp), fun serial a payload on down release => absurd ?_ here,
        fun _ => alone, fun _ _ _ _ _ _ => alone⟩
      exact (s.lostHere_iff f).2 ⟨on, down, a, by rw [Frame.lostSerial_of_payload payload]; exact release⟩

/-! ## Expiry (R132) -/

/-- Settles O44: the serial's traveller goes, and LOST is queued where there is room. -/
theorem expiredTravellersAreReportedLost : Obligations.ExpiredTravellersAreReportedLost := by
  intro s serial
  refine ⟨fun none => if_neg (by simpa using none), fun queued => ⟨_, if_pos (by simpa using queued), ?_⟩⟩
  have filters : (fun a : Arrival => a.traveller.serial != serial) = fun a => decide (a.traveller.serial ≠ serial) := by
    funext a
    rw [Bool.eq_iff_iff]
    simp
  have gone := State.Only.modTrav (ps := [.trav, .link]) s (fun u =>
    { u with arrivals := u.arrivals.filter fun a => a.traveller.serial != serial, expiry := bump u.expiry }) (by simp)
  unfold State.expire
  dsimp only
  by_cases room : s.link.hasRoom = true
  · rw [if_pos room]
    refine ⟨by simp [filters], by simp, fun _ => ⟨by simp, by simp [State.queueFrame, State.ownByte, State.ownAddr, kindLost]⟩,
      fun full => absurd ((s.link.hasRoom_iff).1 room) (by omega), State.keepsBut_settle ?_⟩
    exact (gone.trans (.modLink _ _ (by simp))).keepsBut
  · rw [if_neg room]
    refine ⟨by simp [filters], by simp, fun short => absurd ((s.link.hasRoom_iff).2 short) room,
      fun _ => ⟨by simp, by simp⟩, State.keepsBut_settle ?_⟩
    exact (gone.trans (.modTrav _ _ (by simp))).keepsBut

/-! ## The release grant (R135) -/

theorem Board.outgoing_eq (b : Board) : b.outgoing = ⟨b.serial, b.reject, b.mask,
    (match b.ownStage with | none => b.stages | some g => (addStage b.stages b.dropped g).1),
    (match b.ownStage with | none => b.dropped | some g => (addStage b.stages b.dropped g).2)⟩ := by
  unfold Board.outgoing
  cases b.ownStage <;> rfl

namespace State
variable {s : State} {b : Board} {v : StatusView}

/-- A station with a fresh downstream peer has an address (R128). -/
theorem downAddr_of_fresh (fresh : s.freshDown = some v) : s.downAddr.getD 0 = s.ownAddr.getD 0 + 1 := by
  cases own : s.ownAddr with
  | none => simp [State.freshDown, State.downAddr, own] at fresh
  | some a => simp [State.downAddr, own]

theorem tryGrant_of_can (can : s.CanGrant b v) : s.tryGrant = s.grant b v.accept := by
  unfold State.tryGrant
  rw [grantable_iff.2 ⟨v, can, rfl⟩]

/-- The station with the traveller queued and the hand-off SENT (R135 steps 1 to 4). -/
def granting (s : State) (b : Board) (accept : BitVec 8) : State :=
  (s.queueFrame kindTraveller (byte (s.downAddr.getD 0)) (travellerBytes b.outgoing)).modTrav fun t =>
    { t with release := some (b.serial, accept), phase := .sent, timer := none }

theorem grant_eq (s : State) (b : Board) (accept : BitVec 8) : s.grant b accept = (s.granting b accept).releaseBoard := rfl

theorem granting_only (s : State) (b : Board) (accept : BitVec 8) {ps : List Part} (trav : .trav ∈ ps) (link : .link ∈ ps) :
    s.Only (s.granting b accept) ps := .trans (.modLink s _ link) (.modTrav _ _ trav)

end State

/-- Settles O42: the grant queues its frame, then releases the board. -/
theorem grantsSendTheTravellerAndRelease : Obligations.GrantsSendTheTravellerAndRelease := by
  intro s
  refine ⟨fun not => ?no, fun b v can => ?yes⟩
  case no =>
    have none : s.grantable = none := by
      by_contra some
      obtain ⟨⟨b, a⟩, h⟩ := Option.ne_none_iff_exists'.1 some
      obtain ⟨v, can, -⟩ := State.grantable_iff.1 h
      exact not ⟨b, v, can⟩
    change execReleaseGrant s = _
    unfold execReleaseGrant
    rw [none]
  case yes =>
    have row : exec .releaseGrant s = .next (s.settle (s.granting b v.accept).releaseBoard) := by
      change execReleaseGrant s = _
      unfold execReleaseGrant
      rw [State.grantable_iff.2 ⟨v, can, rfl⟩, State.tryGrant_of_can can]
      rfl
    have may : (s.granting b v.accept).MayStart := can.1
    obtain ⟨only, -, trav⟩ := State.releaseBoard_only_work may
    have address := State.downAddr_of_fresh can.2.2.2.2.1
    refine ⟨_, row, ⟨⟨s.ownByte, kindTraveller, byte (s.downAddr.getD 0), travellerBytes b.outgoing⟩, ?_, rfl, rfl,
      congrArg byte address, congrArg travellerBytes b.outgoing_eq⟩, ?_, ?_, State.keepsBut_settle ?_⟩
    · simp [State.granting, State.queueFrame]
    · simp only [State.settle_frame, trav]
      simp [State.granting]
    · exact (State.Released.of_releaseBoard may).of_work (by simp)
    · exact ((s.granting_only b v.accept (by simp) (by simp)).trans (only.mono (by simp))).keepsBut

/-! ## Arriving travellers (R129 to R131) -/

namespace State
variable {s : State} {v : Traveller} {f : Frame}

theorem foreign_iff (s : State) (f : Frame) :
    s.foreign f = true ↔ s.role = .lineHead ∨ s.ownAddr ≠ some (f.sender.toNat + 1) := by
  simp [State.foreign]

theorem arriveTraveller_of_duplicate (queued : ∃ a ∈ s.trav.arrivals, a.traveller.serial = v.serial) :
    s.arriveTraveller v = s.modTrav fun u => { u with duplicate := bump u.duplicate } :=
  if_pos (by simpa using queued)

theorem arriveTraveller_of_new (new : ∀ a ∈ s.trav.arrivals, a.traveller.serial ≠ v.serial) : s.arriveTraveller v =
    if Config.arrivalRoom ≤ s.trav.arrivals.length then
      (s.modTrav fun u => { u with overflow := bump u.overflow }).raise
        { code := .arrivalFull, serial := some v.serial, ordinal := none, active := false }
    else if s.trav.takeOpen then (s.modTrav fun u => { u with takeOpen := false }).makeMatched v
    else s.modTrav fun u => { u with arrivals := u.arrivals ++ [⟨v, 1000 * s.header.travExpiry⟩] } :=
  if_neg (by simpa using new)

theorem exec_travellerReceive_malformed {rest : List Frame} (queue : s.link.rx = f :: rest)
    (handing : s.link.handing = true) (kind : f.kind = kindTraveller) (on : s.alarm.run ≠ .configFault)
    (known : s.foreign f = false) (reads : travellerOfBytes f.payload = none) :
    exec .travellerReceive s =
      .next (s.settle (s.handDone.modTrav fun u => { u with malformed := bump u.malformed })) := by
  change execTravellerReceive s = _
  unfold execTravellerReceive
  rw [handed_of queue handing kind]
  dsimp only
  rw [if_neg (by simp [live_iff, on]), if_neg (by simp [known]), reads]
  rfl

theorem exec_travellerReceive_wellFormed {rest : List Frame} (queue : s.link.rx = f :: rest)
    (handing : s.link.handing = true) (kind : f.kind = kindTraveller) (on : s.alarm.run ≠ .configFault)
    (known : s.foreign f = false) (reads : travellerOfBytes f.payload = some v) :
    exec .travellerReceive s = .next (s.settle (s.handDone.arriveTraveller v)) := by
  change execTravellerReceive s = _
  unfold execTravellerReceive
  rw [handed_of queue handing kind]
  dsimp only
  rw [if_neg (by simp [live_iff, on]), if_neg (by simp [known]), reads]
  rfl

end State

/-- Settles O43: the tests in their order, each clause one branch. -/
theorem arrivingTravellersAreTested : Obligations.ArrivingTravellersAreTested := by
  intro s
  refine ⟨fun other => ?none, fun f rest queue handing kind => ?some⟩
  case none =>
    change execTravellerReceive s = _
    unfold execTravellerReceive
    rw [State.handed_eq_none (kind := kindTraveller) (by exact other)]
  case some =>
    have three : Config.arrivalRoom = 3 := rfl
    have gone := s.handDone_only (ps := [.trav, .link]) (by simp)
    have handedOn (u : State) (same : u.link.butSlot = s.handDone.link.butSlot) : s.HandedOn (s.settle u) rest :=
      .of_butSlot queue (by simpa using same)
    by_cases off : s.alarm.run = .configFault
    · have row : exec .travellerReceive s = .next (s.settle s.handDone) := by
        change execTravellerReceive s = _
        unfold execTravellerReceive
        rw [State.handed_of queue handing (kind := kindTraveller) kind]
        exact if_pos (by simp [State.live, off])
      exact ⟨_, row, handedOn _ rfl, fun _ => State.keepsBut_settle (s.handDone_only (by simp)).keepsBut,
        fun on => absurd off on⟩
    by_cases alien : s.role = .lineHead ∨ s.ownAddr ≠ some (f.sender.toNat + 1)
    · have row : exec .travellerReceive s =
          .next (s.settle (s.handDone.modTrav fun u => { u with foreign := bump u.foreign })) := by
        change execTravellerReceive s = _
        unfold execTravellerReceive
        rw [State.handed_of queue handing (kind := kindTraveller) kind]
        dsimp only
        rw [if_neg (by simp [State.live_iff, off]), if_pos ((s.foreign_iff f).2 alien)]
        rfl
      refine ⟨_, row, handedOn _ (by simp), fun on => absurd on off, fun _ => ⟨fun _ => ⟨by simp, State.keepsBut_settle ?_⟩,
        fun role own => absurd alien (by simp [role, own])⟩⟩
      exact (gone.trans (.modTrav _ _ (by simp))).keepsBut
    have known : s.foreign f = false := Bool.eq_false_iff.2 (mt (s.foreign_iff f).1 alien)
    cases reads : travellerOfBytes f.payload with
    | none =>
      refine ⟨_, State.exec_travellerReceive_malformed queue handing kind off known reads, handedOn _ (by simp), fun on => absurd on off, fun _ => ⟨fun not => absurd not alien, fun _ _ =>
        ⟨fun _ => ⟨by simp, State.keepsBut_settle ?_⟩, fun v same => by cases same⟩⟩⟩
      exact (gone.trans (.modTrav _ _ (by simp))).keepsBut
    | some v =>
      refine ⟨_, State.exec_travellerReceive_wellFormed queue handing kind off known reads, handedOn _ (by simp), fun on => absurd on off, fun _ => ⟨fun not => absurd not alien, fun _ _ =>
        ⟨fun no => (by cases no), fun w same => ?_⟩⟩⟩
      obtain rfl : v = w := Option.some.inj same
      refine ⟨fun queued => ?duplicate, fun new => ?new⟩
      case duplicate =>
        rw [State.arriveTraveller_of_duplicate (by simpa using queued)]
        exact ⟨by simp, State.keepsBut_settle (gone.trans (.modTrav _ _ (by simp))).keepsBut⟩
      case new =>
        rw [State.arriveTraveller_of_new (by simpa using new), three]
        refine ⟨fun full => ?_, fun room closed => ?_, fun room taking => ?_⟩
        · rw [if_pos (by simpa using full)]
          refine ⟨by simp, ?_, State.keepsBut_settle ?_⟩
          · simp only [State.settle_frame]
            exact State.raise_alarm_congr _ _ _ (by simp) (by simp)
          · exact ((s.handDone_only (by simp)).trans ((State.Only.modTrav _ _ (by simp)).trans
              (State.raise_only _ _ (by simp)))).keepsBut
        · rw [if_neg (by simpa using room), if_neg (by simp [closed])]
          exact ⟨by simp [State.header], State.keepsBut_settle (gone.trans (.modTrav _ _ (by simp))).keepsBut⟩
        · rw [if_neg (by simpa using room), if_pos (by simpa using taking)]
          obtain ⟨made, -⟩ := State.BoardMade.of_makeMatched (s.handDone.modTrav fun u => { u with takeOpen := false }) v
          refine ⟨by simp, made.of_work (by simp), State.keepsBut_settle ?_⟩
          exact ((s.handDone_only (by simp)).trans ((State.Only.modTrav _ _ (by simp)).trans
            (State.makeMatched_only _ _ (by simp [State.Scans, State.Books])))).keepsBut

end Sys2Proof.Machine
end

section
/-!
# Sending and the periodic rows of the link (R156, R159, R170 to R176)
-/
namespace Sys2Proof.Machine

namespace State
variable {s t u : State}

/-- A command that moves the link's own line at most announces no change. -/
theorem settle_link_of_line (hdr : t.hdr = s.hdr) (lines : ∃ b, t.lines = { s.lines with link := b })
    (work : t.work = s.work) (alarm : t.alarm = s.alarm) : (s.settle t).link = t.link := by
  obtain ⟨b, moved⟩ := lines
  have same : t.announced = s.announced :=
    announced_congr (s.modLines fun l => { l with link := b }) t hdr moved work alarm
  simp [settle_link, same]

theorem settle_modLink (s : State) (f : Link → Link) : (s.settle (s.modLink f)).link = f s.link :=
  settle_link_of_same s (s.modLink f) rfl rfl rfl rfl

theorem keepsBut_modLink (s : State) (f : Link → Link) : s.KeepsBut (s.settle (s.modLink f)) [.link] :=
  keepsBut_settle (Only.modLink s f (by simp)).keepsBut

/-! ## Monitors and the window -/

theorem raise_windowTimer (s : State) (r : Raise) : (s.raise r).alarm.windowTimer = s.alarm.windowTimer := by
  by_cases off : s.alarm.run = .configFault
  · rw [raise_of_configFault off]
  · rw [raise_alarm off, Alarm.take_eq]
    split <;> rfl

theorem evaluate_windowTimer (s : State) (id : MonitorId) (v : Nat) :
    (s.evaluate id v).alarm.windowTimer = s.alarm.windowTimer := by
  have counted : (s.counted id v).alarm.windowTimer = s.alarm.windowTimer := by simp [State.counted]
  rcases evaluate_cases s id v with h | h | h | ⟨-, h⟩
  · rw [h, counted]
  · rw [h, raise_windowTimer, counted]
  · rw [h]; exact counted
  · rw [h]

end State

/-- Settles O55: the frame taken is the STATUS of the present state, or the oldest queued. -/
theorem sendingTakesStatusFirst : Obligations.SendingTakesStatusFirst := by
  refine fun s idle => ⟨fun can => ⟨_, if_pos ((s.sendReady_iff _).2 can), ?_⟩, fun cannot =>
    if_neg (mt (s.sendReady_iff _).1 cannot)⟩
  have link := State.settle_link_of_line (s := s) (t := (s.modLines fun l => { l with link := true }).modLink fun l =>
    { l with sending := s.chosen, again := false, idle := max l.idle idle }) rfl ⟨true, rfl⟩ rfl rfl
  rw [link]
  refine ⟨by simp, rfl, fun due => ⟨s.statusFrame, ?_, rfl, rfl, rfl, ?_⟩, fun slot f rest queue => ?_,
    State.keepsBut_settle (by simp [State.KeepsBut])⟩
  · simp [State.chosen, due]
  · have flag : flagByte s.drivesStopline = if s.alarm.run = .alarm ∧ s.options.stopline = true then 1 else 0 := by
      unfold flagByte State.drivesStopline
      simp
    rw [← flag]
    rfl
  · simp [State.chosen, slot, queue]

/-! ## The end of a sending (R171, R172, R174) -/

namespace Link
variable {l : Link}

/-- A STATUS's collision: below the fourth its count grows, at the fourth the slot is given up (R172). -/
theorem retry_status (l : Link) : (l.retry true).tx = l.tx ∧ (l.retry true).queueRetry = l.queueRetry ∧
    (l.statusRetry < 3 → (l.retry true).statusRetry = l.statusRetry + 1 ∧ (l.retry true).due = l.due ∧
      (l.retry true).counters = l.counters) ∧
    (3 ≤ l.statusRetry → (l.retry true).statusRetry = 0 ∧ (l.retry true).due = false ∧
      (l.retry true).statusTimer = some l.period ∧
      (l.retry true).counters = { l.counters with droppedFrames := bump l.counters.droppedFrames }) := by
  have three : Config.maxRetries = 3 := rfl
  unfold Link.retry
  by_cases few : l.statusRetry < 3
  · simp [three, Nat.succ_le_of_lt few, few]
  · simp [three, few, Link.countDropped]

/-- A queued frame's collision: below the fourth its count grows, at the fourth it is dropped (R172). -/
theorem retry_queue (l : Link) : (l.retry false).due = l.due ∧ (l.retry false).statusRetry = l.statusRetry ∧
    (l.retry false).statusTimer = l.statusTimer ∧
    (l.queueRetry < 3 → (l.retry false).queueRetry = l.queueRetry + 1 ∧ (l.retry false).tx = l.tx ∧
      (l.retry false).counters = l.counters) ∧
    (3 ≤ l.queueRetry → (l.retry false).queueRetry = 0 ∧ (l.retry false).tx = l.tx.tail ∧
      (l.retry false).counters = { l.counters with droppedFrames := bump l.counters.droppedFrames }) := by
  have three : Config.maxRetries = 3 := rfl
  unfold Link.retry
  by_cases few : l.queueRetry < 3
  · simp [three, Nat.succ_le_of_lt few, few]
  · simp [three, few, Link.countDropped]

theorem retry_rest (l : Link) (status : Bool) : (l.retry status).sending = l.sending ∧
    (l.retry status).errors = l.errors ∧ (l.retry status).counters.collisions = l.counters.collisions := by
  unfold Link.retry Link.countDropped
  (repeat' split) <;> exact ⟨rfl, rfl, rfl⟩

end Link

/-- The link unit as a collision leaves it, before the retry is counted. -/
def Link.collided (l : Link) : Link := (l.fail fun c => { c with collisions := bump c.collisions }).quiet

/-- Settles O56: each end of a sending is one change of the link unit. -/
theorem sendingEndsInOneOfThreeWays : Obligations.SendingEndsInOneOfThreeWays := by
  refine fun s => ⟨fun quiet => ⟨if_neg (by simp [quiet]), ?collision, ?sent⟩, fun x sending => ⟨?lost, ?collides, ?sends⟩⟩
  case collision =>
    change execCollision s = _
    unfold execCollision
    rw [quiet]
  case sent =>
    change execFrameSent s = _
    unfold execFrameSent
    rw [quiet]
  case lost =>
    refine ⟨_, if_pos (by simp [sending]), State.keepsBut_modLink s _, ?_⟩
    rw [State.settle_modLink]
    rfl
  case collides =>
    have row : exec .collision s = .next (s.settle (s.modLink fun l =>
        { l.collided.retry x.status with own := false })) := by
      change execCollision s = _
      unfold execCollision
      rw [sending]
      rfl
    obtain ⟨quiet, errors, collisions⟩ := s.link.collided.retry_rest x.status
    refine ⟨_, row, State.keepsBut_modLink s _, ?_⟩
    rw [State.settle_modLink]
    refine ⟨quiet, errors, collisions, fun status => ?_, fun queued => ?_⟩
    · obtain ⟨tx, count, few, many⟩ := s.link.collided.retry_status
      rw [status]
      refine ⟨tx, count, fun short => ?_, fun long => ?_⟩
      · obtain ⟨retry, due, counters⟩ := few short
        exact ⟨retry, due, (congrArg LinkCounters.droppedFrames counters).trans rfl⟩
      · obtain ⟨retry, due, timer, counters⟩ := many long
        exact ⟨retry, due, timer, congrArg LinkCounters.droppedFrames counters⟩
    · obtain ⟨due, count, timer, few, many⟩ := s.link.collided.retry_queue
      rw [queued]
      refine ⟨due, count, timer, fun short => ?_, fun long => ?_⟩
      · obtain ⟨retry, tx, counters⟩ := few short
        exact ⟨retry, tx, (congrArg LinkCounters.droppedFrames counters).trans rfl⟩
      · obtain ⟨retry, tx, counters⟩ := many long
        exact ⟨retry, tx, congrArg LinkCounters.droppedFrames counters⟩
  case sends =>
    have row : exec .frameSent s = .next (s.settle (s.modLink fun l => l.sent x.status)) := by
      change execFrameSent s = _
      unfold execFrameSent
      rw [sending]
      rfl
    refine ⟨_, row, State.keepsBut_modLink s _, ?_⟩
    rw [State.settle_modLink]
    cases x.status
    · exact ⟨rfl, rfl, rfl, fun no => (by cases no), fun _ => ⟨rfl, rfl, rfl, rfl⟩⟩
    · exact ⟨rfl, rfl, rfl, fun _ => ⟨rfl, rfl, rfl, rfl, fun fresh => if_neg (by simp [fresh])⟩,
        fun no => (by cases no)⟩

/-! ## The periodic rows -/

/-- Settles O57: each row by its timer. -/
theorem periodicRowsActOnTheirTimers : Obligations.PeriodicRowsActOnTheirTimers := by
  refine fun s => ⟨fun none => if_neg (by simp [none]), fun runs => ⟨_, if_pos (Option.isSome_iff_ne_none.2 runs), ?window⟩,
    ⟨_, rfl, by simp [Config.flashTime], State.keepsBut_settle (by simp [State.KeepsBut])⟩, fun none => if_neg (by simp [none]),
    fun runs => ⟨_, if_pos (Option.isSome_iff_ne_none.2 runs), State.keepsBut_modLink s _, ?status⟩,
    fun a ends => if_neg ?ends, fun a notZero notLast => ⟨_, if_pos ((State.within_address a).2 ⟨notZero, notLast⟩),
      State.keepsBut_modLink s _, ?stale⟩, fun ready => ⟨_, if_pos ?ready, State.settle_modLink s _, State.keepsBut_modLink s _⟩,
    fun not => if_neg ?not⟩
  case window =>
    refine ⟨by simp, ?_, fun on => ?_, State.keepsBut_settle ?_⟩
    · simp only [State.settle_frame]
      rw [State.evaluate_windowTimer]
      rfl
    · have record := State.evaluate_monitor (s := (s.modLink fun l => { l with errors := 0 }).modAlarm fun a =>
        { a with windowTimer := some Config.windowTime }) (id := .m5) on s.link.errors
      have value := (congrArg Monitor.value record).trans (Monitor.after_value _ _ _)
      simpa [Alarm.monitor] using value
    · exact ((State.Only.modLink s _ (by simp)).trans ((State.Only.modAlarm _ _ (by rfl) (by simp)).trans
        (State.evaluate_only _ _ _ (by simp)))).keepsBut
  case status =>
    rw [State.settle_modLink]
    unfold Link.markDue
    refine ⟨fun f sending => by simp [sending], fun other => ?_⟩
    split
    next f sending => exact absurd sending (other f)
    next => rfl
  case ends => rcases ends with rfl | rfl <;> decide
  case stale =>
    have inside := (State.within_address a).2 ⟨notZero, notLast⟩
    rw [State.settle_modLink]
    refine ⟨rfl, fun p peer => ?_, fun b other => ?_⟩
    · unfold Link.peer at peer ⊢
      rw [if_pos inside] at peer ⊢
      simp [Link.stale, peer]
    · unfold Link.peer
      split
      next range =>
        simp only [within, Bool.and_eq_true, decide_eq_true_eq] at range inside
        simp only [Link.stale]
        have apart : a.toNat - 1 ≠ b - 1 := by omega
        rw [List.getElem?_modify_ne _ _ apart]
      next => rfl
  case ready => simpa [State.handingReady, Option.isSome_iff_ne_none, and_assoc] using ready
  case not => simpa [State.handingReady, Option.isSome_iff_ne_none, and_assoc] using not

end Sys2Proof.Machine
end

section
/-!
# Characters and frames heard (R165, R167, R168)
-/
namespace Sys2Proof.Machine

theorem sumsToZero_iff (bytes : List Byte) : sumsToZero bytes = true ↔ byteSum bytes % 256 = 0 := by
  simp [sumsToZero]

/-- A complete run of bytes is a frame's (R166). -/
theorem frameOfBytes_of_complete {bytes : List Byte} (complete : frameComplete bytes = true) :
    ∃ f, frameOfBytes bytes = some f := by
  match bytes with
  | [] | [_] | [_, _] | [_, _, _] => simp [frameComplete] at complete
  | s :: k :: d :: n :: rest => exact ⟨_, rfl⟩

namespace State
variable {s t u : State} {f : Frame} {bytes : List Byte} {ps : List Part}

/-! ## The tests of a frame (R168) -/

/-- A frame for this station's use: a STATUS or LOST to all, a TRAVELLER to it, a tool's QUERY or REMOTE to it. -/
def InUse (s : State) (f : Frame) : Prop :=
  (f.kind = 1 ∧ f.dest = 0 ∧ f.sender.toNat ≤ 30) ∨ (f.kind = 3 ∧ f.dest = 0) ∨
    (f.kind = 2 ∧ s.ownAddr = some f.dest.toNat) ∨
    ((f.kind = 4 ∨ f.kind = 6) ∧ f.sender = 31 ∧ s.ownAddr = some f.dest.toNat)

theorem uses_iff (sender : f.sender ≠ 0) : s.uses f = true ↔ s.InUse f := by
  have positive : 1 ≤ f.sender.toNat :=
    Nat.one_le_iff_ne_zero.2 fun zero => sender (BitVec.eq_of_toNat_eq (by simpa using zero))
  unfold State.uses InUse kindStatus kindTraveller kindLost kindQuery kindRemote toolAddr within
  by_cases one : f.kind = 1
  · simp [one, positive]
  · by_cases three : f.kind = 3
    · simp [three]
    · by_cases two : f.kind = 2
      · simp [two]
      · by_cases tool : f.kind = 4 ∨ f.kind = 6
        · rcases tool with h | h <;> simp [h]
        · rw [if_neg one, if_neg three, if_neg two, if_neg tool]
          simp only [Bool.false_eq_true, false_iff]
          tauto

theorem testFrame_of_own (s : State) (bytes : List Byte) : s.testFrame true bytes = s := if_pos rfl

theorem testFrame_of_bad_sum (sum : byteSum bytes % 256 ≠ 0) : s.testFrame false bytes =
    s.modLink fun l => l.fail fun c => { c with checkErrors := bump c.checkErrors } := by
  unfold State.testFrame
  rw [if_neg (by simp), if_pos (Bool.eq_false_iff.2 (mt (sumsToZero_iff bytes).1 sum))]

theorem testFrame_of_good_sum (sum : byteSum bytes % 256 = 0) (reads : frameOfBytes bytes = some f) :
    s.testFrame false bytes = s.testContents f := by
  unfold State.testFrame
  rw [if_neg (by simp), if_neg (by simp [(sumsToZero_iff bytes).2 sum]), reads]

theorem testContents_of_bad_structure (bad : f.sender = 0 ∨ lengthAllowed f.kind f.payload.length = false) :
    s.testContents f = s.modLink fun l => l.fail fun c => { c with structureErrors := bump c.structureErrors } :=
  if_pos bad

/-- The station as a frame under its own address is counted (R168 test 4). -/
def clashed (s : State) : State :=
  s.modLink fun l => { l with counters := { l.counters with clashFrames := bump l.counters.clashFrames } }

theorem testContents_of_clash (sender : f.sender ≠ 0) (length : lengthAllowed f.kind f.payload.length = true)
    (own : s.ownAddr = some f.sender.toNat) : s.testContents f = s.clashed.raise ⟨.addressClash, none, none, false⟩ := by
  unfold State.testContents
  rw [if_neg (by rintro (zero | bad) <;> simp_all), if_pos own]
  rfl

theorem testContents_of_other (sender : f.sender ≠ 0) (length : lengthAllowed f.kind f.payload.length = true)
    (other : s.ownAddr ≠ some f.sender.toNat) :
    s.testContents f = if s.uses f then s.modLink fun l => l.join f else s := by
  unfold State.testContents
  rw [if_neg (by rintro (zero | bad) <;> simp_all), if_neg other]

theorem join_of_room {l : Link} (room : l.rx.length < 4) (f : Frame) : l.join f = { l with rx := l.rx ++ [f] } := if_pos room

theorem join_of_full {l : Link} (full : 4 ≤ l.rx.length) (f : Frame) :
    l.join f = l.fail fun c => { c with receiveOverruns := bump c.receiveOverruns } := if_neg (not_lt.2 full)

theorem testFrame_only (s : State) (own : Bool) (bytes : List Byte) (alarm : .alarm ∈ ps) (link : .link ∈ ps) :
    s.Only (s.testFrame own bytes) ps := by
  unfold State.testFrame
  refine .ite (fun _ => .refl s ps) fun _ => .ite (fun _ => .modLink s _ link) fun _ => ?_
  split
  · unfold State.testContents
    exact .ite (fun _ => .modLink s _ link) fun _ => .ite (fun _ => (Only.modLink s _ link).trans (raise_only _ _ alarm))
      fun _ => .ite (fun _ => .modLink s _ link) fun _ => .refl s ps
  · exact .refl s ps

end State

/-- What of the link unit no test of a frame touches: the receiver, the idle count and the assembly. -/
def Link.receiver (l : Link) : Bool × Nat × Assembly := (l.inCharacter, l.idle, l.assembly)

theorem Link.receiver_congr {l m : Link} (same : l.butSlot = m.butSlot) : l.receiver = m.receiver :=
  (congrArg Link.receiver same : l.butSlot.receiver = m.butSlot.receiver)

theorem Link.join_receiver (l : Link) (f : Frame) : (l.join f).receiver = l.receiver := by
  unfold Link.join
  split <;> rfl

namespace State
variable {s t u : State} {bytes : List Byte}

theorem testFrame_receiver (s : State) (own : Bool) (bytes : List Byte) :
    (s.testFrame own bytes).link.receiver = s.link.receiver := by
  unfold State.testFrame
  split
  · rfl
  · split
    · rfl
    · split
      next f =>
        unfold State.testContents
        split
        · rfl
        · split
          · exact Link.receiver_congr (m := s.clashed.link) (by simp [State.clashed])
          · split
            · exact Link.join_receiver _ _
            · rfl
      next => rfl

theorem settle_receiver (s t : State) : (s.settle t).link.receiver = t.link.receiver :=
  Link.receiver_congr (by simp)

/-! ## The end of a character (R165, R167) -/

theorem sampling_iff (s : State) : s.sampling = true ↔ s.reader.straps ≠ none ∧ s.link.inCharacter = true := by
  simp [State.sampling, State.released, Option.isSome_iff_ne_none]

/-- The three rows at which a character ends have one meaning (log entry 8). -/
theorem exec_character {ch : Character} {c : Instr}
    (row : c = Instr.goodCharacter ch ∨ c = .frameBroken ch ∨ c = .frameReceived ch) :
    exec c s = if s.sampling then .next (s.settle (s.characterEnds ch)) else .next s := by
  rcases row with rfl | rfl | rfl <;> rfl

/-- The station at the end of a character, before assembly takes it (R165). -/
def hunting (s : State) (stop : Bool) : State :=
  (s.modLines fun l => { l with link := stop }).modLink fun l => { l with inCharacter := false, idle := 0, idlePart := 0 }

theorem characterEnds_of_good {ch : Character} (good : characterEnd ch = .good) :
    s.characterEnds ch = (s.hunting ch.stop).takeByte ch.data := by
  unfold State.characterEnds
  rw [good]
  rfl

theorem characterEnds_of_bad {ch : Character} (bad : characterEnd ch ≠ .good) :
    s.characterEnds ch = (s.hunting ch.stop).takeBroken := by
  unfold State.characterEnds
  split
  next good => exact absurd good bad
  next => rfl

theorem takeBroken_of_skipping (skipping : s.link.assembly = .skipping) : s.takeBroken = s := by
  unfold State.takeBroken
  rw [skipping]

theorem takeBroken_of_frame (frame : s.link.assembly ≠ .skipping) : s.takeBroken =
    s.modLink fun l => l.discard fun c => { c with characterErrors := bump c.characterErrors } := by
  unfold State.takeBroken
  split
  next skipping => exact absurd skipping frame
  next => rfl

theorem takeByte_of_between (between : s.link.assembly = .between) (b : Byte) : s.takeByte b =
    s.modLink fun l => { l with assembly := .assembling [b], own := l.sending.isSome } := by
  unfold State.takeByte
  rw [between]

theorem takeByte_of_skipping (skipping : s.link.assembly = .skipping) (b : Byte) : s.takeByte b = s := by
  unfold State.takeByte
  rw [skipping]

theorem takeByte_of_long (frame : s.link.assembly = .assembling bytes) {b : Byte}
    (long : bytes.length = 3 ∧ 200 < b.toNat) :
    s.takeByte b = s.modLink fun l => l.discard fun c => { c with lengthErrors := bump c.lengthErrors } := by
  unfold State.takeByte
  rw [frame]
  exact if_pos long

theorem takeByte_of_part (frame : s.link.assembly = .assembling bytes) {b : Byte}
    (fits : ¬(bytes.length = 3 ∧ 200 < b.toNat)) (part : frameComplete (bytes ++ [b]) = false) :
    s.takeByte b = s.modLink fun l => { l with assembly := .assembling (bytes ++ [b]) } := by
  unfold State.takeByte
  rw [frame]
  exact (if_neg fits).trans (if_neg (by simp [part]))

theorem takeByte_of_whole (frame : s.link.assembly = .assembling bytes) {b : Byte}
    (fits : ¬(bytes.length = 3 ∧ 200 < b.toNat)) (whole : frameComplete (bytes ++ [b]) = true) :
    s.takeByte b =
      (s.modLink fun l => { l with assembly := .between, own := false }).testFrame s.link.own (bytes ++ [b]) := by
  unfold State.takeByte
  rw [frame]
  exact (if_neg fits).trans (if_pos whole)

/-- The whole frame is tested where the end of its last character has left the station. -/
theorem hunting_takeByte_of_whole {ch : Character} (frame : s.link.assembly = .assembling bytes)
    (fits : ¬(bytes.length = 3 ∧ 200 < ch.data.toNat)) (whole : frameComplete (bytes ++ [ch.data]) = true) :
    (s.hunting ch.stop).takeByte ch.data = (s.atFrameEnd ch.stop).testFrame s.link.own (bytes ++ [ch.data]) :=
  takeByte_of_whole (s := s.hunting ch.stop) frame fits whole

/-- A change of the link unit beside the line's own level, as a command's end leaves it. -/
theorem settle_hunting (s : State) (stop : Bool) (g : Link → Link) :
    (s.settle ((s.hunting stop).modLink g)).link = g (s.hunting stop).link ∧
      (s.settle ((s.hunting stop).modLink g)).lines = { s.lines with link := stop } ∧
      s.KeepsBut (s.settle ((s.hunting stop).modLink g)) [.lines, .link] :=
  ⟨settle_link_of_line rfl ⟨stop, rfl⟩ rfl rfl, by simp [State.hunting], keepsBut_settle (by simp [State.KeepsBut, State.hunting])⟩

end State

/-- Settles O53: each state of the assembly is one clause. -/
theorem charactersBuildFrames : Obligations.CharactersBuildFrames := by
  intro s
  have receptive : (s.released && !s.link.inCharacter) = true ↔ s.reader.straps ≠ none ∧ s.link.inCharacter = false := by
    simp [State.released, Option.isSome_iff_ne_none]
  refine ⟨fun shut => ?shut, fun straps hunt => ⟨⟨_, if_pos (receptive.2 ⟨straps, hunt⟩), ?start⟩,
    ⟨_, if_pos (receptive.2 ⟨straps, hunt⟩), ?gap⟩⟩, fun ch c row => ⟨fun idle => ?idle, fun straps sampling => ?ends⟩⟩
  case shut =>
    have unready : ¬(s.released && !s.link.inCharacter) = true := fun ready => by
      obtain ⟨straps, hunt⟩ := receptive.1 ready
      rcases shut with h | h
      · exact straps h
      · simp [hunt] at h
    exact ⟨if_neg unready, if_neg unready⟩
  case start =>
    have link := State.settle_link_of_line (s := s) (t := (s.modLines fun l => { l with link := false }).modLink fun l =>
      { l with inCharacter := true, idle := 0, idlePart := 0 }) rfl ⟨false, rfl⟩ rfl rfl
    exact ⟨by simp, link, State.keepsBut_settle (by simp [State.KeepsBut])⟩
  case gap =>
    have link := State.settle_link_of_line (s := s) (t := (s.modLines fun l => { l with link := true }).modLink fun l =>
      { l with idle := max l.idle (Config.gapLimit + 1) }.gap) rfl ⟨true, rfl⟩ rfl rfl
    rw [link]
    refine ⟨by simp, State.keepsBut_settle (by simp [State.KeepsBut]), fun between => ?_, fun skipping => ?_,
      fun bytes frame => ?_⟩
    · simp [Link.gap, between, Config.gapLimit]
    · simp [Link.gap, skipping, Config.gapLimit]
    · simp [Link.gap, frame, Config.gapLimit, Link.fail]
  case idle =>
    rw [State.exec_character row, if_neg]
    rw [State.sampling_iff]
    rintro ⟨straps, sampling⟩
    rcases idle with h | h
    · exact straps h
    · simp [sampling] at h
  case ends =>
    rw [State.exec_character row, if_pos ((s.sampling_iff).2 ⟨straps, sampling⟩)]
    have still := s.settle_hunting ch.stop id
    have stillIs : (s.hunting ch.stop).modLink id = s.hunting ch.stop := rfl
    rw [stillIs] at still
    by_cases good : characterEnd ch = .good
    · rw [State.characterEnds_of_good good]
      cases assembly : s.link.assembly with
      | between =>
        obtain ⟨link, lines, frame⟩ := s.settle_hunting ch.stop fun l =>
          { l with assembly := .assembling [ch.data], own := l.sending.isSome }
        rw [State.takeByte_of_between (by exact assembly)]
        exact ⟨_, rfl, lines, by rw [link]; rfl, by rw [link]; rfl, fun no => (by cases no), fun _ not => absurd good not,
          fun _ _ => ⟨link, frame⟩, fun bytes no => (by cases no)⟩
      | skipping =>
        obtain ⟨link, lines, frame⟩ := still
        rw [State.takeByte_of_skipping (by exact assembly)]
        exact ⟨_, rfl, lines, by rw [link]; rfl, by rw [link]; rfl, fun _ => ⟨link, frame⟩, fun no => absurd rfl no,
          fun no => (by cases no), fun bytes no => (by cases no)⟩
      | assembling bytes =>
        by_cases long : bytes.length = 3 ∧ 200 < ch.data.toNat
        · obtain ⟨link, lines, frame⟩ := s.settle_hunting ch.stop fun l =>
            l.discard fun c => { c with lengthErrors := bump c.lengthErrors }
          rw [State.takeByte_of_long (by exact assembly) long]
          refine ⟨_, rfl, lines, by rw [link]; rfl, by rw [link]; rfl, fun no => (by cases no), fun _ not => absurd good not,
            fun no => (by cases no), fun bytes' same _ => ?_⟩
          cases same
          exact ⟨fun _ _ => ⟨link, frame⟩, fun not => absurd long not, fun not => absurd long not⟩
        cases whole : frameComplete (bytes ++ [ch.data])
        · obtain ⟨link, lines, frame⟩ := s.settle_hunting ch.stop fun l =>
            { l with assembly := .assembling (bytes ++ [ch.data]) }
          rw [State.takeByte_of_part (by exact assembly) long whole]
          refine ⟨_, rfl, lines, by rw [link]; rfl, by rw [link]; rfl, fun no => (by cases no), fun _ not => absurd good not,
            fun no => (by cases no), fun bytes' same _ => ?_⟩
          cases same
          exact ⟨fun three big => absurd ⟨three, big⟩ long, fun _ _ => ⟨link, frame⟩, fun _ yes => by simp [whole] at yes⟩
        · rw [State.hunting_takeByte_of_whole assembly long whole]
          have receiver := (s.settle_receiver ((s.atFrameEnd ch.stop).testFrame s.link.own (bytes ++ [ch.data]))).trans
            (State.testFrame_receiver _ _ _)
          simp only [Link.receiver, Prod.mk.injEq] at receiver
          obtain ⟨hunts, zero, between⟩ := receiver
          refine ⟨_, rfl, by simp [State.atFrameEnd], hunts, zero, fun no => (by cases no), fun _ not => absurd good not,
            fun no => (by cases no), fun bytes' same _ => ?_⟩
          cases same
          refine ⟨fun three big => absurd ⟨three, big⟩ long, fun _ no => by simp [whole] at no, fun _ _ =>
            ⟨between, State.keepsBut_settle ?_, fun u eq => by subst eq; simp⟩⟩
          have ended : s.Only (s.atFrameEnd ch.stop) [.lines, .alarm, .link] :=
            (State.Only.modLines s (fun l => { l with link := ch.stop }) (by simp)).trans (.modLink _ (fun l =>
              { l with inCharacter := false, idle := 0, idlePart := 0, assembly := .between, own := false }) (by simp))
          exact (ended.trans (State.testFrame_only _ _ _ (by simp) (by simp))).keepsBut
    · rw [State.characterEnds_of_bad good]
      by_cases skipping : s.link.assembly = .skipping
      · obtain ⟨link, lines, frame⟩ := still
        rw [State.takeBroken_of_skipping (by exact skipping)]
        exact ⟨_, rfl, lines, by rw [link]; rfl, by rw [link]; rfl, fun _ => ⟨link, frame⟩, fun not => absurd skipping not,
          fun no => by simp [skipping] at no, fun bytes no => by simp [skipping] at no⟩
      · obtain ⟨link, lines, frame⟩ := s.settle_hunting ch.stop fun l =>
          l.discard fun c => { c with characterErrors := bump c.characterErrors }
        rw [State.takeBroken_of_frame (by exact skipping)]
        exact ⟨_, rfl, lines, by rw [link]; rfl, by rw [link]; rfl, fun no => absurd no skipping, fun _ _ => ⟨link, frame⟩,
          fun _ yes => absurd yes good, fun bytes _ yes => absurd yes good⟩

end Sys2Proof.Machine
end

section
/-!
# Whole frames heard, and the peer table (R168, R175, R176)
-/
namespace Sys2Proof.Machine

/-- Settles O54: the row by the character that ends, the tests each by its branch. -/
theorem completeFramesAreTested : Obligations.CompleteFramesAreTested := by
  refine ⟨fun s ch bytes straps sampling good frame fits whole => ?row, fun s own bytes f reads =>
    ⟨fun same => ?own, fun other sum => ?sum, fun other sum => ⟨fun bad => ?misformed, fun sender length =>
      ⟨fun clash => ?clash, fun apart => ⟨fun unused => ?unused, fun used => ⟨fun room => ?joins, fun full => ?overrun⟩⟩⟩⟩⟩⟩
  case row =>
    obtain ⟨-, -, ends⟩ := charactersBuildFrames s
    obtain ⟨t, row, lines, -, -, -, -, -, assembling⟩ := (ends ch _ (.inr (.inr rfl))).2 straps sampling
    obtain ⟨-, kept, tested⟩ := (assembling bytes frame good).2.2 fits whole
    obtain ⟨f, reads⟩ := frameOfBytes_of_complete whole
    obtain ⟨link, alarm⟩ := tested _ rfl
    exact ⟨t, f, _, row, reads, rfl, lines, link, alarm, kept⟩
  case own => rw [same, State.testFrame_of_own]
  case sum =>
    rw [other, State.testFrame_of_bad_sum sum]
    exact ⟨rfl, rfl⟩
  all_goals rw [other, State.testFrame_of_good_sum sum reads]
  case misformed =>
    rw [State.testContents_of_bad_structure bad]
    exact ⟨rfl, rfl⟩
  case clash =>
    rw [State.testContents_of_clash sender length clash]
    exact ⟨by simp [State.clashed], State.raise_alarm_congr _ _ _ (by simp [State.clashed]) (by simp [State.clashed])⟩
  case unused =>
    rw [State.testContents_of_other sender length apart, if_neg (mt (State.uses_iff sender).1 unused)]
  case joins =>
    rw [State.testContents_of_other sender length apart, if_pos ((State.uses_iff sender).2 used)]
    exact State.join_of_room room f
  case overrun =>
    rw [State.testContents_of_other sender length apart, if_pos ((State.uses_iff sender).2 used)]
    exact State.join_of_full full f

/-! ## Hearing a whole frame -/

/-- From `s` to `u` a station has heard the bytes `p` of a frame that another station sends. -/
def State.Hearing (s u : State) (p : List Byte) : Prop :=
  s.KeepsBut u [.lines, .link] ∧
    ∃ idle idlePart, u.link = { s.link with
      inCharacter := false
      idle := idle
      idlePart := idlePart
      assembly := .assembling p
      own := false }

namespace State
variable {s t u : State} {f : Frame} {p : List Byte}

theorem KeepsBut.trans_line (first : s.KeepsBut t [.lines, .link]) (second : t.KeepsBut u [.lines, .link]) :
    s.KeepsBut u [.lines, .link] := by
  have only {a b : State} (kept : a.KeepsBut b [.lines, .link]) : a.Only b [.lines, .link] := by
    refine ⟨kept, fun running => ?_⟩
    obtain ⟨-, -, -, -, -, -, -, -, -, -, -, alarm, -⟩ := kept
    have same : b.alarm = a.alarm := by simpa using alarm
    rwa [← same]
  exact ((only first).trans (only second)).keepsBut

/-- One byte is heard as a valid start and a good character. -/
theorem hears_cons {b : Byte} {bs : List Byte} {v w : State} (start : exec .validStart u = .next v)
    (character : exec (.goodCharacter (goodCharacterOf b)) v = .next w) : u.hears (b :: bs) = w.hears bs := by
  simp only [State.hears, start, character]

/-- A valid start, with the receiver in HUNT (R165). -/
theorem validStart_heard (straps : u.reader.straps.isSome = true) (hunt : u.link.inCharacter = false) :
    ∃ v, exec .validStart u = .next v ∧ u.KeepsBut v [.lines, .link] ∧
      v.link = { u.link with inCharacter := true, idle := 0, idlePart := 0 } := by
  obtain ⟨-, hunting, -⟩ := charactersBuildFrames u
  obtain ⟨⟨v, row, -, link, kept⟩, -⟩ := hunting (Option.isSome_iff_ne_none.1 straps) hunt
  exact ⟨v, row, kept, link⟩

theorem KeepsBut.reader_of_line (kept : s.KeepsBut t [.lines, .link]) : t.reader = s.reader := by
  obtain ⟨-, -, -, -, reader, -⟩ := kept
  simpa using reader

/-- The first byte of a frame is heard (R167). -/
theorem hears_first (straps : s.reader.straps.isSome = true) (hunt : s.link.inCharacter = false)
    (between : s.link.assembly = .between) (quiet : s.link.sending = none) (b : Byte) (bs : List Byte) :
    ∃ u, s.hears (b :: bs) = u.hears bs ∧ s.Hearing u [b] := by
  obtain ⟨v, start, kept, link⟩ := validStart_heard straps hunt
  obtain ⟨-, -, ends⟩ := charactersBuildFrames v
  have released : v.reader.straps ≠ none := by
    rw [kept.reader_of_line]
    exact Option.isSome_iff_ne_none.1 straps
  obtain ⟨w, row, -, -, -, -, -, begins, -⟩ :=
    (ends (goodCharacterOf b) _ (.inl rfl)).2 released (by rw [link])
  obtain ⟨link', kept'⟩ := begins (by rw [link]; exact between) (characterEnd_goodCharacterOf b)
  refine ⟨w, hears_cons start row, kept.trans_line kept', 0, 0, by rw [link', link, quiet]; rfl⟩

/-- A byte inside a frame is heard (R167). -/
theorem hears_inside (straps : s.reader.straps.isSome = true)
    (hearing : s.Hearing u p) {b : Byte} (fits : ¬(p.length = 3 ∧ 200 < b.toNat))
    (part : frameComplete (p ++ [b]) = false) (bs : List Byte) :
    ∃ w, u.hears (b :: bs) = w.hears bs ∧ s.Hearing w (p ++ [b]) := by
  obtain ⟨kept₀, idle₀, part₀, link₀⟩ := hearing
  have reader := kept₀.reader_of_line
  obtain ⟨v, start, kept, link⟩ := validStart_heard (by rw [reader]; exact straps) (by rw [link₀])
  obtain ⟨-, -, ends⟩ := charactersBuildFrames v
  have released : v.reader.straps ≠ none := by
    rw [kept.reader_of_line, reader]
    exact Option.isSome_iff_ne_none.1 straps
  obtain ⟨w, row, -, -, -, -, -, -, goesOn⟩ :=
    (ends (goodCharacterOf b) _ (.inl rfl)).2 released (by rw [link])
  obtain ⟨link', kept'⟩ := (goesOn p (by rw [link, link₀]) (characterEnd_goodCharacterOf b)).2.1 fits part
  refine ⟨w, hears_cons start row, (kept₀.trans_line kept).trans_line kept', 0, 0, by rw [link', link, link₀]; rfl⟩

/-- The last byte of a frame in use is heard: the frame joins the receive queue (R168, R175). -/
theorem hears_last (straps : s.reader.straps.isSome = true)
    (hearing : s.Hearing u p) {b : Byte} (fits : ¬(p.length = 3 ∧ 200 < b.toNat)) (bytes : p ++ [b] = f.bytes)
    (whole : frameComplete (p ++ [b]) = true) (room : s.link.rx.length < 4) (sender : f.sender ≠ 0)
    (length : lengthAllowed f.kind f.payload.length = true) (other : s.ownAddr ≠ some f.sender.toNat)
    (uses : s.uses f = true) :
    ∃ t, u.hears [b] = some t ∧ t.link.rx = s.link.rx ++ [f] ∧ t.link.assembly = .between ∧
      t.link.errors = s.link.errors ∧ t.link.counters = s.link.counters ∧ s.KeepsBut t [.lines, .link] := by
  obtain ⟨kept₀, idle₀, part₀, link₀⟩ := hearing
  have reader := kept₀.reader_of_line
  obtain ⟨v, start, kept, link⟩ := validStart_heard (by rw [reader]; exact straps) (by rw [link₀])
  have reader' := kept.reader_of_line.trans reader
  obtain ⟨-, -, ends⟩ := charactersBuildFrames v
  have released : v.reader.straps ≠ none := by
    rw [reader']
    exact Option.isSome_iff_ne_none.1 straps
  obtain ⟨w, row, -, -, -, -, -, -, goesOn⟩ :=
    (ends (goodCharacterOf b) _ (.inl rfl)).2 released (by rw [link])
  obtain ⟨between, kept', tested⟩ := (goesOn p (by rw [link, link₀]) (characterEnd_goodCharacterOf b)).2.2 fits whole
  have own : v.link.own = false := by rw [link, link₀]
  have joined : (v.atFrameEnd (goodCharacterOf b).stop).testFrame v.link.own (p ++ [b]) =
      (v.atFrameEnd (goodCharacterOf b).stop).modLink fun l => { l with rx := l.rx ++ [f] } := by
    have ownAddr : (v.atFrameEnd (goodCharacterOf b).stop).ownAddr = s.ownAddr := by
      change v.reader.straps.bind _ = s.reader.straps.bind _
      rw [reader']
    have used : (v.atFrameEnd (goodCharacterOf b).stop).uses f = true := by
      unfold State.uses
      rw [ownAddr]
      exact uses
    have space : (v.atFrameEnd (goodCharacterOf b).stop).link.rx.length < 4 := by
      change v.link.rx.length < 4
      rw [link, link₀]
      exact room
    have sum : byteSum f.bytes % 256 = 0 := byteSum_concat_checkByte f.head
    rw [own, bytes, testFrame_of_good_sum sum (frameOfBytes_bytes f),
      testContents_of_other sender length (by rw [ownAddr]; exact other), if_pos used]
    exact congrArg (fun l => { v.atFrameEnd (goodCharacterOf b).stop with link := l }) (join_of_room space f)
  obtain ⟨slot, alarm⟩ := tested _ joined.symm
  have queue : w.link.rx = s.link.rx ++ [f] ∧ w.link.errors = s.link.errors ∧ w.link.counters = s.link.counters := by
    have rx := congrArg Link.rx slot
    have errors := congrArg Link.errors slot
    have counters := congrArg Link.counters slot
    simp only [Link.butSlot, State.modLink, State.atFrameEnd] at rx errors counters
    rw [rx, errors, counters, link, link₀]
    exact ⟨rfl, rfl, rfl⟩
  have line : v.KeepsBut w [.lines, .link] := by
    obtain ⟨pending, now, hdr, lines, reader, verifier, tape, table, head, work, trav, -, link⟩ := kept'
    exact ⟨pending, now, hdr, .inl (by simp), by simpa using reader, by simpa using verifier, by simpa using tape,
      by simpa using table, by simpa using head, by simpa using work, by simpa using trav, .inr alarm, .inl (by simp)⟩
  exact ⟨w, by rw [hears_cons start row]; rfl, queue.1, between, queue.2.1, queue.2.2,
    (kept₀.trans_line kept).trans_line line⟩

/-- The rest of a frame in use is heard. -/
theorem hears_rest (straps : s.reader.straps.isSome = true)
    (payload : f.payload.length ≤ 200) (room : s.link.rx.length < 4) (sender : f.sender ≠ 0)
    (length : lengthAllowed f.kind f.payload.length = true) (other : s.ownAddr ≠ some f.sender.toNat)
    (uses : s.uses f = true) (b : Byte) (bs : List Byte) (hearing : s.Hearing u p) (bytes : p ++ b :: bs = f.bytes) :
    ∃ t, u.hears (b :: bs) = some t ∧ t.link.rx = s.link.rx ++ [f] ∧ t.link.assembly = .between ∧
      t.link.errors = s.link.errors ∧ t.link.counters = s.link.counters ∧ s.KeepsBut t [.lines, .link] := by
  have fits (p : List Byte) (b : Byte) (bs : List Byte) (bytes : p ++ b :: bs = f.bytes) :
      ¬(p.length = 3 ∧ 200 < b.toNat) := by
    rintro ⟨three, big⟩
    have fourth : f.bytes[3]? = some b := by rw [← bytes, ← three]; simp
    rw [Frame.bytes_eq] at fourth
    simp only [List.getElem?_cons_succ, List.getElem?_cons_zero, Option.some.injEq] at fourth
    rw [← fourth, byte_toNat_of_lt (by omega)] at big
    omega
  have complete (p : List Byte) (b : Byte) (bs : List Byte) (bytes : p ++ b :: bs = f.bytes) :
      frameComplete (p ++ [b]) = true ↔ bs = [] := by
    have long : f.bytes.length = p.length + 1 + bs.length := by rw [← bytes]; simp; omega
    have front : f.bytes.take (p.length + 1) = p ++ [b] := by rw [← bytes]; simp [List.take_append]
    rw [← front, frameComplete_take_bytes_iff payload (by omega), long]
    cases bs <;> simp
  induction bs generalizing u p b with
  | nil =>
    exact hears_last straps hearing (fits p b _ bytes) bytes ((complete p b _ bytes).2 rfl) room sender length
      other uses
  | cons b' bs ih =>
    obtain ⟨w, heard, hearing'⟩ := hears_inside straps hearing (fits p b _ bytes)
      (Bool.eq_false_iff.2 (mt (complete p b _ bytes).1 (by simp))) (b' :: bs)
    rw [heard]
    exact ih b' hearing' (by simpa using bytes)

end State

/-- Settles O52, by induction on the bytes that are left. -/
theorem wholeFramesAreReceived : Obligations.WholeFramesAreReceived := by
  intro s f payload straps hunt between quiet room sender length other uses
  have bytes := Frame.bytes_eq f
  obtain ⟨u, heard, hearing⟩ := State.hears_first straps hunt between quiet f.sender
    (f.kind :: f.dest :: byte f.payload.length :: (f.payload ++ [checkByte (byteSum f.head)]))
  rw [bytes, heard]
  exact State.hears_rest straps payload room sender length other uses _ _ hearing bytes.symm

end Sys2Proof.Machine
end

section
/-!
# The peer table and the downstream view (R134, R136, R176)
-/
namespace Sys2Proof.Machine

namespace Link
variable {l : Link} {a b : Nat} {p : Peer}

theorem peer_congr {k : Link} (peers : k.peers = l.peers) (a : Nat) : k.peer a = l.peer a := by
  unfold Link.peer
  rw [peers]

theorem peer_store (held : l.peer a = some p) (payload : List Byte) :
    (l.store a payload).peer a = some ⟨true, 0, payload⟩ := by
  unfold Link.peer at held ⊢
  rw [Option.ite_none_right_eq_some] at held
  obtain ⟨address, entry⟩ := held
  obtain ⟨fits, -⟩ := List.getElem?_eq_some_iff.1 entry
  rw [if_pos address]
  exact List.getElem?_set_self fits

theorem peer_store_of_ne (first : a ≠ 0) (other : b ≠ a) (payload : List Byte) : (l.store a payload).peer b = l.peer b := by
  unfold Link.peer
  by_cases address : within 1 30 b = true
  · rw [if_pos address, if_pos address]
    have : 1 ≤ b := by simp [within] at address; omega
    exact List.getElem?_set_ne (by omega)
  · rw [if_neg address, if_neg address]

end Link

namespace Trav
variable {t : Trav} {fresh : Bool} {v : StatusView}

theorem hear_of_discarded (h : fresh = false ∨ v.configFault = true) : t.hear fresh v = { t with release := none } := by
  have discarded : (if !fresh || v.configFault then { t with release := none } else t) = { t with release := none } :=
    if_pos (by simpa using h)
  unfold Trav.hear
  rw [discarded]
  exact if_neg (by simp [Trav.confirmedBy])

theorem hear_of_watched (known : fresh = true) (well : v.configFault = false) :
    t.hear fresh v = if t.confirmedBy v.accept then { t with phase := .none, timer := none } else t := by
  have kept : (if !fresh || v.configFault then { t with release := none } else t) = t :=
    if_neg (by simp [known, well])
  unfold Trav.hear
  rw [kept]

theorem confirmedBy_iff (t : Trav) (accept : BitVec 8) : t.confirmedBy accept = true ↔
    (t.phase = .sent ∨ t.phase = .timing ∨ t.phase = .expired) ∧ ∃ r, t.release = some r ∧ r.2 ≠ accept := by
  have awaits : t.phase.awaits = true ↔ (t.phase = .sent ∨ t.phase = .timing ∨ t.phase = .expired) := by
    cases t.phase <;> simp [HandPhase.awaits]
  unfold Trav.confirmedBy
  rw [Bool.and_eq_true, awaits]
  cases t.release <;> simp

theorem hear_butWatch (t : Trav) (fresh : Bool) (v : StatusView) :
    t.hear fresh v = { t with release := (t.hear fresh v).release, phase := (t.hear fresh v).phase, timer := (t.hear fresh v).timer } := by
  unfold Trav.hear
  dsimp only
  split <;> split <;> rfl

end Trav

namespace State
variable {s t : State} {b : Board} {v : StatusView} {f : Frame} {rest : List Frame}

theorem tryGrant_of_cannot (not : ¬∃ b v, s.CanGrant b v) : s.tryGrant = s := by
  unfold State.tryGrant
  split
  next b a some =>
    obtain ⟨v, can, -⟩ := grantable_iff.1 some
    exact absurd ⟨b, v, can⟩ not
  next => rfl

/-- The handed STATUS stored in the sender's entry (R176). -/
def stored (s : State) (f : Frame) : State := s.handDone.modLink fun l => l.store f.sender.toNat f.payload

theorem stored_only (s : State) (f : Frame) {ps : List Part} (link : .link ∈ ps) : s.Only (s.stored f) ps :=
  .trans (s.handDone_only link) (.modLink _ _ link)

/-- The station as it hears a downstream STATUS, before the grant is tried (R134 steps 1 and 2). -/
def heard (s : State) (f : Frame) : State :=
  (s.stored f).modTrav fun t => t.hear (s.link.isFresh f.sender.toNat) (statusView f.payload)

theorem exec_statusReceive (queue : s.link.rx = f :: rest) (handing : s.link.handing = true) (kind : f.kind = 1) :
    exec .statusReceive s = if s.alarm.run ≠ .configFault ∧ s.ownAddr.map (· + 1) = some f.sender.toNat then
      .next (s.settle (s.heard f).tryGrant)
    else .next (s.settle (s.stored f)) := by
  change execStatusReceive s = _
  unfold execStatusReceive
  rw [handed_of queue handing (kind := kindStatus) kind]
  exact if_congr (by rw [live_iff]; rfl) rfl rfl

/-- The release of a board leaves the queues and the peer table. -/
theorem tryGrant_link (s : State) : s.tryGrant.link.rx = s.link.rx ∧ s.tryGrant.link.handing = s.link.handing ∧
    s.tryGrant.link.peers = s.link.peers := by
  by_cases can : ∃ b v, s.CanGrant b v
  · obtain ⟨b, v, can⟩ := can
    rw [tryGrant_of_can can, grant_eq]
    simp [granting, State.queueFrame]
  · rw [tryGrant_of_cannot can]
    exact ⟨rfl, rfl, rfl⟩

end State

/-- Settles O58: the entry is stored, and from downstream the watch hears the view. -/
theorem statusFramesReachTheTravellerUnit : Obligations.StatusFramesReachTheTravellerUnit := by
  intro s
  refine ⟨fun other => ?none, fun f rest queue handing kind => ?some⟩
  case none =>
    change execStatusReceive s = _
    unfold execStatusReceive
    rw [State.handed_eq_none (kind := kindStatus) (by exact other)]
  have store : (s.stored f).link = ({ s.link with rx := rest, handing := !rest.isEmpty } : Link).store f.sender.toNat
      f.payload := by
    change s.handDone.link.store _ _ = _
    rw [State.handDone_link queue]
  have entries (u : State) (peers : u.link.peers = (s.stored f).link.peers) :
      (∀ p, s.link.peer f.sender.toNat = some p → u.link.peer f.sender.toNat = some ⟨true, 0, f.payload⟩) ∧
        (f.sender ≠ 0 → ∀ b, b ≠ f.sender.toNat → u.link.peer b = s.link.peer b) := by
    refine ⟨fun p held => ?_, fun sender b other => ?_⟩
    · rw [Link.peer_congr peers, store]
      exact Link.peer_store (p := p) held _
    · rw [Link.peer_congr peers, store, Link.peer_store_of_ne (fun zero => sender (BitVec.eq_of_toNat_eq zero)) other]
      rfl
  by_cases down : s.alarm.run ≠ .configFault ∧ s.ownAddr.map (· + 1) = some f.sender.toNat
  case neg =>
    have row := State.exec_statusReceive queue handing kind
    rw [if_neg down] at row
    have alone : s.KeepsBut (s.settle (s.stored f)) [.link] := State.keepsBut_settle (s.stored_only f (by simp)).keepsBut
    have noted : (s.settle (s.stored f)).link.butSlot = (s.stored f).link.butSlot := by simp
    refine ⟨_, row, ?_, ?_, ?_, ?_, fun _ => alone, fun on own => absurd ⟨on, own⟩ down, fun b own may => absurd ⟨may.not_configFault, own⟩ down⟩
    · exact (congrArg Link.rx noted :).trans (by rw [store]; rfl)
    · exact (congrArg Link.handing noted :).trans (by rw [store]; rfl)
    · exact (entries _ (congrArg Link.peers noted :)).1
    · exact (entries _ (congrArg Link.peers noted :)).2
  have row := State.exec_statusReceive queue handing kind
  rw [if_pos down] at row
  obtain ⟨rx, hand, peers⟩ := (s.heard f).tryGrant_link
  have noted : (s.settle (s.heard f).tryGrant).link.butSlot = (s.heard f).tryGrant.link.butSlot := by simp
  refine ⟨_, row, ?_, ?_, ?_, ?_, fun off => absurd off (by simp [down.1, down.2]), fun on own waiting => ?_, fun b own may role done board entry free moved room => ?_⟩
  · refine (congrArg Link.rx noted :).trans (rx.trans ?_)
    rw [show (s.heard f).link = (s.stored f).link from rfl, store]; rfl
  · refine (congrArg Link.handing noted :).trans (hand.trans ?_)
    rw [show (s.heard f).link = (s.stored f).link from rfl, store]; rfl
  · exact (entries _ ((congrArg Link.peers noted :).trans peers)).1
  · exact (entries _ ((congrArg Link.peers noted :).trans peers)).2
  · have cannot : ¬∃ b v, (s.heard f).CanGrant b v := by
      rintro ⟨b, v, -, -, done, -⟩
      exact waiting (by simpa [State.heard, State.stored, State.handDone] using done)
    have trav : (s.settle (s.heard f).tryGrant).trav = s.trav.hear (s.link.isFresh f.sender.toNat) (statusView f.payload) := by
      rw [State.tryGrant_of_cannot cannot]
      simp only [State.settle_frame]
      rfl
    have kept : s.KeepsBut (s.settle (s.heard f).tryGrant) [.trav, .link] := by
      rw [State.tryGrant_of_cannot cannot]
      exact State.keepsBut_settle ((s.stored_only f (by simp)).trans (.modTrav _ _ (by simp))).keepsBut
    refine ⟨kept, ?_, fun lost => ?_, fun fresh well => ?_⟩
    · rw [trav]
      exact Trav.hear_butWatch _ _ _
    · rw [trav, Trav.hear_of_discarded (lost.imp_right fun zero => by simpa [statusView] using zero)]
      exact ⟨rfl, rfl⟩
    · have watched := trav.trans (Trav.hear_of_watched (t := s.trav) fresh (v := statusView f.payload) (by simpa [statusView] using well))
      rw [watched]
      refine ⟨by split <;> rfl, fun r held moved awaits => ?_, fun same => ?_⟩
      · rw [if_pos ((Trav.confirmedBy_iff _ (statusView f.payload).accept).2 ⟨awaits, r, held, moved⟩)]
        exact ⟨rfl, rfl⟩
      · rw [if_neg fun confirmed => ?_]
        obtain ⟨-, r, held, moved⟩ := (Trav.confirmedBy_iff _ _).1 confirmed
        exact moved (same r held)
  · have view : (s.heard f).freshDown = some (statusView f.payload) := by
      obtain ⟨p, held⟩ := Option.isSome_iff_exists.1 entry
      have known := (entries (s.heard f) rfl).1 p held
      change ((s.ownAddr.map (· + 1)).bind (s.heard f).link.peer).bind _ = _
      rw [own, Option.bind_some, known, Option.bind_some]
      exact if_pos (by simp [Peer.fresh])
    have can : (s.heard f).CanGrant b (statusView f.payload) := by
      refine ⟨may, role, done, board, view, free, fun r held => ?_, ?_⟩
      · change (s.trav.hear _ _).release = some r at held
        by_cases lost : s.link.isFresh f.sender.toNat = false ∨ (statusView f.payload).configFault = true
        · rw [Trav.hear_of_discarded lost] at held
          cases held
        · rw [not_or, Bool.not_eq_false, Bool.not_eq_true] at lost
          rw [Trav.hear_of_watched lost.1 lost.2] at held
          exact moved r lost.1 (by split at held <;> exact held)
      · change (s.stored f).link.tx.length < 4
        rw [store]
        exact room
    have may' : ((s.heard f).granting b (statusView f.payload).accept).MayStart := can.1
    obtain ⟨only, -, trav⟩ := State.releaseBoard_only_work may'
    have address := State.downAddr_of_fresh can.2.2.2.2.1
    have released := State.Released.of_releaseBoard may'
    rw [State.tryGrant_of_can can, State.grant_eq]
    simp only [State.settle_frame, trav]
    have queued : ((s.heard f).granting b (statusView f.payload).accept).link.tx =
        s.link.tx ++ [(⟨s.ownByte, 2, byte ((s.heard f).downAddr.getD 0), travellerBytes b.outgoing⟩ : Frame)] := by
      change (s.stored f).link.tx ++ _ = _
      rw [store]
      rfl
    have receiver : byte ((s.heard f).downAddr.getD 0) = f.sender := by
      change byte ((s.ownAddr.map (· + 1)).getD 0) = _
      rw [own]
      exact BitVec.ofNat_toNat _ _
    have tx (u : State) : (s.settle u.releaseBoard).link.tx = u.link.tx := by
      have noted : (s.settle u.releaseBoard).link.butSlot = u.link.butSlot := by simp
      exact (congrArg Link.tx noted :)
    exact ⟨rfl, rfl, released.1, by rw [tx, queued, receiver]⟩

end Sys2Proof.Machine
end

section
/-!
# Travellers as bytes (R126, R183)
-/
namespace Sys2Proof.Machine

/-! ## Fields in a run of bytes -/

theorem byte_toNat (n : Nat) : (byte n).toNat = n % 256 := BitVec.toNat_ofNat ..

theorem rejectByte_toNat (r : Option RejectReason) : (rejectByte r).toNat = rejectNumber r := by
  rcases r with - | - | - | - <;> rfl

theorem leAt_one (bs : List Byte) (place : Nat) : leAt bs place 1 = (bs.getD place 0).toNat := by
  simp [leAt]

theorem leAt_two (bs : List Byte) (place : Nat) :
    leAt bs place 2 = ofLe16 (bs.getD place 0) (bs.getD (place + 1) 0) := by
  simp [leAt, ofLe16]

/-- Two bytes hold a value modulo 65536 (R166). -/
theorem ofLe16_split (v : Nat) : ofLe16 (BitVec.ofNat 8 v) (BitVec.ofNat 8 (v / 256)) = v % 65536 := by
  simp only [ofLe16, BitVec.toNat_ofNat]
  omega

theorem le16_ofLe16 (lo hi : Byte) : le16 (ofLe16 lo hi) = [lo, hi] := by
  have low : (lo.toNat + 256 * hi.toNat) % 256 = lo.toNat := by omega
  have high : (lo.toNat + 256 * hi.toNat) / 256 = hi.toNat := by omega
  refine congrArg₂ (fun a b => [a, b]) (BitVec.eq_of_toNat_eq ?_) (BitVec.eq_of_toNat_eq ?_)
  · simpa [ofLe16] using low
  · rw [BitVec.toNat_ofNat, ofLe16, high]
    omega

theorem leAt_append_right (a b : List Byte) (k n : Nat) : leAt (a ++ b) (a.length + k) n = leAt b k n := by
  induction n generalizing k with
  | zero => rfl
  | succ n ih => simp only [leAt, Nat.add_assoc, ih, List.getD_append_right _ _ _ _ (Nat.le_add_right ..),
      Nat.add_sub_cancel_left]

theorem leAt_append_left {a : List Byte} (b : List Byte) {k n : Nat} (inside : k + n ≤ a.length) :
    leAt (a ++ b) k n = leAt a k n := by
  induction n generalizing k with
  | zero => rfl
  | succ n ih => simp only [leAt, ih (k := k + 1) (by omega), List.getD_append _ _ _ _ (show k < a.length by omega)]

theorem leAt_drop (bs : List Byte) (p k n : Nat) : leAt (bs.drop p) k n = leAt bs (p + k) n := by
  induction n generalizing k with
  | zero => rfl
  | succ n ih => simp only [leAt, ih, Nat.add_assoc, List.getD_eq_getElem?_getD, List.getElem?_drop]

/-- Where an entry stands in a run of entries of one width. -/
theorem drop_flatMap {α : Type} {f : α → List Byte} {width : Nat} {xs : List α} (widths : ∀ x ∈ xs, (f x).length = width)
    {i : Nat} {x : α} (entry : xs[i]? = some x) (before after : List Byte) :
    ∃ rest, (before ++ (xs.flatMap f ++ after)).drop (before.length + width * i) = f x ++ rest := by
  induction xs generalizing before i with
  | nil => simp at entry
  | cons y ys ih =>
    cases i with
    | zero =>
      obtain rfl : y = x := by simpa using entry
      exact ⟨ys.flatMap f ++ after, by simp⟩
    | succ i =>
      obtain ⟨rest, stands⟩ := ih (fun z hz => widths z (by simp [hz])) (by simpa using entry) (before ++ f y)
      refine ⟨rest, ?_⟩
      rw [List.length_append, widths y (by simp)] at stands
      rw [List.flatMap_cons, List.append_assoc, ← List.append_assoc, ← stands, Nat.mul_add_one]
      congr 1
      omega

/-- The fields of an entry in a run of entries of one width. -/
theorem leAt_flatMap {α : Type} {f : α → List Byte} {width : Nat} {xs : List α} (widths : ∀ x ∈ xs, (f x).length = width)
    {i : Nat} {x : α} (entry : xs[i]? = some x) (before after : List Byte) {k n : Nat} (inside : k + n ≤ width) :
    leAt (before ++ (xs.flatMap f ++ after)) (before.length + width * i + k) n = leAt (f x) k n := by
  obtain ⟨rest, stands⟩ := drop_flatMap widths entry before after
  rw [← leAt_drop, stands, leAt_append_left _ (by rw [widths x (List.mem_of_getElem? entry)]; exact inside)]

/-! ## The missed list -/

theorem missReasonOfCode_iff (b : Byte) (r : MissReason) : missReasonOfCode b = some r ↔ b = byte r.code := by
  constructor
  · intro reads
    refine BitVec.eq_of_toNat_eq ?_
    unfold missReasonOfCode at reads
    split at reads <;> cases reads <;> assumption
  · rintro rfl
    cases r <;> rfl

theorem missBytes_length (p : Nat × MissReason) : (missBytes p).length = 3 := rfl

/-- A missed list stands in its run of entries of three bytes. -/
theorem missesLaid_append (before after : List Byte) (ms : List (Nat × MissReason)) :
    MissesLaid (before ++ (ms.flatMap missBytes ++ after)) before.length ms := by
  intro i p entry
  have code : p.2.code < 256 := by cases p.2 <;> decide
  have ordinal := leAt_flatMap (fun p _ => missBytes_length p) entry before after (k := 0) (n := 2) (by decide)
  have reason := leAt_flatMap (fun p _ => missBytes_length p) entry before after (k := 2) (n := 1) (by decide)
  simp only [Laid, List.forall_mem_cons, List.not_mem_nil, false_implies, implies_true, and_true]
  refine ⟨ordinal.trans ?_, reason.trans ?_⟩
  · rw [leAt_two]
    exact ofLe16_split p.1
  · rw [leAt_one]
    exact byte_toNat p.2.code

/-- Missed-list entries are read back from their bytes alone. -/
theorem takeMisses_iff {n : Nat} {bs rest : List Byte} {ms : List (Nat × MissReason)} :
    takeMisses n bs = some (ms, rest) ↔
      ms.length = n ∧ (∀ p ∈ ms, p.1 ≤ 4095) ∧ bs = ms.flatMap missBytes ++ rest := by
  induction n generalizing bs ms with
  | zero =>
    simp only [takeMisses, Option.some.injEq, Prod.mk.injEq, List.length_eq_zero_iff]
    constructor
    · rintro ⟨rfl, rfl⟩
      simp
    · rintro ⟨rfl, -, rfl⟩
      simp
  | succ n ih =>
    constructor
    · intro reads
      rcases bs with - | ⟨lo, - | ⟨hi, - | ⟨r, bs⟩⟩⟩
      iterate 3 cases reads
      unfold takeMisses at reads
      split at reads
      case h_2 => cases reads
      next reason ms' rest' code reads' =>
        rw [Option.ite_none_right_eq_some] at reads
        obtain ⟨range, same⟩ := reads
        cases same
        obtain ⟨length, ranges, bytes⟩ := ih.1 reads'
        obtain rfl := (missReasonOfCode_iff _ _).1 code
        refine ⟨by simp [length], by simpa using ⟨range, by simpa using ranges⟩, ?_⟩
        rw [List.flatMap_cons, missBytes, le16_ofLe16, bytes]
        simp
    · rintro ⟨length, ranges, rfl⟩
      cases ms with
      | nil => cases length
      | cons p ms =>
        have fits := ranges p (by simp)
        have tail := ih.2 ⟨Nat.succ.inj length, fun q hq => ranges q (List.mem_cons_of_mem _ hq), rfl⟩
        have ordinal : ofLe16 (BitVec.ofNat 8 p.1) (BitVec.ofNat 8 (p.1 / 256)) = p.1 := by
          rw [ofLe16_split]; omega
        simp only [List.flatMap_cons, missBytes, le16, List.cons_append, List.nil_append, takeMisses, tail,
          (missReasonOfCode_iff _ _).2 rfl, ordinal, if_pos fits]

/-! ## A stage -/

theorem Stage.wf_iff (g : Stage) : g.wf = true ↔ 1 ≤ g.addr ∧ g.addr ≤ 30 ∧ g.inserted ≤ 4096 ∧ g.missed ≤ 4096 ∧
    g.missList.length ≤ 8 ∧ g.missList.length ≤ g.missed ∧ ∀ p ∈ g.missList, p.1 ≤ 4095 := by
  have eight : Config.missRoom = 8 := rfl
  simp only [Stage.wf, within, Bool.and_eq_true, decide_eq_true_eq, List.all_eq_true, eight, and_assoc]

theorem missesBytes_length (ms : List (Nat × MissReason)) : (ms.flatMap missBytes).length = 3 * ms.length := by
  simp [List.length_flatMap, missBytes_length, Nat.mul_comm]

theorem stageBytes_length (g : Stage) : (stageBytes g).length = 6 + 3 * g.missList.length := by
  simp only [stageBytes, List.length_cons, List.length_append, missesBytes_length, le16, List.length_nil]
  omega

/-- A stage's bytes lie as its table says (chapter 10, "TRAVELLER"). -/
theorem stageLaid (g : Stage) : StageLaid g := by
  refine ⟨stageBytes_length g, ?_, ?_⟩
  · simp [Laid, leAt_one, leAt_two, stageBytes, le16, ofLe16_split, byte_toNat]
  · have misses := missesLaid_append ([byte g.addr] ++ le16 g.inserted ++ le16 g.missed ++ [byte g.missList.length]) []
      g.missList
    rw [List.append_nil] at misses
    exact misses

/-- A stage is read back from its bytes alone. -/
theorem takeStage_iff {bs rest : List Byte} {g : Stage} :
    takeStage bs = some (g, rest) ↔ g.wf = true ∧ bs = stageBytes g ++ rest := by
  constructor
  · intro reads
    unfold takeStage at reads
    split at reads
    case h_2 => cases reads
    next a i0 i1 m0 m1 n bs =>
      split at reads
      case h_2 => cases reads
      next ms rest' misses =>
        rw [Option.ite_none_right_eq_some] at reads
        obtain ⟨ranges, same⟩ := reads
        cases same
        obtain ⟨length, ordinals, rfl⟩ := takeMisses_iff.1 misses
        have eight : Config.missRoom = 8 := rfl
        simp only [within, Bool.and_eq_true, decide_eq_true_eq, eight] at ranges
        obtain ⟨⟨⟨⟨address, inserted⟩, missed⟩, listed⟩, counted⟩ := ranges
        refine ⟨(Stage.wf_iff _).2 ⟨address.1, address.2, inserted, missed, length ▸ listed, length ▸ counted, ordinals⟩,
          ?_⟩
        simp [stageBytes, le16_ofLe16, length, byte]
  · rintro ⟨fits, rfl⟩
    obtain ⟨first, last, inserted, missed, listed, counted, ordinals⟩ := (Stage.wf_iff g).1 fits
    have misses := (takeMisses_iff (rest := rest)).2 ⟨rfl, ordinals, rfl⟩
    have count : (byte g.missList.length).toNat = g.missList.length := byte_toNat_of_lt (by omega)
    have address : (byte g.addr).toNat = g.addr := byte_toNat_of_lt (by omega)
    have up : ofLe16 (BitVec.ofNat 8 g.inserted) (BitVec.ofNat 8 (g.inserted / 256)) = g.inserted := by
      rw [ofLe16_split]; omega
    have down : ofLe16 (BitVec.ofNat 8 g.missed) (BitVec.ofNat 8 (g.missed / 256)) = g.missed := by
      rw [ofLe16_split]; omega
    simp only [stageBytes, le16, List.cons_append, List.nil_append, takeStage, count, misses, address, up, down]
    exact if_pos (by simp [within, first, last, inserted, missed, counted, show g.missList.length ≤ Config.missRoom from listed])

/-- Stages are read back from their bytes alone. -/
theorem takeStages_iff {n : Nat} {bs rest : List Byte} {gs : List Stage} :
    takeStages n bs = some (gs, rest) ↔
      gs.length = n ∧ (∀ g ∈ gs, g.wf = true) ∧ bs = gs.flatMap stageBytes ++ rest := by
  induction n generalizing bs gs with
  | zero =>
    simp only [takeStages, Option.some.injEq, Prod.mk.injEq, List.length_eq_zero_iff]
    constructor
    · rintro ⟨rfl, rfl⟩
      simp
    · rintro ⟨rfl, -, rfl⟩
      simp
  | succ n ih =>
    constructor
    · intro reads
      unfold takeStages at reads
      split at reads
      case h_2 => cases reads
      next g rest' first =>
        split at reads
        case h_2 => cases reads
        next gs' rest'' others =>
          cases reads
          obtain ⟨fits, rfl⟩ := takeStage_iff.1 first
          obtain ⟨length, fit, rfl⟩ := ih.1 others
          exact ⟨by simp [length], by simpa using ⟨fits, fit⟩, by simp⟩
    · rintro ⟨length, fits, rfl⟩
      cases gs with
      | nil => cases length
      | cons g gs =>
        have first := (takeStage_iff (rest := gs.flatMap stageBytes ++ rest)).2 ⟨fits g (by simp), rfl⟩
        have others := (ih (bs := gs.flatMap stageBytes ++ rest)).2 ⟨Nat.succ.inj length, fun g' h => fits g' (List.mem_cons_of_mem _ h), rfl⟩
        rw [List.flatMap_cons, List.append_assoc]
        simp only [takeStages, first, others]

/-! ## A traveller -/

theorem Traveller.wf_iff (t : Traveller) : t.wf = true ↔ t.Fits := by
  have six : Config.stageRoom = 6 := rfl
  simp only [Traveller.wf, Traveller.Fits, Bool.and_eq_true, decide_eq_true_eq, List.all_eq_true, Stage.wf_iff, six]
  tauto

theorem rejectOfByte_iff (b : Byte) (r : Option RejectReason) : rejectOfByte b = some r ↔ b = rejectByte r := by
  constructor
  · intro reads
    unfold rejectOfByte at reads
    split_ifs at reads <;> cases reads <;> assumption
  · rintro rfl
    rcases r with - | - | - | - <;> rfl

/-- A mask is its four bytes, the first the lowest. -/
theorem maskOf_toNat (b0 b1 b2 b3 : Byte) :
    (maskOf b0 b1 b2 b3).toNat = b0.toNat + 256 * (b1.toNat + 256 * (b2.toNat + 256 * b3.toNat)) := by
  have append {n : Nat} (x : BitVec n) (b : Byte) : (x ++ b).toNat = x.toNat * 256 + b.toNat := by
    rw [BitVec.toNat_append, ← Nat.shiftLeft_add_eq_or_of_lt b.isLt, Nat.shiftLeft_eq]
  simp only [maskOf, append]
  omega

theorem maskBytes_maskOf (b0 b1 b2 b3 : Byte) : maskBytes (maskOf b0 b1 b2 b3) = [b0, b1, b2, b3] := by
  simp only [maskBytes, List.cons.injEq, and_true]
  refine ⟨?_, ?_, ?_, ?_⟩ <;>
    exact BitVec.eq_of_toNat_eq (by
      rw [BitVec.extractLsb'_toNat, maskOf_toNat, Nat.shiftRight_eq_div_pow]
      omega)

theorem maskOf_maskBytes (m : Mask) :
    maskOf (m.extractLsb' 0 8) (m.extractLsb' 8 8) (m.extractLsb' 16 8) (m.extractLsb' 24 8) = m := by
  refine BitVec.eq_of_toNat_eq ?_
  simp only [maskOf_toNat, BitVec.extractLsb'_toNat, Nat.shiftRight_eq_div_pow]
  omega
theorem leAt_maskBytes (m : Mask) : leAt (maskBytes m) 0 4 = m.toNat := by
  simp only [leAt, maskBytes, List.getD_cons_zero, List.getD_cons_succ, BitVec.extractLsb'_toNat, Nat.shiftRight_eq_div_pow]
  omega

theorem travellerBytes_eq (t : Traveller) : travellerBytes t =
    BitVec.ofNat 8 t.serial.toNat :: BitVec.ofNat 8 (t.serial.toNat / 256) :: rejectByte t.reject ::
      t.mask.extractLsb' 0 8 :: t.mask.extractLsb' 8 8 :: t.mask.extractLsb' 16 8 :: t.mask.extractLsb' 24 8 ::
      byte t.dropped :: byte t.stages.length :: t.stages.flatMap stageBytes := rfl

/-- A traveller is read back from its payload alone. -/
theorem travellerOfBytes_iff {bs : List Byte} {t : Traveller} :
    travellerOfBytes bs = some t ↔ t.Fits ∧ bs = travellerBytes t := by
  constructor
  · intro reads
    unfold travellerOfBytes at reads
    split at reads
    case h_2 => cases reads
    next s0 s1 rj k0 k1 k2 k3 dropped n rest =>
      split at reads
      case h_2 => cases reads
      next reject stages reason read =>
        rw [Option.ite_none_right_eq_some] at reads
        obtain ⟨⟨serial, room⟩, same⟩ := reads
        cases same
        obtain rfl := (rejectOfByte_iff _ _).1 reason
        obtain ⟨length, fits, rfl⟩ := takeStages_iff.1 read
        have small : ofLe16 s0 s1 < 65536 := by unfold ofLe16; omega
        have value : (BitVec.ofNat 16 (ofLe16 s0 s1)).toNat = ofLe16 s0 s1 := by
          rw [BitVec.toNat_ofNat]; omega
        refine ⟨⟨fun ones => serial ?_, ?_, length ▸ room, fun g hg => (Stage.wf_iff g).1 (fits g hg)⟩, ?_⟩
        · exact value.symm.trans (congrArg BitVec.toNat (ones :))
        · dsimp only; omega
        · have two := le16_ofLe16 s0 s1
          have four := maskBytes_maskOf k0 k1 k2 k3
          unfold travellerBytes
          dsimp only
          rw [value, two, four, length]
          simp [byte]
  · rintro ⟨⟨serial, dropped, room, fits⟩, rfl⟩
    have read := (takeStages_iff (rest := [])).2 ⟨rfl, fun g hg => (Stage.wf_iff g).2 (fits g hg), rfl⟩
    rw [List.append_nil] at read
    have count : (byte t.stages.length).toNat = t.stages.length := byte_toNat_of_lt (by omega)
    have past : (byte t.dropped).toNat = t.dropped := byte_toNat_of_lt (by omega)
    have value : ofLe16 (BitVec.ofNat 8 t.serial.toNat) (BitVec.ofNat 8 (t.serial.toNat / 256)) = t.serial.toNat := by
      rw [ofLe16_split]; omega
    have mask := maskOf_maskBytes t.mask
    rw [travellerBytes_eq]
    simp only [travellerOfBytes, (rejectOfByte_iff _ _).2 rfl, count, read, value, mask, past]
    rw [BitVec.ofNat_toNat, BitVec.setWidth_eq]
    exact if_pos (And.intro (fun ones => serial (BitVec.eq_of_toNat_eq ones)) room)

theorem travellerBytes_length (t : Traveller) :
    (travellerBytes t).length = 9 + (t.stages.map fun g => 6 + 3 * g.missList.length).sum := by
  simp only [travellerBytes_eq, List.length_cons, List.length_flatMap, stageBytes_length]
  omega

/-- A traveller's bytes lie as its table says (chapter 10, "TRAVELLER"). -/
theorem travellerLaid (t : Traveller) : TravellerLaid t := by
  refine ⟨?_, travellerBytes_length t, rfl, fun g _ => stageLaid g⟩
  have mask : leAt (travellerBytes t) 3 4 = t.mask.toNat := leAt_maskBytes t.mask
  simp only [Laid, List.forall_mem_cons, List.not_mem_nil, false_implies, implies_true, and_true]
  refine ⟨?_, ?_, ?_, ?_, ?_⟩
  · rw [leAt_two]
    exact ofLe16_split t.serial.toNat
  · have : rejectNumber t.reject < 256 := by rcases t.reject with - | - | - | - <;> decide
    simp [leAt_one, travellerBytes_eq, rejectByte_toNat, Nat.mod_eq_of_lt this]
  · rw [mask]; omega
  · simp [leAt_one, travellerBytes_eq, byte_toNat]
  · simp [leAt_one, travellerBytes_eq, byte_toNat]

/-- Settles O40: the payload parser reads exactly the layout of a traveller that fits. -/
theorem travellersReadBack : Obligations.TravellersReadBack := by
  refine ⟨fun t fits => ⟨travellerOfBytes_iff.2 ⟨t.wf_iff.1 fits, rfl⟩, ?length⟩, Traveller.wf_iff,
    fun t _ => travellerLaid t, fun bs t => travellerOfBytes_iff, fun bs bad => ?refused⟩
  case length =>
    obtain ⟨-, -, room, stages⟩ := t.wf_iff.1 fits
    have each := List.sum_le_card_nsmul (t.stages.map fun g => 6 + 3 * g.missList.length) 30 (by
      simp only [List.mem_map, forall_exists_index, and_imp, forall_apply_eq_imp_iff₂]
      intro g hg
      have listed := (stages g hg).2.2.2.2.1
      omega)
    rw [travellerBytes_length]
    rw [List.length_map, smul_eq_mul] at each
    omega
  case refused =>
    rw [Option.eq_none_iff_forall_ne_some]
    intro t reads
    obtain ⟨⟨serial, -, room, -⟩, rfl⟩ := travellerOfBytes_iff.1 reads
    rcases bad with short | ones | reason | many
    · rw [travellerBytes_length] at short
      omega
    · refine serial (BitVec.eq_of_toNat_eq ?_)
      have value : leAt (travellerBytes t) 0 2 = t.serial.toNat % 65536 := by
        rw [leAt_two]
        exact ofLe16_split t.serial.toNat
      change t.serial.toNat = 65535
      omega
    · refine reason ?_
      have value : ((travellerBytes t).getD 2 0).toNat = rejectNumber t.reject := rejectByte_toNat t.reject
      rw [value]
      rcases t.reject with - | - | - | - <;> decide
    · have value : ((travellerBytes t).getD 8 0).toNat = t.stages.length := byte_toNat_of_lt (by omega)
      omega

end Sys2Proof.Machine
end

section
/-!
# The six answers as bytes (R177, R184)
-/
namespace Sys2Proof.Machine

/-! ## Fields of one and two bytes -/

/-- A flag's byte is its value, as a field of one byte holds it. -/
theorem flagByte_field (b : Bool) : (flagByte b).toNat = b.toNat % 256 := by
  cases b <;> rfl

theorem byte_field (b : Byte) : b.toNat % 256 = b.toNat := Nat.mod_eq_of_lt b.isLt

theorem rejectByte_field (r : Option RejectReason) : (rejectByte r).toNat = rejectNumber r % 256 := by
  rcases r with - | - | - | - <;> rfl

theorem laid_nil (bs : List Byte) : Laid bs [] := fun _ h => absurd h (by simp)

theorem laid_cons (bs : List Byte) (f : Nat × Nat × Nat) (fs : List (Nat × Nat × Nat)) :
    Laid bs (f :: fs) ↔ leAt bs f.1 f.2.1 = f.2.2 % 256 ^ f.2.1 ∧ Laid bs fs := List.forall_mem_cons ..

/-- The fields of an entry of a run, from those of the entry's own bytes. -/
theorem laid_of_entry {bs entry : List Byte} {place width : Nat} {fields : List (Nat × Nat × Nat)}
    (stands : ∀ k n, k + n ≤ width → leAt bs (place + k) n = leAt entry k n)
    (inside : ∀ f ∈ fields, place ≤ f.1 ∧ f.1 + f.2.1 ≤ place + width)
    (laid : Laid entry (fields.map fun f => (f.1 - place, f.2))) : Laid bs fields := by
  intro f hf
  obtain ⟨past, before⟩ := inside f hf
  have field := laid _ (List.mem_map_of_mem hf)
  rw [← stands _ _ (by dsimp only; omega)] at field
  rwa [Nat.add_sub_cancel' past] at field

theorem fourFlags_eq (a b c d : Bool) : fourFlags a b c d = a.toNat + 2 * b.toNat + 4 * c.toNat + 8 * d.toNat := by
  cases a <;> cases b <;> cases c <;> cases d <;> rfl

theorem leAt_zeros (m k n : Nat) : leAt (zeros m) k n = 0 := by
  induction n generalizing k with
  | zero => rfl
  | succ n ih =>
    have zero : (zeros m).getD k 0 = 0 := by
      rw [List.getD_eq_getElem?_getD, zeros, List.getElem?_replicate]
      split <;> rfl
    rw [leAt, ih, zero]
    rfl

/-- The unused slots of a table read 0 (R184). -/
theorem leAt_padTo (before bs after : List Byte) {m k n : Nat} (past : bs.length ≤ k) (inside : k + n ≤ m) :
    leAt (before ++ (padTo m bs ++ after)) (before.length + k) n = 0 := by
  have place : before.length + k = (before ++ bs).length + (k - bs.length) := by rw [List.length_append]; omega
  have apart : before ++ (padTo m bs ++ after) = (before ++ bs) ++ (zeros (m - bs.length) ++ after) := by simp [padTo]
  rw [place, apart, leAt_append_right, leAt_append_left _ (by simp [zeros]; omega), leAt_zeros]

theorem padTo_length {m : Nat} {bs : List Byte} (fits : bs.length ≤ m) : (padTo m bs).length = m := by
  simp [padTo, zeros]
  omega

/-! ## STATION -/

theorem moveBytes_eq (t : Table) : t.moveBytes =
    byte t.moveShown.1 :: byte t.moveShown.2.1 :: (le16 t.moveShown.2.2.1 ++ le16 t.moveShown.2.2.2) := by
  unfold Table.moveBytes Table.moveShown
  cases t.slot with
  | none => rfl
  | some m =>
    dsimp only
    cases m.purpose with
    | insert lap k => rfl
    | mark g => rfl

theorem servedBytes_eq (h : Head) : h.servedBytes =
    byte ((h.served.map fun p => p.1.toNat).getD 0) :: le16 ((h.served.map Prod.snd).getD 0xFFFF) := by
  unfold Head.servedBytes
  split
  next none => rw [none]; rfl
  next served => rw [served]; rfl

theorem leadByte_eq (h : Head) :
    h.leadByte = byte ((h.lastLead.map fun l => l.a.toNat + 2 * l.b.toNat).getD 128) := by
  unfold Head.leadByte
  split
  next none => rw [none]; rfl
  next l lead => rw [lead]; rcases l with ⟨_ | _, _ | _⟩ <;> rfl

theorem serialOrNone_eq (x : Option Serial) : serialOrNone x = le16 (x.getD 0xFFFF).toNat := rfl

/-- The bytes of the detail, as the table of STATION says (R184). -/
theorem detailBytes_fields (r : Reader) : ∃ d0 d1, r.detailBytes = [d0, d1] ∧
    (r.reason = .c00 ∨ r.reason = .c01 → ofLe16 d0 d1 = 0) ∧
    (r.reason ≠ .c00 → r.reason ≠ .c01 → r.detail ≤ 65535 → ofLe16 d0 d1 = r.detail) := by
  unfold Reader.detailBytes
  split_ifs with none fits
  · exact ⟨0, 0, rfl, fun _ => rfl, fun c00 c01 => absurd none (by simp [c00, c01])⟩
  · exact ⟨_, _, rfl, fun h => absurd h none, fun _ _ _ => by rw [ofLe16_split]; omega⟩
  · exact ⟨_, _, rfl, fun h => absurd h none, fun _ _ h => absurd h fits⟩

namespace State

theorem stationLaid (s : State) : s.StationLaid := by
  obtain ⟨d0, d1, detail, zero, value⟩ := detailBytes_fields s.reader
  have condition : leAt s.stationAnswer 32 1 = s.conditionByte.toNat := by
    simp [State.stationAnswer, detail, moveBytes_eq, servedBytes_eq, coordBytes, le16, leAt_one]
  have details : leAt s.stationAnswer 5 2 = ofLe16 d0 d1 := by
    simp [State.stationAnswer, detail, leAt_two]
  refine ⟨?length, ?fields, fun h => details.trans (zero h), fun c00 c01 fits => details.trans (value c00 c01 fits),
    fun h => ?still, fun k h => ?stalled⟩
  case still =>
    rw [condition, State.conditionByte]
    rcases h with h | ⟨k, h⟩ <;> rw [h] <;> rfl
  case stalled =>
    rw [condition, State.conditionByte, h]
    rfl
  all_goals
    simp only [State.stationAnswer, detail, moveBytes_eq, servedBytes_eq, leadByte_eq, serialOrNone_eq, coordBytes, le16,
      List.cons_append, List.nil_append, oldest_eq]
  case length => rfl
  case fields =>
    simp only [laid_cons, laid_nil, and_true, leAt_one, leAt_two, List.getD_cons_zero, List.getD_cons_succ,
      Nat.reducePow, Nat.reduceAdd, ofLe16_split, byte_toNat, flagByte_field, byte_field]

/-! ## QUEUE -/

theorem depthByte_eq (s : State) (h : Header) (held : s.hdr = some h) : s.depthByte = byte h.depth := by
  unfold State.depthByte
  rw [held]

/-- The reader's next step, as the table of QUEUE says (R62). -/
theorem nextStep_eq {r : Reader} {lap : Lap} {k : Nat}
    (next : (∃ b rest, r.buffer = b :: rest ∧ lap = b.lap ∧ k = b.ordinal) ∨
      (r.buffer = [] ∧ ∃ d c, r.read = some d ∧ d.cursor = some c ∧ d.discarded = false ∧ lap = c.lap ∧ k = c.ordinal) ∨
      (r.buffer = [] ∧ (∀ d c, r.read = some d → d.cursor = some c → d.discarded = true) ∧
        lap = r.cursor.lap ∧ k = r.cursor.ordinal)) : r.nextStep = (lap, k) := by
  unfold Reader.nextStep
  rcases next with ⟨b, rest, buffer, rfl, rfl⟩ | ⟨buffer, d, c, read, cursor, kept, rfl, rfl⟩ | ⟨buffer, none, rfl, rfl⟩
  · rw [buffer]
  · rw [buffer, read]
    simp [cursor, kept]
  · rw [buffer]
    cases read : r.read with
    | none => rfl
    | some d =>
      cases cursor : d.cursor with
      | none => simp [cursor]
      | some c => simp [cursor, none d c read cursor]

theorem Entry.bytes_length (e : Entry) : e.bytes.length = 17 := rfl

theorem queueLaid (s : State) : s.QueueLaid := by
  have front : s.queueAnswer = [flagByte s.tape.feeding, byte s.tape.fault.code, flagByte s.tape.flush.isSome,
      byte ((s.tape.flush.map BitVec.toNat).getD 0), byte s.reader.nextStep.1.toNat,
      BitVec.ofNat 8 s.reader.nextStep.2, BitVec.ofNat 8 (s.reader.nextStep.2 / 256), s.depthByte,
      byte s.tape.queue.length] ++ (s.tape.queue.flatMap Entry.bytes ++ []) := by
    simp [State.queueAnswer, le16]
  refine ⟨?length, ?fields, fun h held => ?depth, fun lap k next => ?next, fun i e entry => ?entry⟩
  case length =>
    simp [front, List.length_flatMap, Entry.bytes_length]
    omega
  case fields => simp [front, laid_cons, laid_nil, leAt_one, flagByte_field, byte_toNat]
  case depth => simp [front, leAt_one, depthByte_eq s h held, byte_toNat]
  case next => simp [front, laid_cons, laid_nil, leAt_one, leAt_two, nextStep_eq next, ofLe16_split, byte_toNat]
  case entry =>
    have field (k n : Nat) (inside : k + n ≤ 17) : leAt s.queueAnswer (9 + 17 * i + k) n = leAt e.bytes k n := by
      rw [front]
      exact leAt_flatMap (fun e _ => Entry.bytes_length e) entry _ [] inside
    refine laid_of_entry field ?_ ?_
    · simp only [List.forall_mem_cons, List.not_mem_nil, false_implies, implies_true, and_true]
      omega
    · rcases decision : e.decision with _ | _ | _ | _ | _ | _ <;>
        simp [Nat.add_sub_add_right, laid_cons, laid_nil, leAt_one, leAt_two, Entry.bytes, le16, ofLe16_split,
          flagByte_field, byte_toNat, decision]

/-! ## ALARMS and MONITORS -/

theorem AlarmEntry.bytes_length (e : AlarmEntry) : e.bytes.length = 7 := rfl

theorem alarmsLaid (s : State) : s.AlarmsLaid := by
  have front : s.alarmsAnswer = [byte s.alarm.list.length, flagByte s.alarm.more] ++
      (s.alarm.list.flatMap AlarmEntry.bytes ++ []) := by simp [State.alarmsAnswer]
  refine ⟨?length, ?fields, fun i e entry => ?entry⟩
  case length =>
    simp [front, List.length_flatMap, AlarmEntry.bytes_length]
    omega
  case fields => simp [front, laid_cons, laid_nil, leAt_one, flagByte_field, byte_toNat]
  case entry =>
    have field (k n : Nat) (inside : k + n ≤ 7) : leAt s.alarmsAnswer (2 + 7 * i + k) n = leAt e.bytes k n := by
      rw [front]
      exact leAt_flatMap (fun e _ => AlarmEntry.bytes_length e) entry _ [] inside
    refine laid_of_entry field ?_ ?_
    · simp only [List.forall_mem_cons, List.not_mem_nil, false_implies, implies_true, and_true]
      omega
    · simp [Nat.add_sub_add_right, laid_cons, laid_nil, leAt_one, leAt_two, AlarmEntry.bytes, le16, ofLe16_split, fourFlags_eq, byte_toNat]

/-- The record of a monitor in the MONITORS answer. -/
def monitorRecord (s : State) (m : MonitorId) : List Byte := s.settingsBytes m.index ++ (s.alarm.monitor m).bytes

theorem settingsBytes_length (s : State) (n : Nat) : (s.settingsBytes n).length = 6 := by
  unfold State.settingsBytes
  split <;> simp [MonitorSettings.bytes, le16]

theorem monitorRecord_length (s : State) (m : MonitorId) : (s.monitorRecord m).length = 10 := by
  simp [monitorRecord, settingsBytes_length, Monitor.bytes, le16]

theorem monitorsAnswer_eq (s : State) :
    s.monitorsAnswer = [MonitorId.m0, .m1, .m2, .m3, .m4, .m5].flatMap s.monitorRecord := by
  simp [State.monitorsAnswer, monitorRecord, MonitorId.index, Alarm.monitor]

theorem monitorsLaid (s : State) : s.MonitorsLaid := by
  refine ⟨by simp [monitorsAnswer_eq, monitorRecord_length], fun m => ?_⟩
  have entry : [MonitorId.m0, .m1, .m2, .m3, .m4, .m5][m.index]? = some m := by cases m <;> rfl
  have field (k n : Nat) (inside : k + n ≤ 10) :
      leAt s.monitorsAnswer (10 * m.index + k) n = leAt (s.monitorRecord m) k n := by
    have stands := leAt_flatMap (fun m _ => s.monitorRecord_length m) entry [] [] inside
    rw [List.nil_append, List.append_nil, List.length_nil, Nat.zero_add] at stands
    rw [monitorsAnswer_eq, stands]
  have rest (k n : Nat) : leAt (s.monitorRecord m) (6 + k) n = leAt (s.alarm.monitor m).bytes k n := by
    rw [← s.settingsBytes_length m.index]
    exact leAt_append_right _ _ k n
  refine ⟨laid_of_entry field ?_ ?_, fun h c held settings => laid_of_entry field ?_ ?_⟩
  · simp only [List.forall_mem_cons, List.not_mem_nil, false_implies, implies_true, and_true]
    omega
  · have value := rest 0 2
    have flags := rest 2 1
    have count := rest 3 1
    simp [leAt_one, leAt_two, Monitor.bytes, le16, ofLe16_split, byte_toNat, fourFlags_eq] at value flags count
    simp [laid_cons, laid_nil, leAt_one, leAt_two, value, flags, count]
  · simp only [List.forall_mem_cons, List.not_mem_nil, false_implies, implies_true, and_true]
    omega
  · have bytes : s.settingsBytes m.index = c.bytes := by
      rw [State.settingsBytes, held, settings]
    simp [laid_cons, laid_nil, leAt_one, leAt_two, monitorRecord, bytes, MonitorSettings.bytes, le16, ofLe16_split,
      byte_toNat, fourFlags_eq]
    omega

/-! ## PEERS -/

/-- The counters and settings of the link after the thirty entries (R169, R177). -/
def linkBytes (s : State) : List Byte :=
  s.link.counters.bytes ++ (le16 s.link.errors ++ byte s.link.divisor :: le16 s.link.period)

theorem peersAnswer_eq (s : State) : s.peersAnswer = s.link.peers.flatMap Peer.report ++ s.linkBytes := by
  simp [State.peersAnswer, linkBytes]

theorem peersLaid (s : State) (fits : s.PeersFit) : s.PeersLaid := by
  obtain ⟨thirty, ten, -⟩ := fits
  have widths (p : Peer) (hp : p ∈ s.link.peers) : p.report.length = 13 := by
    unfold Peer.report
    split
    next heard => simp [le16, ten p hp heard]
    next => simp [le16, zeros]
  have table : (s.link.peers.flatMap Peer.report).length = 390 := by
    rw [List.length_flatMap, List.map_congr_left (g := fun _ => 13) widths, List.map_const', List.sum_replicate, thirty]
    rfl
  refine ⟨?length, fun a p held => ?peer, ?counters⟩
  case length => simp [peersAnswer_eq, table, linkBytes, LinkCounters.bytes, le16]
  case peer =>
    unfold Link.peer at held
    rw [Option.ite_none_right_eq_some] at held
    obtain ⟨-, entry⟩ := held
    have stands (k n : Nat) (inside : k + n ≤ 13) : leAt s.peersAnswer (13 * (a - 1) + k) n = leAt p.report k n := by
      have field := leAt_flatMap widths entry [] s.linkBytes inside
      rw [List.nil_append, List.length_nil, Nat.zero_add] at field
      rw [peersAnswer_eq, field]
    obtain ⟨rest, drop⟩ := drop_flatMap widths entry [] s.linkBytes
    rw [List.nil_append, List.length_nil, Nat.zero_add, ← peersAnswer_eq] at drop
    refine ⟨laid_of_entry stands ?_ ?_, ?_⟩
    · simp only [List.forall_mem_cons, List.not_mem_nil, false_implies, implies_true, and_true]
      omega
    · simp [laid_cons, laid_nil, leAt_one, leAt_two, Peer.report, le16, ofLe16_split, flagByte_field]
    · rw [← List.drop_drop, drop]
      unfold Peer.report
      split
      next heard => simp [le16, ten p (List.mem_of_getElem? entry) heard]
      next => simp [le16, zeros]
  case counters =>
    have stands (k n : Nat) (_ : k + n ≤ 27) : leAt s.peersAnswer (390 + k) n = leAt s.linkBytes k n := by
      rw [peersAnswer_eq, ← table]
      exact leAt_append_right _ _ k n
    refine laid_of_entry stands ?_ ?_
    · simp only [List.forall_mem_cons, List.not_mem_nil, false_implies, implies_true, and_true]
      omega
    · simp [laid_cons, laid_nil, leAt_one, leAt_two, linkBytes, LinkCounters.bytes, le16, ofLe16_split, byte_toNat]

/-! ## BOARD -/

/-- The bytes of the BOARD answer from the take flag to the counters (R141, R184). -/
def watchBytes (s : State) : List Byte :=
  flagByte s.trav.takeOpen :: (s.trav.releaseBytes ++ byte s.trav.phase.code ::
    (le16 (s.trav.timer.getD 0) ++ s.trav.counterBytes))

/-- The bytes of the BOARD answer that the board record gives (R125, R184). -/
def recordBytes (s : State) : List Byte := (s.work.board.map Board.bytes).getD (zeros 47)

theorem boardAnswer_eq (s : State) : s.boardAnswer = (byte s.trav.arrivals.length ::
    padTo 15 (s.trav.arrivals.flatMap Arrival.bytes)) ++ (s.watchBytes ++ s.recordBytes) := by
  unfold State.boardAnswer recordBytes watchBytes
  cases s.work.board <;> simp

theorem releaseBytes_eq (t : Trav) : t.releaseBytes = flagByte t.release.isSome ::
    (le16 ((t.release.map fun r => r.1.toNat).getD 0) ++ [byte ((t.release.map fun r => r.2.toNat).getD 0)]) := by
  unfold Trav.releaseBytes
  cases t.release with
  | none => rfl
  | some r => simp [byte, flagByte]

theorem watchBytes_length (s : State) : s.watchBytes.length = 20 := by
  simp [watchBytes, releaseBytes_eq, Trav.counterBytes, le16]

theorem recordBytes_first (s : State) : ∃ rest, s.recordBytes = flagByte s.work.board.isSome :: rest := by
  unfold recordBytes
  cases s.work.board <;> exact ⟨_, rfl⟩

theorem slots_length (s : State) :
    (s.trav.arrivals.flatMap Arrival.bytes).length = 5 * s.trav.arrivals.length := by
  simp [List.length_flatMap, Arrival.bytes, le16]
  omega

end State

/-- The bytes of a board record up to its missed list (R125). -/
def Board.frontBytes (b : Board) : List Byte :=
  byte 1 :: le16 b.serial.toNat ++ [flagByte b.lap.isSome, byte ((b.lap.map BitVec.toNat).getD 0)]
    ++ maskBytes b.mask ++ rejectByte b.reject :: le16 b.inserted ++ le16 b.missed ++ le16 b.passed ++ le16 b.overflow
    ++ [byte b.holds.toNat, flagByte b.ownStage.isSome, byte b.missList.length]

/-- The bytes of a board record after its missed list (R125). -/
def Board.stagesBytes (b : Board) : List Byte :=
  byte b.dropped :: byte b.stages.length :: b.stages.flatMap stageBytes

namespace Board
variable {b : Board}

theorem bytes_eq (b : Board) :
    b.bytes = b.frontBytes ++ (padTo 24 (b.missList.flatMap missBytes) ++ b.stagesBytes) := by
  simp [Board.bytes, frontBytes, stagesBytes, byte]

theorem bytes_past (listed : b.missList.length ≤ 8) :
    b.bytes.drop 45 = b.stagesBytes := by
  have misses := missesBytes_length b.missList
  have length : (b.frontBytes ++ padTo 24 (b.missList.flatMap missBytes)).length = 45 := by
    rw [List.length_append, padTo_length (by omega)]
    rfl
  rw [bytes_eq, ← List.append_assoc, ← length, List.drop_left]

theorem leAt_mask (b : Board) : leAt b.bytes 5 4 = b.mask.toNat % 256 ^ 4 := by
  have four : leAt b.bytes 5 4 = leAt (maskBytes b.mask) 0 4 := rfl
  rw [four, leAt_maskBytes]
  omega

/-- A board record's bytes lie as the table of BOARD says (R184). -/
theorem bytesLaid (listed : b.missList.length ≤ 8) : Laid b.bytes
    [(1, 2, b.serial.toNat), (3, 1, b.lap.isSome.toNat), (4, 1, (b.lap.map BitVec.toNat).getD 0), (5, 4, b.mask.toNat),
      (9, 1, rejectNumber b.reject), (10, 2, b.inserted), (12, 2, b.missed), (14, 2, b.passed), (16, 2, b.overflow),
      (18, 1, b.holds.toNat), (19, 1, b.ownStage.isSome.toNat), (20, 1, b.missList.length), (45, 1, b.dropped),
      (46, 1, b.stages.length)] := by
  have past (k n : Nat) : leAt b.bytes (45 + k) n = leAt b.stagesBytes k n := by
    rw [← leAt_drop, bytes_past listed]
  have dropped := past 0 1
  have stages := past 1 1
  simp only [Nat.reduceAdd, stagesBytes] at dropped stages
  simp only [laid_cons, laid_nil, and_true, leAt_mask, dropped, stages]
  simp [leAt_one, leAt_two, bytes_eq, frontBytes, le16, ofLe16_split, byte_toNat, flagByte_field, rejectByte_field,
    maskBytes, -BitVec.ofNat_toNat]

end Board

namespace State

theorem boardLaid (s : State) (within : s.WithinRoom) (counted : s.MissesCounted) : s.BoardLaid := by
  obtain ⟨-, -, -, room⟩ := within
  have slots := s.slots_length
  have front : (byte s.trav.arrivals.length :: padTo 15 (s.trav.arrivals.flatMap Arrival.bytes)).length = 16 := by
    rw [List.length_cons, padTo_length (by omega)]
  have length : s.boardAnswer.length = 36 + s.recordBytes.length := by
    rw [boardAnswer_eq, List.length_append, front, List.length_append, watchBytes_length]
    omega
  have beyond : s.boardAnswer.drop 36 = s.recordBytes := by
    rw [boardAnswer_eq, ← List.append_assoc]
    exact List.drop_left' (by rw [List.length_append, front, watchBytes_length])
  have watch (k n : Nat) : leAt s.boardAnswer (16 + k) n = leAt (s.watchBytes ++ s.recordBytes) k n := by
    rw [boardAnswer_eq, ← front]
    exact leAt_append_right _ _ k n
  have record (k n : Nat) : leAt s.boardAnswer (36 + k) n = leAt s.recordBytes k n := by
    rw [← leAt_drop, beyond]
  have table : s.boardAnswer = [byte s.trav.arrivals.length] ++
      (padTo 15 (s.trav.arrivals.flatMap Arrival.bytes) ++ (s.watchBytes ++ s.recordBytes)) := boardAnswer_eq s
  refine ⟨?fields, fun i a entry => ?slot, fun i past third => ?unused, fun none => ?none, fun b held => ?some⟩
  case fields =>
    obtain ⟨rest, first⟩ := s.recordBytes_first
    refine (laid_cons _ _ _).2 ⟨?_, laid_of_entry (width := 21) (fun k n _ => watch k n) ?_ ?_⟩
    · rw [table, leAt_one]
      exact byte_toNat _
    · simp only [List.forall_mem_cons, List.not_mem_nil, false_implies, implies_true, and_true]
      omega
    · simp [first, watchBytes, releaseBytes_eq, Trav.counterBytes, laid_cons, laid_nil, leAt_one, leAt_two, le16,
        ofLe16_split, flagByte_field, byte_toNat]
  case slot =>
    refine laid_of_entry (place := 1 + 5 * i) (width := 5) (entry := a.bytes) (fun k n inside => ?_) ?_ ?_
    · rw [table]
      unfold padTo
      rw [List.append_assoc]
      exact leAt_flatMap (width := 5) (fun a _ => rfl) entry [byte s.trav.arrivals.length] _ inside
    · simp only [List.forall_mem_cons, List.not_mem_nil, false_implies, implies_true, and_true]
      omega
    · simp [Nat.add_sub_add_right, laid_cons, laid_nil, leAt_one, leAt_two, Arrival.bytes, le16, ofLe16_split, rejectByte_field,
        -BitVec.ofNat_toNat]
  case unused =>
    rw [table]
    exact leAt_padTo [byte s.trav.arrivals.length] _ _ (by rw [slots]; omega) (by omega)
  case none =>
    have empty : s.recordBytes = zeros 47 := by simp [recordBytes, none]
    refine ⟨by rw [length, empty]; rfl, ?_⟩
    rw [← List.drop_drop (j := 36) (i := 1), beyond, empty]
    rfl
  case some =>
    have bytes : s.recordBytes = b.bytes := by simp [recordBytes, held]
    obtain ⟨-, listed⟩ := counted b held
    rw [bytes] at record beyond
    obtain ⟨before, place, shown⟩ : ∃ before, before.length = 57 ∧
        s.boardAnswer = before ++ (padTo 24 (b.missList.flatMap missBytes) ++ b.stagesBytes) := by
      refine ⟨(byte s.trav.arrivals.length :: padTo 15 (s.trav.arrivals.flatMap Arrival.bytes)) ++
        (s.watchBytes ++ b.frontBytes), ?_, ?_⟩
      · rw [List.length_append, front, List.length_append, watchBytes_length]
        rfl
      · rw [boardAnswer_eq, bytes, Board.bytes_eq]
        simp only [List.append_assoc]
    refine ⟨laid_of_entry (width := 47) (fun k n _ => record k n) ?_ (by simpa using b.bytesLaid listed), ?_,
      fun i past eighth => ?_, ?_⟩
    · simp only [List.forall_mem_cons, List.not_mem_nil, false_implies, implies_true, and_true]
      omega
    · have misses := missesLaid_append before (zeros (24 - (b.missList.flatMap missBytes).length) ++ b.stagesBytes)
        b.missList
      rw [place] at misses
      rw [shown]
      simpa only [padTo, List.append_assoc] using misses
    · rw [shown, ← place]
      have list := missesBytes_length b.missList
      exact leAt_padTo before _ _ (by omega) (by omega)
    · rw [← List.drop_drop (j := 36) (i := 47), beyond, ← List.drop_drop (j := 45) (i := 2), Board.bytes_past listed]
      rfl

end State

end Sys2Proof.Machine
end

section
/-!
# QUERY and its answers (R177)
-/
namespace Sys2Proof.Machine

/-- The parts of 192 bytes that an answer has, and the part asked for (R177). -/
theorem lt_partsOf_iff (run : List Byte) (p : Nat) : p < partsOf run ↔ p * 192 < run.length := by
  have size : Config.partSize = 192 := rfl
  rw [partsOf, size]
  omega

theorem answerPayload_of_part (item : Byte) {run : List Byte} {p : Byte} (part : p.toNat * 192 < run.length) :
    answerPayload item run p =
      [1, item, p, byte ((run.length + 191) / 192), 0] ++ (run.drop (192 * p.toNat)).take 192 :=
  if_pos ((lt_partsOf_iff run _).2 part)

theorem answerPayload_of_past (item : Byte) {run : List Byte} {p : Byte} (past : run.length ≤ p.toNat * 192) :
    answerPayload item run p = [1, item, p, byte ((run.length + 191) / 192), 2] :=
  if_neg (mt (lt_partsOf_iff run _).1 (by omega))

namespace State
variable {s t : State} {f : Frame} {rest : List Frame} {payload : List Byte}

theorem report_of_room (room : s.link.tx.length < 4) (payload : List Byte) :
    s.report payload = s.queueFrame 5 31 payload := if_pos ((s.link.hasRoom_iff).2 room)

theorem report_of_full (full : 4 ≤ s.link.tx.length) (payload : List Byte) : s.report payload =
    s.modLink fun l => { l with counters := { l.counters with unanswered := bump l.counters.unanswered } } :=
  if_neg (mt (s.link.hasRoom_iff).1 (by omega))

theorem report_only (s : State) (payload : List Byte) {ps : List Part} (link : .link ∈ ps) : s.Only (s.report payload) ps := by
  unfold State.report State.queueFrame
  split <;> exact .modLink s _ link

/-- A QUERY that leaves the queue is answered at a transmit queue with room. -/
theorem Answers.of_report (queue : s.link.rx = f :: rest) (room : s.link.tx.length < 4) (payload : List Byte) :
    s.Answers (s.settle (s.handDone.report payload)) rest payload := by
  rw [report_of_room (s := s.handDone) room]
  simp [State.Answers, State.queueFrame, handDone_link queue]
  rfl

/-- A QUERY that leaves the queue is counted unanswered at a full transmit queue. -/
theorem Unanswered.of_report (queue : s.link.rx = f :: rest) (full : 4 ≤ s.link.tx.length) (payload : List Byte) :
    s.Unanswered (s.settle (s.handDone.report payload)) rest := by
  rw [report_of_full (s := s.handDone) full]
  simp [State.Unanswered, handDone_link queue]

theorem handDone_report_keepsBut (s : State) (payload : List Byte) :
    s.KeepsBut (s.settle (s.handDone.report payload)) [.link] :=
  keepsBut_settle ((s.handDone_only (by simp)).trans (report_only _ _ (by simp))).keepsBut

theorem execQueryStation_eq (s : State) : execQueryStation s =
    (s.asked itemStation).elim (.next s) fun p => .next (s.settle (s.answer itemStation p s.stationAnswer)) := by
  unfold execQueryStation
  cases s.asked itemStation <;> rfl

theorem execQueryBoard_eq (s : State) : execQueryBoard s =
    (s.asked itemBoard).elim (.next s) fun p => .next (s.settle (s.answer itemBoard p s.boardAnswer)) := by
  unfold execQueryBoard
  cases s.asked itemBoard <;> rfl

theorem execQueryQueue_eq (s : State) : execQueryQueue s =
    (s.asked itemQueue).elim (.next s) fun p => .next (s.settle (s.answer itemQueue p s.queueAnswer)) := by
  unfold execQueryQueue
  cases s.asked itemQueue <;> rfl

theorem execQueryAlarms_eq (s : State) : execQueryAlarms s =
    (s.asked itemAlarms).elim (.next s) fun p => .next (s.settle (s.answer itemAlarms p s.alarmsAnswer)) := by
  unfold execQueryAlarms
  cases s.asked itemAlarms <;> rfl

theorem execQueryMonitors_eq (s : State) : execQueryMonitors s =
    (s.asked itemMonitors).elim (.next s) fun p => .next (s.settle (s.answer itemMonitors p s.monitorsAnswer)) := by
  unfold execQueryMonitors
  cases s.asked itemMonitors <;> rfl

theorem execQueryPeers_eq (s : State) : execQueryPeers s =
    (s.asked itemPeers).elim (.next s) fun p => .next (s.settle (s.answer itemPeers p s.peersAnswer)) := by
  unfold execQueryPeers
  cases s.asked itemPeers <;> rfl

/-- The six rows differ in their item and answer alone. -/
theorem exec_query {item : Byte} {c : Instr} {run : List Byte} (row : (item, c, run) ∈ s.queryRows) :
    exec c s = (s.asked item).elim (.next s) fun p => .next (s.settle (s.answer item p run)) := by
  simp only [State.queryRows, List.mem_cons, List.not_mem_nil, or_false, Prod.mk.injEq] at row
  rcases row with ⟨rfl, rfl, rfl⟩ | ⟨rfl, rfl, rfl⟩ | ⟨rfl, rfl, rfl⟩ | ⟨rfl, rfl, rfl⟩ | ⟨rfl, rfl, rfl⟩ |
    ⟨rfl, rfl, rfl⟩
  · exact s.execQueryStation_eq
  · exact s.execQueryBoard_eq
  · exact s.execQueryQueue_eq
  · exact s.execQueryAlarms_eq
  · exact s.execQueryMonitors_eq
  · exact s.execQueryPeers_eq

theorem front_of_handed {kind : Byte} (handed : s.handed kind = some f) :
    s.link.handing = true ∧ f.kind = kind ∧ ∃ rest, s.link.rx = f :: rest := by
  unfold State.handed at handed
  split at handed
  next handing =>
    obtain ⟨front, isKind⟩ := Option.filter_eq_some_iff.1 handed
    exact ⟨handing, by simpa using isKind, List.head?_eq_some_iff.1 front⟩
  next => cases handed

theorem asked_of (queue : s.link.rx = f :: rest) (handing : s.link.handing = true) (kind : f.kind = 4) :
    s.asked (f.payload.getD 0 0) = some (f.payload.getD 1 0) := by
  unfold State.asked
  rw [handed_of queue handing (kind := kindQuery) kind]
  exact if_pos rfl

theorem asked_eq_none {item : Byte} (other : ∀ f rest, s.link.rx = f :: rest → s.link.handing = true → f.kind = 4 →
    f.payload.getD 0 0 ≠ item) : s.asked item = none := by
  unfold State.asked
  rw [Option.bind_eq_none_iff]
  intro f handed
  obtain ⟨handing, kind, rest, queue⟩ := front_of_handed handed
  exact if_neg (other f rest queue handing kind)

end State

/-- Settles O59: the answers by their layouts, the six rows by one argument. -/
theorem queriesAreAnsweredInParts : Obligations.QueriesAreAnsweredInParts := by
  intro s
  refine ⟨s.stationLaid, s.queueLaid, s.alarmsLaid, s.monitorsLaid, s.peersLaid,
    fun within counted => ⟨s.boardLaid within counted, fun b _ g _ => stageLaid g⟩,
    fun item c run row => ⟨fun other => ?idle, fun f rest queue handing kind asks => ?answer⟩,
    fun other => ?known, fun f rest queue handing kind outside => ?noItem⟩
  case idle =>
    rw [State.exec_query row, State.asked_eq_none other]
    rfl
  case answer =>
    subst asks
    have exec := State.exec_query row
    rw [State.asked_of queue handing kind] at exec
    refine ⟨_, exec, s.handDone_report_keepsBut _, fun full => .of_report queue full _, fun room part => ?_,
      fun room past => ?_⟩
    · rw [← answerPayload_of_part _ part]
      exact .of_report queue room _
    · rw [← answerPayload_of_past _ past]
      exact .of_report queue room _
  case known =>
    change execQueryNoItem s = _
    unfold execQueryNoItem
    split
    next f handed =>
      obtain ⟨handing, kind, rest, queue⟩ := State.front_of_handed handed
      exact if_pos (by simpa [knownItem, within] using other f rest queue handing kind)
    next => rfl
  case noItem =>
    have row : exec .queryNoItem s =
        .next (s.settle (s.handDone.report (noItemPayload (f.payload.getD 0 0) (f.payload.getD 1 0)))) := by
      change execQueryNoItem s = _
      unfold execQueryNoItem
      rw [State.handed_of queue handing (kind := kindQuery) kind]
      refine if_neg ?_
      simp only [knownItem, within, Bool.and_eq_true, decide_eq_true_eq]
      omega
    exact ⟨_, row, s.handDone_report_keepsBut _, fun full => .of_report queue full _,
      fun room => .of_report queue room _⟩

end Sys2Proof.Machine
end

section
/-!
# What passes start-up reading (R2 to R6, R9 to R13)
-/
namespace Sys2Proof.Machine

/-! ## The header fields in index order (R9) -/

/-- The checks of a list are those of the header fields from an index on, in order. -/
def Checked (w : Nat → Nat) : Nat → List (Nat × Bool) → Prop
  | _, [] => True
  | i, c :: cs => c.1 = i ∧ (c.2 = true ↔ HeaderField w i) ∧ Checked w (i + 1) cs

namespace Checked
variable {w : Nat → Nat} {i k : Nat} {cs ds : List (Nat × Bool)}

theorem append (first : Checked w i cs) (rest : Checked w (i + cs.length) ds) : Checked w i (cs ++ ds) := by
  induction cs generalizing i with
  | nil => exact rest
  | cons c cs ih =>
    obtain ⟨index, field, others⟩ := first
    exact ⟨index, field, ih others (by rwa [List.length_cons, Nat.add_comm cs.length, ← Nat.add_assoc] at rest)⟩

theorem range {n : Nat} {check : Nat → Bool} (fields : ∀ k < n, check k = true ↔ HeaderField w (i + k)) :
    Checked w i ((List.range n).map fun k => (i + k, check k)) := by
  induction n with
  | zero => trivial
  | succ n ih =>
    rw [List.range_succ, List.map_append]
    refine append (ih fun k hk => fields k (by omega)) ?_
    rw [List.length_map, List.length_range]
    exact ⟨rfl, fields n (by omega), trivial⟩

/-- The first check that fails is that of the first field out of its range. -/
theorem find_eq_some (checked : Checked w i cs) : (cs.find? fun c => !c.2).map Prod.fst = some k ↔
    i ≤ k ∧ k < i + cs.length ∧ ¬HeaderField w k ∧ ∀ j, i ≤ j → j < k → HeaderField w j := by
  induction cs generalizing i with
  | nil => simp; omega
  | cons c cs ih =>
    obtain ⟨index, field, others⟩ := checked
    rw [List.length_cons]
    by_cases passes : HeaderField w i
    · rw [List.find?_cons_of_neg (by simp [field.2 passes]), ih others]
      constructor
      · rintro ⟨past, before, fails, rest⟩
        refine ⟨by omega, by omega, fails, fun j from' below => ?_⟩
        rcases from'.eq_or_lt with rfl | past'
        · exact passes
        · exact rest j past' below
      · rintro ⟨past, before, fails, rest⟩
        have other : i ≠ k := by rintro rfl; exact fails passes
        exact ⟨by omega, by omega, fails, fun j from' below => rest j (by omega) below⟩
    · rw [List.find?_cons_of_pos (by simpa using mt field.1 passes), Option.map_some, index, Option.some.injEq]
      constructor
      · rintro rfl
        exact ⟨le_rfl, by omega, passes, fun j from' below => by omega⟩
      · rintro ⟨past, -, -, rest⟩
        by_contra other
        exact passes (rest i le_rfl (by omega))

theorem find_eq_none (checked : Checked w i cs) : (cs.find? fun c => !c.2).map Prod.fst = none ↔
    ∀ j, i ≤ j → j < i + cs.length → HeaderField w j := by
  induction cs generalizing i with
  | nil => simp; omega
  | cons c cs ih =>
    obtain ⟨index, field, others⟩ := checked
    rw [List.length_cons]
    by_cases passes : HeaderField w i
    · rw [List.find?_cons_of_neg (by simp [field.2 passes]), ih others]
      constructor
      · intro rest j from' before
        rcases from'.eq_or_lt with rfl | past
        · exact passes
        · exact rest j past (by omega)
      · exact fun rest j from' before => rest j (by omega) (by omega)
    · rw [List.find?_cons_of_pos (by simpa using mt field.1 passes)]
      simp only [Option.map_some, reduceCtorEq, false_iff]
      exact fun rest => passes (rest i le_rfl (by omega))

end Checked

theorem moveTime_field {w : Nat → Nat} {b : Nat} (hb : b < 32) :
    within 1 2000 (w (10 + b)) = true ↔ HeaderField w (10 + b) := by
  simp only [within, HeaderField, Bool.and_eq_true, decide_eq_true_eq]
  constructor
  · rintro ⟨low, high⟩
    refine ⟨?_, ?_, ?_, ?_, ?_, ?_, ?_, ?_, fun _ => ⟨low, high⟩, ?_, ?_, ?_, ?_, ?_, ?_, ?_, ?_, ?_, ?_, ?_, ?_, ?_, ?_,
      ?_, ?_⟩ <;> omega
  · rintro ⟨-, -, -, -, -, -, -, -, field, -⟩
    exact field (by omega)

theorem monitor_field {w : Nat → Nat} {n : Nat} (hn : n < 6) :
    (within 1 15 (w (56 + 3 * n) % 16) && decide (w (56 + 3 * n) / 128 = 0)) = true ↔ HeaderField w (54 + n) := by
  simp only [within, HeaderField, Bool.and_eq_true, decide_eq_true_eq]
  constructor
  · rintro ⟨⟨low, high⟩, bits⟩
    refine ⟨?_, ?_, ?_, ?_, ?_, ?_, ?_, ?_, ?_, ?_, ?_, ?_, ?_, ?_, ?_, ?_, ?_, fun m _ same => ?_, ?_, ?_, ?_, ?_, ?_,
      ?_, ?_⟩
    case refine_18 =>
      obtain rfl : n = m := by omega
      exact ⟨low, by omega⟩
    all_goals omega
  · rintro ⟨-, -, -, -, -, -, -, -, -, -, -, -, -, -, -, -, -, field, -⟩
    have := field n hn rfl
    omega

theorem forall_monitor_index (k : Nat) (P : Nat → Prop) :
    (∀ n, n < 6 → k = 54 + n → P n) ↔ (54 ≤ k → k < 60 → P (k - 54)) := by
  constructor
  · exact fun all past before => all (k - 54) (by omega) (by omega)
  · rintro one n small rfl
    simpa using one (by omega) (by omega)

theorem headerChecks_checked (w : Nat → Nat) : Checked w 1 (headerChecks w) := by
  have first : Config.headerWords = 79 := rfl
  have last : Config.lastWord = 65535 := rfl
  unfold headerChecks
  refine .append (.append (.append (.append ?_ ?_) ?_) ?_) ?_
  · simp [Checked, HeaderField, within, forall_monitor_index]
  · exact Checked.range fun b hb => moveTime_field hb
  · simp [Checked, HeaderField, within, forall_monitor_index]
  · exact Checked.range fun n hn => monitor_field hn
  · simp [Checked, HeaderField, within, forall_monitor_index, allOnes, first, last]

end Sys2Proof.Machine
end

section
/-!
# The header's values, row entries, step records and targets (R2 to R6, R10 to R12)
-/
namespace Sys2Proof.Machine

/-! ## The header's values (R2, R3) -/

/-- A running maximum is reached at an entry not past its own, or is the value before. -/
theorem runningMax_getD {ts : List Nat} {m k : Nat} (inside : k < ts.length) :
    m ≤ (runningMax m ts).getD k 0 ∧ (∀ j, j ≤ k → ts.getD j 0 ≤ (runningMax m ts).getD k 0) ∧
      ((runningMax m ts).getD k 0 = m ∨ ∃ j, j ≤ k ∧ (runningMax m ts).getD k 0 = ts.getD j 0) := by
  induction ts generalizing m k with
  | nil => cases inside
  | cons t ts ih =>
    cases k with
    | zero =>
      simp only [runningMax, List.getD_cons_zero, Nat.le_zero, forall_eq, exists_eq_left]
      refine ⟨le_max_left _ _, le_max_right _ _, ?_⟩
      rcases le_total t m with less | more
      · exact .inl (max_eq_left less)
      · exact .inr (max_eq_right more)
    | succ k =>
      obtain ⟨before, bounds, reached⟩ := ih (m := max m t) (k := k) (by simpa using inside)
      simp only [runningMax, List.getD_cons_succ]
      refine ⟨(le_max_left _ _).trans before, fun j hj => ?_, ?_⟩
      · cases j with
        | zero => exact (le_max_right _ _).trans before
        | succ j => exact bounds j (by omega)
      · rcases reached with same | ⟨j, hj, same⟩
        · rcases le_total t m with less | more
          · exact .inl (same.trans (max_eq_left less))
          · exact .inr ⟨0, by omega, same.trans (max_eq_right more)⟩
        · exact .inr ⟨j + 1, by omega, same⟩

theorem headerOf_reads (w : Nat → Nat) : HeaderReads w (headerOf w) := by
  refine ⟨rfl, by simp [headerOf, runningMax_length], fun b first last => ?times, rfl, fun n hn => ?monitors, rfl, rfl, rfl,
    rfl, rfl⟩
  case times =>
    have word (j : Nat) (h : j < 32) : ((List.range 32).map fun b => w (10 + b)).getD j 0 = w (10 + j) := by
      rw [List.getD_eq_getElem _ _ (by simpa using h)]
      simp
    obtain ⟨-, bounds, reached⟩ := runningMax_getD (ts := (List.range 32).map fun b => w (10 + b)) (m := 0) (k := b - 1)
      (by simp; omega)
    refine ⟨fun j low high => ?_, ?_⟩
    · have bound := bounds (j - 1) (by omega)
      rwa [word _ (by omega), show 10 + (j - 1) = 9 + j by omega] at bound
    · have first' := bounds 0 (by omega)
      rw [word 0 (by decide)] at first'
      rcases reached with zero | ⟨j, low, same⟩
      · refine ⟨1, le_rfl, first, ?_⟩
        change (runningMax 0 _).getD (b - 1) 0 = w 10
        have : w (10 + 0) = w 10 := rfl
        omega
      · refine ⟨j + 1, by omega, by omega, ?_⟩
        rw [word _ (by omega)] at same
        rw [show 9 + (j + 1) = 10 + j by omega]
        exact same
  case monitors =>
    change ((List.range 6).map fun n => monitorSettingsOf (w (54 + 3 * n)) (w (55 + 3 * n)) (w (56 + 3 * n))).getD n default = _
    rw [List.getD_eq_getElem _ _ (by simpa using hn)]
    simp [monitorSettingsOf]

/-! ## A row entry and a step record (R5, R6, R10, R11) -/

theorem rowEntryOf_iff (w0 : Word) (ws : List Word) (e : RowEntry) : rowEntryOf w0 ws = some e ↔ RowEntryReads w0 ws e := by
  have first : Config.headerWords = 79 := rfl
  unfold rowEntryOf RowEntryReads
  simp only [Option.ite_none_right_eq_some, Bool.and_eq_true, Bool.or_eq_true, decide_eq_true_eq, beq_iff_eq, first,
    Option.some.injEq, rowImages, wordAt]
  constructor
  · rintro ⟨⟨⟨⟨⟨⟨⟨⟨⟨⟨⟨images, x0⟩, y0⟩, px⟩, py⟩, order⟩, mx⟩, my⟩, bits⟩, high⟩, list⟩, rfl⟩
    refine ⟨rfl, of_decide_eq_true images, bits, by omega, ?_, rfl, rfl, rfl, list, rfl, of_decide_eq_true x0, rfl,
      of_decide_eq_true y0, rfl, px.1, px.2, rfl, py.1, py.2, rfl, of_decide_eq_true mx, rfl, of_decide_eq_true my⟩
    rcases order with one | two
    · exact .inl ⟨one, if_pos one⟩
    · exact .inr ⟨two, if_neg (by omega)⟩
  · rintro ⟨images, few, bits, high, order, hold, mark, list, past, x0, x0', y0, y0', px, px1, px2, py, py1, py2, mx, mx',
      my, my'⟩
    have walk : e.order = if w0.toNat / 256 % 4 = 1 then .imageMajor else .stepMajor := by
      rcases order with ⟨one, same⟩ | ⟨two, same⟩
      · rw [same, if_pos one]
      · rw [same, if_neg (by omega)]
    rw [images] at few
    rw [x0] at x0'
    rw [y0] at y0'
    rw [px] at px1 px2
    rw [py] at py1 py2
    rw [mx] at mx'
    rw [my] at my'
    rw [list] at past
    refine ⟨⟨⟨⟨⟨⟨⟨⟨⟨⟨⟨decide_eq_true few, decide_eq_true x0'⟩, decide_eq_true y0'⟩, px1, px2⟩, py1, py2⟩, ?_⟩,
      decide_eq_true mx'⟩, decide_eq_true my'⟩, bits⟩, by omega⟩, past⟩, ?_⟩
    · exact order.imp And.left And.left
    · cases e
      simp only [RowEntry.mk.injEq]
      exact ⟨list.symm, images.symm, x0.symm, y0.symm, px.symm, py.symm, walk.symm, hold.symm, mark.symm, mx.symm,
        my.symm⟩

theorem checkKindOfCode_iff (n : Nat) (kind : CheckKind) : checkKindOfCode n = some kind ↔ kind.code = n := by
  constructor
  · intro reads
    unfold checkKindOfCode at reads
    split at reads <;> cases reads <;> rfl
  · rintro rfl
    cases kind <;> rfl

/-- The fields of a record that its kind reads or leaves 0 (R11). -/
theorem stepFields_iff (kind : CheckKind) (r : StepRecord) :
    (if kind = .res then within 10 99 r.m && decide (r.e ≤ 6) && decide (r.tol ≤ 5)
      else r.m == 0 && r.e == 0 && r.tol == 0) = true ↔
      (kind = .res → 10 ≤ r.m ∧ r.m ≤ 99 ∧ r.e ≤ 6 ∧ r.tol ≤ 5) ∧ (kind ≠ .res → r.m = 0 ∧ r.e = 0 ∧ r.tol = 0) := by
  by_cases res : kind = .res
  · simp [res, within, and_assoc]
  · simp [res, and_assoc]

theorem checkedStep_eq_some (lo hi : Nat) (ws : List Word) (r : StepRecord) : checkedStep lo hi ws = some r ↔
    ∃ kind : CheckKind, kind.code = wordAt ws 2 / 1024 % 8 ∧ stepRecordOf ws kind = r ∧ r.x ≤ 16383 ∧ r.y ≤ 16383 ∧
      lo ≤ r.span ∧ r.span ≤ hi ∧ wordAt ws 2 / 8192 = 0 ∧ wordAt ws 3 / 8192 = 0 ∧
      (kind = .res → 10 ≤ r.m ∧ r.m ≤ 99 ∧ r.e ≤ 6 ∧ r.tol ≤ 5) ∧ (kind ≠ .res → r.m = 0 ∧ r.e = 0 ∧ r.tol = 0) := by
  unfold checkedStep
  rw [Option.bind_eq_some_iff]
  refine exists_congr fun kind => and_congr (checkKindOfCode_iff _ _) ?_
  generalize stepRecordOf ws kind = q
  dsimp only
  rw [Option.ite_none_right_eq_some, Option.some.injEq, Bool.and_eq_true, stepFields_iff]
  simp only [within, Bool.and_eq_true, decide_eq_true_eq]
  constructor
  · rintro ⟨⟨⟨⟨⟨⟨x, y⟩, low, high⟩, w2⟩, w3⟩, fields⟩, rfl⟩
    exact ⟨rfl, x, y, low, high, w2, w3, fields⟩
  · rintro ⟨rfl, x, y, low, high, w2, w3, fields⟩
    exact ⟨⟨⟨⟨⟨⟨x, y⟩, low, high⟩, w2⟩, w3⟩, fields⟩, rfl⟩

theorem checkedStep_iff (lo hi : Nat) (ws : List Word) (r : StepRecord) :
    checkedStep lo hi ws = some r ↔ StepReads lo hi ws r := by
  rw [checkedStep_eq_some]
  constructor
  · rintro ⟨kind, code, rfl, x, y, low, high, w2, w3, fields⟩
    unfold wordAt at w2 w3
    exact ⟨rfl, x, rfl, y, rfl, low, high, BitVec.toNat_ofNat .., code, by omega, rfl, rfl, rfl, by omega, fields⟩
  · rintro ⟨x, x', y, y', span, low, high, turret, code, w2, m, e, tol, w3, fields⟩
    have record : stepRecordOf ws r.kind = r := by
      cases r
      simp only [stepRecordOf, wordAt, StepRecord.mk.injEq]
      exact ⟨x.symm, y.symm, span.symm, BitVec.eq_of_toNat_eq ((BitVec.toNat_ofNat ..).trans turret.symm), trivial, m.symm,
        e.symm, tol.symm⟩
    refine ⟨r.kind, code, record, x', y', low, high, ?_, ?_, fields⟩ <;>
      (unfold wordAt; omega)

/-! ## Targets and mark points (R12) -/

theorem inTravel_iff (xmax ymax : Nat) (p : Int × Int) :
    inTravel xmax ymax p = true ↔ 0 ≤ p.1 ∧ p.1 ≤ xmax ∧ 0 ≤ p.2 ∧ p.2 ≤ ymax := by
  simp [inTravel, and_assoc]

theorem inTravel_stepTarget_iff (xmax ymax : Nat) (e : RowEntry) (i : Nat) (r : StepRecord) :
    inTravel xmax ymax (e.stepTarget i r) = true ↔ e.InTravel xmax ymax i r.x r.y := inTravel_iff ..

theorem inTravel_markPoint_iff (xmax ymax : Nat) (e : RowEntry) (i : Nat) :
    inTravel xmax ymax (e.markPoint i) = true ↔ e.InTravel xmax ymax i e.mx e.my := inTravel_iff ..

/-- The first entry of a list that gives a value. -/
theorem findSome?_eq_some_iff_index {α β : Type} {f : α → Option β} {l : List α} {b : β} : l.findSome? f = some b ↔
    ∃ (i : Nat) (a : α), l[i]? = some a ∧ f a = some b ∧ ∀ (j : Nat) (c : α), j < i → l[j]? = some c → f c = none := by
  induction l with
  | nil => simp
  | cons x xs ih =>
    cases first : f x with
    | some y =>
      simp only [List.findSome?_cons, first]
      constructor
      · rintro ⟨⟩
        exact ⟨0, x, rfl, first, fun j c h => absurd h (by omega)⟩
      · rintro ⟨i, a, here, value, none⟩
        cases i with
        | zero =>
          cases here
          rw [← first, value]
        | succ i =>
          rw [none 0 x (by omega) rfl] at first
          cases first
    | none =>
      simp only [List.findSome?_cons, first]
      rw [ih]
      constructor
      · rintro ⟨i, a, here, value, none⟩
        refine ⟨i + 1, a, here, value, fun j c before there => ?_⟩
        cases j with
        | zero => cases there; exact first
        | succ j => exact none j c (by omega) there
      · rintro ⟨i, a, here, value, none⟩
        cases i with
        | zero => cases here; rw [first] at value; cases value
        | succ i => exact ⟨i, a, here, value, fun j c before there => none (j + 1) c (by omega) there⟩

theorem rowTargetOut_eq_some (xmax ymax : Nat) (e : RowEntry) (steps : List StepRecord) (i k : Nat) :
    (steps.zipIdx.findSome? fun rs => if inTravel xmax ymax (e.stepTarget i rs.1) then none else some rs.2) = some k ↔
      ∃ r, steps[k]? = some r ∧ ¬e.InTravel xmax ymax i r.x r.y ∧
        ∀ j q, j < k → steps[j]? = some q → e.InTravel xmax ymax i q.x q.y := by
  simp only [findSome?_eq_some_iff_index, List.getElem?_zipIdx, Option.map_eq_some_iff, Nat.zero_add,
    ← inTravel_stepTarget_iff, Option.ite_none_left_eq_some, Option.some.injEq]
  constructor
  · rintro ⟨j, -, ⟨r, here, rfl⟩, ⟨outside, rfl⟩, before⟩
    exact ⟨r, here, outside, fun l q less there => by simpa using before l (q, l) less ⟨q, there, rfl⟩⟩
  · rintro ⟨r, here, outside, before⟩
    refine ⟨k, (r, k), ⟨r, here, rfl⟩, ⟨outside, rfl⟩, ?_⟩
    rintro j - less ⟨q, there, rfl⟩
    simpa using before j q less there

theorem rowTargetOut_eq_none (xmax ymax : Nat) (e : RowEntry) (steps : List StepRecord) (i : Nat) :
    (steps.zipIdx.findSome? fun rs => if inTravel xmax ymax (e.stepTarget i rs.1) then none else some rs.2) = none ↔
      ∀ r ∈ steps, e.InTravel xmax ymax i r.x r.y := by
  simp only [List.findSome?_eq_none_iff, ite_eq_left_iff, reduceCtorEq, imp_false, not_not, inTravel_stepTarget_iff]
  constructor
  · intro all r hr
    obtain ⟨k, here⟩ := List.mem_iff_getElem?.1 hr
    exact all (r, k) (List.mem_zipIdx_iff_getElem?.2 here)
  · intro all rs hrs
    exact all rs.1 (List.mem_of_getElem? (List.mem_zipIdx_iff_getElem?.1 hrs))

theorem firstTargetOut_eq_none (xmax ymax : Nat) (e : RowEntry) (steps : List StepRecord) :
    firstTargetOut xmax ymax e steps = none ↔ ∀ i, i < e.images → ∀ r ∈ steps, e.InTravel xmax ymax i r.x r.y := by
  unfold firstTargetOut
  rw [List.findSome?_eq_none_iff]
  simp only [List.mem_range]
  exact forall₂_congr fun i _ => rowTargetOut_eq_none xmax ymax e steps i

theorem firstTargetOut_eq_some (xmax ymax : Nat) (e : RowEntry) (steps : List StepRecord) (k : Nat) :
    firstTargetOut xmax ymax e steps = some k ↔ ∃ i r, i < e.images ∧ steps[k]? = some r ∧
      ¬e.InTravel xmax ymax i r.x r.y ∧ (∀ j q, j < k → steps[j]? = some q → e.InTravel xmax ymax i q.x q.y) ∧
      ∀ i', i' < i → ∀ q ∈ steps, e.InTravel xmax ymax i' q.x q.y := by
  unfold firstTargetOut
  rw [findSome?_eq_some_iff_index]
  constructor
  · rintro ⟨i, a, here, row, earlier⟩
    obtain ⟨r, step, outside, before⟩ := (rowTargetOut_eq_some xmax ymax e steps a k).1 row
    obtain ⟨inside, rfl⟩ : i < e.images ∧ i = a := by simpa [List.getElem?_range', List.getElem?_eq_some_iff] using here
    exact ⟨i, r, inside, step, outside, before, fun j less =>
      (rowTargetOut_eq_none xmax ymax e steps j).1 (earlier j j less (List.getElem?_range (by omega)))⟩
  · rintro ⟨i, r, inside, step, outside, before, earlier⟩
    refine ⟨i, i, List.getElem?_range inside, (rowTargetOut_eq_some xmax ymax e steps i k).2 ⟨r, step, outside, before⟩,
      fun j c less there => ?_⟩
    rw [List.getElem?_range (by omega)] at there
    cases there
    exact (rowTargetOut_eq_none xmax ymax e steps j).2 (earlier j less)

theorem markPointOut_iff (xmax ymax : Nat) (e : RowEntry) : markPointOut xmax ymax e = true ↔
    e.markCheck = true ∧ ∃ i, i < e.images ∧ ¬e.InTravel xmax ymax i e.mx e.my := by
  simp [markPointOut, ← inTravel_markPoint_iff]

end Sys2Proof.Machine
end

section
/-!
# Start-up reading, word by word (R1, R8 to R13)
-/
namespace Sys2Proof.Machine

theorem wordAt_eq_iff (ws : List Word) (k : Nat) (v : Word) : wordAt ws k = v.toNat ↔ ws.getD k 0 = v :=
  BitVec.toNat_inj

namespace State
variable {s t : State} {ws : List Word} {d : Read}

/-- The station with the delivered read done. -/
def delivered (s : State) : State := s.modReader fun r => { r with read := none }

/-- A start-up read's words are taken as start-up reading stands (R1, R8). -/
theorem exec_startUpRead (read : s.reader.read = some d) (start : d.cursor = none) (named : ws.length = d.count) :
    exec (.pmemReadCompletion ws) s = .next (s.settle (s.delivered.takeStartUp ws)) := by
  change execPmemReadCompletion ws s = _
  unfold execPmemReadCompletion
  rw [read]
  dsimp only
  rw [if_neg (by simp [named]), start]
  rfl

theorem takeStartUp_header (scan : s.reader.scan = .header) (ws : List Word) : s.takeStartUp ws = s.takeHeader ws := by
  unfold State.takeStartUp
  rw [scan]

theorem takeStartUp_rowHead {a : Nat} (scan : s.reader.scan = .rowHead a) (ws : List Word) :
    s.takeStartUp ws = s.takeRowHead a (ws.getD 0 0) := by
  unfold State.takeStartUp
  rw [scan]

theorem takeStartUp_rowBody {a : Nat} {w : Word} (scan : s.reader.scan = .rowBody a w) (ws : List Word) :
    s.takeStartUp ws = s.takeRowBody a w ws := by
  unfold State.takeStartUp
  rw [scan]

theorem takeStartUp_steps {e : RowEntry} {ra a : Nat} {seen : List StepRecord} (scan : s.reader.scan = .steps e ra a seen)
    (ws : List Word) : s.takeStartUp ws = s.takeStepRecord e ra a seen ws := by
  unfold State.takeStartUp
  rw [scan]

/-! ## What each check ends in -/

theorem failStart_failed (s : State) (reason : ConfigReason) (detail : Nat) :
    (s.failStart reason detail).reader.Failed reason detail := ⟨rfl, rfl, rfl, rfl⟩

theorem readNext_reads (s : State) (addr count : Nat) (scan : Scan) :
    (s.readNext addr count scan).reader.Reads addr count scan := ⟨rfl, rfl⟩

/-- Start-up reading moves the program reader alone until it ends. -/
theorem nextRowEntry_only (s : State) (addr : Nat) : s.Only (s.nextRowEntry addr) [.reader] := by
  unfold State.nextRowEntry
  split <;> exact .modReader s _ (by simp)

theorem nextStepRecord_only (s : State) (e : RowEntry) (ra a : Nat) (seen : List StepRecord) :
    s.Only (s.nextStepRecord e ra a seen) [.reader] := by
  unfold State.nextStepRecord
  split <;> exact .modReader s _ (by simp)

theorem nextRowEntry_of_fits {addr : Nat} (fits : addr ≤ 65535) (s : State) :
    s.nextRowEntry addr = s.readNext addr 1 (.rowHead addr) := if_pos fits

theorem nextStepRecord_of_fits {a : Nat} (fits : a + 3 ≤ 65535) (s : State) (e : RowEntry) (ra : Nat)
    (seen : List StepRecord) : s.nextStepRecord e ra a seen = s.readNext a 4 (.steps e ra a seen) := if_pos fits

theorem nextStepRecord_of_past {a : Nat} (past : 65535 < a + 3) (s : State) (e : RowEntry) (ra : Nat)
    (seen : List StepRecord) : s.nextStepRecord e ra a seen = s.failStart .c04 a :=
  if_neg (by change ¬a + 3 ≤ 65535; omega)

/-! ## The header (R9) -/

theorem takeHeader_only (s : State) (ws : List Word) : s.Only (s.takeHeader ws) [.reader] := by
  unfold State.takeHeader
  split
  · exact .modReader s _ (by simp)
  · split
    · exact .modReader s _ (by simp)
    · exact .trans (.modReader s _ (by simp)) (nextRowEntry_only _ _)

theorem takeHeader_of_other (other : ws.getD 0 0 ≠ 0xC3A5) (s : State) : s.takeHeader ws = s.failStart .c01 0 :=
  if_pos (mt (wordAt_eq_iff ws 0 0xC3A5).1 other)

theorem takeHeader_of_fault (ident : ws.getD 0 0 = 0xC3A5) {i : Nat} (fault : headerFault (wordAt ws) = some i) (s : State) :
    s.takeHeader ws = s.failStart .c02 i := by
  have known : wordAt ws 0 = 0xC3A5 := (wordAt_eq_iff ws 0 0xC3A5).2 ident
  unfold State.takeHeader
  rw [if_neg (not_not.2 known), fault]

theorem takeHeader_of_passes (ident : ws.getD 0 0 = 0xC3A5) (passes : headerFault (wordAt ws) = none) (s : State) :
    s.takeHeader ws = (s.modReader fun r => { r with draft := some (headerOf (wordAt ws)) }).readNext (ws.getD 78 0).toNat 1
      (.rowHead (ws.getD 78 0).toNat) := by
  have known : wordAt ws 0 = 0xC3A5 := (wordAt_eq_iff ws 0 0xC3A5).2 ident
  unfold State.takeHeader
  rw [if_neg (not_not.2 known), passes]
  exact nextRowEntry_of_fits (by unfold wordAt; omega) _

/-! ## A row entry (R10) -/

theorem takeRowHead_of_row {a : Nat} {w : Word} (images : w.toNat % 32 ≠ 0) (s : State) : s.takeRowHead a w =
    if 8 ≤ s.reader.rows.length then s.failStart .c06 8
    else if a + 7 ≤ 65535 then s.readNext (a + 1) 7 (.rowBody a w) else s.failStart .c03 s.reader.rows.length :=
  if_neg images

theorem takeRowBody_of_fault {a : Nat} {w : Word} (fault : rowEntryOf w ws = none) (s : State) :
    s.takeRowBody a w ws = s.failStart .c03 s.reader.rows.length := by
  unfold State.takeRowBody
  rw [fault]

theorem takeRowBody_of_passes {a : Nat} {w : Word} {e : RowEntry} (passes : rowEntryOf w ws = some e) (s : State) :
    s.takeRowBody a w ws = s.nextStepRecord e a e.listAddr [] := by
  unfold State.takeRowBody
  rw [passes]

theorem takeRowBody_only (s : State) (a : Nat) (w : Word) (ws : List Word) : s.Only (s.takeRowBody a w ws) [.reader] := by
  unfold State.takeRowBody
  split
  · exact nextStepRecord_only ..
  · exact .modReader s _ (by simp)

/-! ## A step list (R11 to R13) -/

theorem rowRead_only (s : State) (h : Header) (e : RowEntry) (ra : Nat) (steps : List StepRecord) :
    s.Only (s.rowRead h e ra steps) [.reader] := by
  unfold State.rowRead
  split
  · exact .modReader s _ (by simp)
  split
  · exact .modReader s _ (by simp)
  split
  · exact .modReader s _ (by simp)
  · exact .trans (.modReader s _ (by simp)) (nextRowEntry_only _ _)

theorem takeStepRecord_only (s : State) (e : RowEntry) (ra a : Nat) (seen : List StepRecord) (ws : List Word) :
    s.Only (s.takeStepRecord e ra a seen ws) [.reader] := by
  unfold State.takeStepRecord
  dsimp only
  split
  · split
    · exact .modReader s _ (by simp)
    · exact rowRead_only ..
  split
  · exact .modReader s _ (by simp)
  split
  · exact nextStepRecord_only ..
  · exact .modReader s _ (by simp)

variable {e : RowEntry} {ra a : Nat} {seen : List StepRecord} {h : Header}

theorem takeStepRecord_of_end (last : ws.getD 0 0 = 0xFFFF) (held : s.reader.draft = some h) :
    s.takeStepRecord e ra a seen ws = if seen = [] then s.failStart .c04 a else s.rowRead h e ra seen := by
  unfold State.takeStepRecord
  rw [held]
  exact if_pos ((wordAt_eq_iff ws 0 0xFFFF).2 last)

theorem takeStepRecord_of_empty (last : ws.getD 0 0 = 0xFFFF) (s : State) :
    s.takeStepRecord e ra a [] ws = s.failStart .c04 a :=
  (if_pos ((wordAt_eq_iff ws 0 0xFFFF).2 last)).trans (if_pos rfl)

theorem takeStepRecord_of_full (more : ws.getD 0 0 ≠ 0xFFFF) (full : seen.length = 255) (s : State) :
    s.takeStepRecord e ra a seen ws = s.failStart .c04 a :=
  (if_neg (mt (wordAt_eq_iff ws 0 0xFFFF).1 more)).trans (if_pos full)

theorem takeStepRecord_of_fault (more : ws.getD 0 0 ≠ 0xFFFF) (room : seen.length ≠ 255) (held : s.reader.draft = some h)
    (fault : checkedStep h.spanMin h.spanMax ws = none) : s.takeStepRecord e ra a seen ws = s.failStart .c04 a := by
  refine (if_neg (mt (wordAt_eq_iff ws 0 0xFFFF).1 more)).trans ((if_neg room).trans ?_)
  rw [held]
  simp only [Option.getD_some, fault]

theorem takeStepRecord_of_passes (more : ws.getD 0 0 ≠ 0xFFFF) (room : seen.length ≠ 255) (held : s.reader.draft = some h)
    {r : StepRecord} (passes : checkedStep h.spanMin h.spanMax ws = some r) :
    s.takeStepRecord e ra a seen ws = s.nextStepRecord e ra (a + 4) (seen ++ [r]) := by
  refine (if_neg (mt (wordAt_eq_iff ws 0 0xFFFF).1 more)).trans ((if_neg room).trans ?_)
  rw [held]
  simp only [Option.getD_some, passes]

theorem rowRead_of_target {i : Nat} (out : firstTargetOut h.xmax h.ymax e seen = some i) (s : State) :
    s.rowRead h e ra seen = s.failStart .c05 (e.listAddr + 4 * i) := by
  unfold State.rowRead
  rw [out]

theorem rowRead_of_targets (inside : firstTargetOut h.xmax h.ymax e seen = none) (s : State) :
    s.rowRead h e ra seen = if markPointOut h.xmax h.ymax e = true then s.failStart .c05 ra
      else if 32 < imageTotal s.reader.rows + e.images ∨ 4096 < panelSteps s.reader.rows + e.images * seen.length then
        s.failStart .c06 s.reader.rows.length
      else (s.modReader fun r => { r with rows := addRow r.rows e seen.length }).nextRowEntry (ra + 8) := by
  unfold State.rowRead
  rw [inside]
  rfl

theorem nextRowEntry_rows (s : State) (addr : Nat) : (s.nextRowEntry addr).reader.rows = s.reader.rows := by
  unfold State.nextRowEntry
  split <;> rfl

end State

theorem headerChecks_length (w : Nat → Nat) : (headerChecks w).length = 66 := by
  simp [headerChecks]

/-- Settles O14: what passes, by the checks' own lemmas; then each read by the place it is taken at. -/
theorem startUpChecksInOrder : Obligations.StartUpChecksInOrder := by
  refine ⟨fun w => ⟨?_, fun i => ?_, headerOf_reads w⟩, rowEntryOf_iff, checkedStep_iff,
    fun xmax ymax e steps => ⟨firstTargetOut_eq_none xmax ymax e steps, firstTargetOut_eq_some xmax ymax e steps,
      markPointOut_iff xmax ymax e⟩, fun s ws d read start named => ?reads⟩
  · refine (headerChecks_checked w).find_eq_none.trans (forall_congr' fun j => imp_congr_right fun _ => ?_)
    rw [headerChecks_length]
    exact imp_congr_left (by omega)
  · refine (headerChecks_checked w).find_eq_some.trans (and_congr_right fun _ => and_congr_left fun _ => ?_)
    rw [headerChecks_length]
    omega
  case reads =>
    have settled (u : State) : (s.settle u).reader = u.reader := by simp
    have rows : s.delivered.reader.rows = s.reader.rows := rfl
    have gone : s.Only s.delivered [.reader] := .modReader s _ (by simp)
    refine ⟨_, State.exec_startUpRead read start named, fun scan => ?header, fun a scan => ?rowHead, fun a w scan => ?rowBody,
      fun e ra a seen scan => ?steps⟩ <;> simp only [settled]
    case header =>
      rw [State.takeStartUp_header (s := s.delivered) scan]
      refine ⟨State.keepsBut_settle (gone.trans (State.takeHeader_only _ _)).keepsBut, fun other => ?_,
        fun ident i fault => ?_, fun ident passes => ?_⟩
      · rw [State.takeHeader_of_other other]
        exact State.failStart_failed ..
      · rw [State.takeHeader_of_fault ident fault]
        exact State.failStart_failed ..
      · rw [State.takeHeader_of_passes ident passes]
        exact ⟨State.readNext_reads .., rfl⟩
    case rowHead =>
      rw [State.takeStartUp_rowHead (s := s.delivered) scan]
      refine ⟨fun none first => ?_, fun images => ?_⟩
      · have failed : s.delivered.takeRowHead a (ws.getD 0 0) = s.delivered.failStart .c03 0 :=
          (if_pos none).trans (if_pos first)
        rw [failed]
        exact ⟨State.keepsBut_settle (gone.trans (.modReader _ _ (by simp))).keepsBut, State.failStart_failed ..⟩
      · rw [State.takeRowHead_of_row images]
        rw [rows]
        refine ⟨State.keepsBut_settle (gone.trans ?_).keepsBut, fun full => ?_, fun room past => ?_, fun room fits => ?_⟩
        · split
          · exact .modReader _ _ (by simp)
          split <;> exact .modReader _ _ (by simp)
        · rw [if_pos full]
          exact State.failStart_failed ..
        · rw [if_neg (by omega), if_neg (by omega)]
          exact State.failStart_failed ..
        · rw [if_neg (by omega), if_pos fits]
          exact State.readNext_reads ..
    case rowBody =>
      rw [State.takeStartUp_rowBody (s := s.delivered) scan]
      refine ⟨State.keepsBut_settle (gone.trans (State.takeRowBody_only _ _ _ _)).keepsBut, fun fault => ?_,
        fun e passes past => ?_, fun e passes fits => ?_⟩
      · rw [State.takeRowBody_of_fault fault]
        exact State.failStart_failed ..
      · rw [State.takeRowBody_of_passes passes, State.nextStepRecord_of_past past]
        exact State.failStart_failed ..
      · rw [State.takeRowBody_of_passes passes, State.nextStepRecord_of_fits fits]
        exact State.readNext_reads ..
    case steps =>
      rw [State.takeStartUp_steps (s := s.delivered) scan]
      refine ⟨State.keepsBut_settle (gone.trans (State.takeStepRecord_only _ _ _ _ _ _)).keepsBut, fun last none => ?_,
        fun last some h held => ⟨fun i out => ?_, fun inside => ⟨fun mark => ?_, fun marks => ⟨fun many => ?_,
          fun images panel => ?_⟩⟩⟩, fun more full => ?_, fun more room h held => ⟨fun fault => ?_,
          fun r passes => ⟨fun fits => ?_, fun past => ?_⟩⟩⟩
      · rw [none, State.takeStepRecord_of_empty last]
        exact State.failStart_failed ..
      · rw [State.takeStepRecord_of_end (s := s.delivered) last held, if_neg some, State.rowRead_of_target out]
        exact State.failStart_failed ..
      · rw [State.takeStepRecord_of_end (s := s.delivered) last held, if_neg some, State.rowRead_of_targets inside, if_pos mark]
        exact State.failStart_failed ..
      · rw [State.takeStepRecord_of_end (s := s.delivered) last held, if_neg some, State.rowRead_of_targets inside,
          if_neg (by simp [marks]), rows, if_pos many]
        exact State.failStart_failed ..
      · rw [State.takeStepRecord_of_end (s := s.delivered) last held, if_neg some, State.rowRead_of_targets inside,
          if_neg (by simp [marks]), rows, if_neg (by omega)]
        refine ⟨State.nextRowEntry_rows .., fun fits => ?_⟩
        rw [State.nextRowEntry_of_fits fits]
        exact State.readNext_reads ..
      · rw [State.takeStepRecord_of_full more full]
        exact State.failStart_failed ..
      · rw [State.takeStepRecord_of_fault (s := s.delivered) more room held fault]
        exact State.failStart_failed ..
      · rw [State.takeStepRecord_of_passes (s := s.delivered) more room held passes,
          State.nextStepRecord_of_fits (by omega)]
        exact State.readNext_reads ..
      · rw [State.takeStepRecord_of_passes (s := s.delivered) more room held passes,
          State.nextStepRecord_of_past (by omega)]
        exact State.failStart_failed ..

end Sys2Proof.Machine
end

section
/-!
# The end of a valid start-up (R14, R56, R59, R103, R124)
-/
namespace Sys2Proof.Machine

theorem Alarm.listed_iff (a : Alarm) (c : AlarmCode) : a.listed c = true ↔ c ∈ a.list.map AlarmEntry.code := by
  simp [Alarm.listed]

/-- A code not listed joins a list with room as its newest (R150). -/
theorem Alarm.take_codes {a : Alarm} {r : Raise} {stop : Bool} (new : r.code ∉ a.list.map AlarmEntry.code)
    (room : a.list.length < 8) :
    (a.take r stop).list.map AlarmEntry.code = a.list.map AlarmEntry.code ++ [r.code] := by
  rw [Alarm.take_of_room (Bool.eq_false_iff.2 (mt (a.listed_iff _).1 new)) room]
  simp [Raise.entry]

theorem Link.markDue_due {l : Link} (due : l.due = true) : l.markDue.due = true := by
  unfold Link.markDue
  split
  · exact due
  · rfl

namespace State
variable {s t : State}

theorem settle_due (due : t.link.due = true) (s : State) : (s.settle t).link.due = true := by
  rw [settle_link]
  split
  · exact due
  · exact Link.markDue_due due

theorem setRun_due (due : s.link.due = true) (r : RunState) : (s.setRun r).link.due = true := by
  unfold State.setRun
  split
  · exact due
  · split <;> exact Link.markDue_due due

theorem raise_due (due : s.link.due = true) (r : Raise) : (s.raise r).link.due = true := by
  unfold State.raise
  split
  · dsimp only
    split
    · exact setRun_due (by exact due) _
    · exact due
  · exact due

/-! ## The start-up reads, one by one -/

/-- The start-up read of TBRK (R56). -/
def tapeBreakRead (s : State) : State := if s.lines.tbrk then s.breakTape else s
/-- The start-up read of TEND (R59). -/
def tapeLowRead (s : State) : State := if s.lines.tend then s.raiseTapeLow else s
/-- The start-up read of TOP (R103). -/
def topRead (s : State) : State := if s.lines.top then s.modHead fun x => { x with phase := .top } else s
/-- The start-up read of BWK (R124). -/
def boardRead (s : State) : State := if s.lines.bwk then s.makeUntracked else s

theorem tapeBreakRead_only (s : State) : s.Only s.tapeBreakRead [.tape, .alarm] := by
  unfold tapeBreakRead
  split
  · exact .trans (.modTape s _ (by simp)) (raise_only _ _ (by simp))
  · exact .refl s _

theorem tapeLowRead_only (s : State) : s.Only s.tapeLowRead [.alarm] := by
  unfold tapeLowRead
  split
  · exact raise_only s _ (by simp)
  · exact .refl s _

theorem topRead_only (s : State) : s.Only s.topRead [.head] := by
  unfold topRead
  split
  · exact .modHead s _ (by simp)
  · exact .refl s _

/-- Where no work may start a board made at the work position moves its unit alone. -/
theorem makeOwnBoard_of_may_not (not : ¬s.MayStart) (reject : Option RejectReason) :
    s.makeOwnBoard reject = { s with work := (s.makeOwnBoard reject).work } := by
  unfold State.makeOwnBoard
  by_cases bypass : reject ≠ none ∧ s.options.bypass = true
  · rw [boardMade_of_bypass (by exact bypass.1) (by exact bypass.2)]
    rfl
  · have way : reject = none ∨ s.options.bypass = false := by simpa [← or_iff_not_imp_left] using bypass
    rw [boardMade_of_clamps (by exact way), if_neg (mt (mayStart_iff _).1 (by exact not))]
    rfl

theorem boardRead_of_may_not (not : ¬s.MayStart) : s.boardRead = { s with work := s.boardRead.work } := by
  unfold boardRead
  split
  · exact makeOwnBoard_of_may_not not _
  · rfl

/-! ## The alarm list after the start-up reads -/

theorem tapeBreakRead_alarm (run : s.alarm.run = .stopped) (list : s.alarm.list = []) :
    s.tapeBreakRead.alarm.run = (if s.lines.tbrk then .alarm else .stopped) ∧
      s.tapeBreakRead.alarm.list.map AlarmEntry.code = (if s.lines.tbrk then [.tapeBreak] else []) ∧
      s.tapeBreakRead.alarm.windowTimer = s.alarm.windowTimer ∧
      s.tapeBreakRead.tape.fault = (if s.lines.tbrk then .broken else s.tape.fault) := by
  unfold tapeBreakRead
  cases broken : s.lines.tbrk with
  | false => exact ⟨run, by simp [list], rfl, rfl⟩
  | true =>
    have on : (s.modTape fun t => { t with feeding := false, timer := none, fault := .broken }).alarm.run ≠ .configFault := by
      simp [run]
    refine ⟨(raise_enters_alarm on (stopBit_of_fixed _ (by simp))).1, ?_, ?_, by simp [State.breakTape]⟩
    · refine (congrArg (List.map AlarmEntry.code) (raise_list_more on).1).trans ?_
      rw [Alarm.take_codes (by simp [list]) (by simp [list])]
      simp [list]
    · exact raise_windowTimer _ _

theorem tapeLowRead_alarm (on : s.alarm.run ≠ .configFault) (new : AlarmCode.tapeLow ∉ s.alarm.list.map AlarmEntry.code)
    (room : s.alarm.list.length < 8) :
    s.tapeLowRead.alarm.run = s.alarm.run ∧
      s.tapeLowRead.alarm.list.map AlarmEntry.code =
        s.alarm.list.map AlarmEntry.code ++ (if s.lines.tend then [.tapeLow] else []) ∧
      s.tapeLowRead.alarm.windowTimer = s.alarm.windowTimer := by
  unfold tapeLowRead
  cases low : s.lines.tend with
  | false => exact ⟨rfl, by simp, rfl⟩
  | true =>
    refine ⟨raise_run_of_no_stop on rfl, ?_, raise_windowTimer _ _⟩
    refine (congrArg (List.map AlarmEntry.code) (raise_list_more on).1).trans ?_
    rw [Alarm.take_codes new room]
    simp

/-! ## What start-up reading hands on -/

theorem handedOn_link (s : State) (on : s.alarm.run = .configFault) : s.handedOn.link =
    { s.link.toHeader (s.reader.draft.getD default) with due := true } := by
  unfold State.handedOn
  dsimp only
  unfold State.setRun
  rw [if_neg (by simp [on]), if_neg (by simp [on])]
  rfl

theorem handedOn_hdr (s : State) : s.handedOn.hdr = some (s.reader.draft.getD default) := by
  simp [State.handedOn]

theorem handedOn_head (s : State) (on : s.alarm.run = .configFault) : s.handedOn.head = s.head := by
  unfold State.handedOn
  rw [setRun_head]
  exact if_neg (by simp [on])

theorem handedOn_table (s : State) : s.handedOn.table =
    { s.table with commanded := { s.table.commanded with span := (s.reader.draft.getD default).spanMin } } := by
  simp [State.handedOn]

/-- The start-up reads of TBRK, TEND and TOP (R56, R59, R103). -/
def sensorReads (s : State) : State := s.tapeBreakRead.tapeLowRead.topRead

theorem startUpReads_eq (s : State) : s.startUpReads = s.issueRead.sensorReads.boardRead := rfl

theorem sensorReads_only (s : State) : s.Only s.sensorReads [.tape, .alarm, .head] :=
  ((s.tapeBreakRead_only).mono (by simp)).trans
    (((tapeLowRead_only _).mono (by simp)).trans ((topRead_only _).mono (by simp)))

theorem tapeBreakRead_due (due : s.link.due = true) : s.tapeBreakRead.link.due = true := by
  unfold tapeBreakRead
  split
  · exact raise_due (by exact due) _
  · exact due

theorem tapeLowRead_due (due : s.link.due = true) : s.tapeLowRead.link.due = true := by
  unfold tapeLowRead
  split
  · exact raise_due due _
  · exact due

theorem topRead_due (due : s.link.due = true) : s.topRead.link.due = true := by
  unfold topRead
  split <;> exact due

theorem topRead_head (s : State) : s.topRead.head.phase = if s.lines.top then .top else s.head.phase := by
  unfold topRead
  split <;> rfl

theorem topRead_alarm (s : State) : s.topRead.alarm = s.alarm := by
  unfold topRead
  split <;> rfl

theorem headAfter_phase (s : State) (r : RunState) : (s.headAfter r).phase = s.head.phase := by
  unfold State.headAfter
  split <;> rfl

/-- The three reads of a station in STOPPED with nothing listed. -/
theorem sensorReads_of_stopped (run : s.alarm.run = .stopped) (list : s.alarm.list = []) (due : s.link.due = true) :
    s.sensorReads.link.due = true ∧ s.sensorReads.alarm.windowTimer = s.alarm.windowTimer ∧
      s.sensorReads.alarm.run = (if s.lines.tbrk then .alarm else .stopped) ∧
      s.sensorReads.tape.fault = (if s.lines.tbrk then .broken else s.tape.fault) ∧
      s.sensorReads.alarm.listed .tapeBreak = s.lines.tbrk ∧ s.sensorReads.alarm.listed .tapeLow = s.lines.tend ∧
      s.sensorReads.head.phase = (if s.lines.top then .top else s.head.phase) := by
  obtain ⟨runs, codes, timer, fault⟩ := tapeBreakRead_alarm run list
  obtain ⟨-, -, -, lines, -, -, -, -, head, -⟩ := s.tapeBreakRead_only.keepsBut
  obtain ⟨-, -, -, lines', -, -, tape', -, head', -⟩ := s.tapeBreakRead.tapeLowRead_only.keepsBut
  simp only [List.mem_cons, List.not_mem_nil, reduceCtorEq, or_self, false_or] at lines head lines' tape' head'
  have on : s.tapeBreakRead.alarm.run ≠ .configFault := by rw [runs]; split <;> simp
  have few : s.tapeBreakRead.alarm.list.length ≤ 1 := by
    have := congrArg List.length codes
    rw [List.length_map] at this
    rw [this]
    split <;> simp
  obtain ⟨runs', codes', timer'⟩ := tapeLowRead_alarm on (by rw [codes]; split <;> simp) (by omega)
  have tape : s.sensorReads.tape = s.tapeBreakRead.tapeLowRead.tape := by
    unfold sensorReads topRead
    split <;> rfl
  have listed (c : AlarmCode) : s.sensorReads.alarm.listed c = true ↔
      c = .tapeBreak ∧ s.lines.tbrk = true ∨ c = .tapeLow ∧ s.lines.tend = true := by
    rw [Alarm.listed_iff, sensorReads, topRead_alarm, codes', codes, lines]
    cases s.lines.tbrk <;> cases s.lines.tend <;> simp
  refine ⟨topRead_due (tapeLowRead_due (tapeBreakRead_due due)), ?_, ?_, ?_, ?_, ?_, ?_⟩
  · rw [sensorReads, topRead_alarm, timer', timer]
  · rw [sensorReads, topRead_alarm, runs', runs]
  · rw [tape, tape', fault]
  · rw [Bool.eq_iff_iff, listed]
    simp
  · rw [Bool.eq_iff_iff, listed]
    simp
  · rw [sensorReads, topRead_head, lines', lines, head', headAfter_phase, head, headAfter_phase]

end State

/-- Settles O15: what start-up reading hands on, then the units' start-up reads one by one. -/
theorem validStartUpEndsInStopped : Obligations.ValidStartUpEndsInStopped := by
  intro s w d a h read start count scan images rows draft buffer off list empty
  have taken : s.delivered.takeRowHead a w = s.delivered.startUpEnds := (if_pos images).trans (if_neg rows)
  have row : exec (.pmemReadCompletion [w]) s = .next (s.settle s.delivered.handedOn.startUpReads) := by
    rw [State.exec_startUpRead read start (by simpa using count.symm),
      State.takeStartUp_rowHead (s := s.delivered) scan]
    exact congrArg (fun t => Host.Outcome.next (s.settle t)) taken
  have values : s.delivered.reader.draft.getD default = h := by
    change s.reader.draft.getD default = h
    rw [draft]
    rfl
  have hdr := s.delivered.handedOn_hdr
  have table := s.delivered.handedOn_table
  have link := s.delivered.handedOn_link off
  have head := s.delivered.handedOn_head off
  have reader := s.delivered.handedOn_reader
  have alarm := s.delivered.handedOn_alarm
  obtain ⟨tape, trav, work, verifier, lines, pending, now⟩ := s.delivered.handedOn_frame
  rw [values] at hdr table link
  generalize s.delivered.handedOn = c at *
  have ready : c.CanRead := by
    rw [State.CanRead, reader]
    exact ⟨rfl, by simp [State.delivered, buffer], rfl⟩
  have alarm' : c.issueRead.alarm = c.alarm := by simp
  have link' : c.issueRead.link = c.link := by simp
  obtain ⟨due, timer, run, fault, broken, low, phase⟩ := State.sensorReads_of_stopped (s := c.issueRead)
    (by rw [alarm', alarm]) (by rw [alarm', alarm]; exact list) (by rw [link', link])
  have kept := c.issueRead.sensorReads_only.keepsBut
  have firstRead := State.issueRead_of_ready ready
  have still : ¬c.issueRead.sensorReads.MayStart := by
    unfold State.MayStart
    rw [run]
    split <;> simp
  have board := State.boardRead_of_may_not still
  obtain ⟨pending', now', hdr', lines', reader', verifier', -, table', -, work', trav', -, slot⟩ := kept
  simp only [List.mem_cons, List.not_mem_nil, reduceCtorEq, or_self, false_or, State.issueRead_frame]
    at lines' reader' verifier' table' work' trav' slot hdr' pending' now' fault phase broken low run timer
  have unread (inactive : s.lines.bwk = false) : c.issueRead.sensorReads.boardRead.work = s.work := by
    unfold State.boardRead
    rw [lines', lines]
    exact (congrArg State.work (if_neg (by simp [State.delivered, inactive]))).trans (work'.trans work)
  have found (active : s.lines.bwk = true) :
      c.issueRead.sensorReads.boardRead = c.issueRead.sensorReads.makeOwnBoard (some .untracked) := by
    unfold State.boardRead
    rw [lines', lines]
    exact if_pos (by simpa [State.delivered] using active)
  have made := State.BoardMade.of_makeOwnBoard c.issueRead.sensorReads (some .untracked)
  rw [State.startUpReads_eq] at row
  generalize c.issueRead.sensorReads.boardRead = f at board unread found row
  generalize c.issueRead.sensorReads = p at *
  have due' : (s.settle f).link.due = true := State.settle_due (by rw [board]; exact due) s
  refine ⟨_, row, ?_⟩
  simp only [State.settle_frame]
  refine ⟨?hdr, ?pending, ?now, ?lines, ?verifier, ?trav, ?reader, ?table, ?link, due', ?timer, ?run, ?fault, ?broken, ?low,
    ?phase, unread, fun active => ?found⟩
  case found =>
    obtain ⟨⟨b, held, serial, -, reject, -, -, -, -, -, -, -, -, -, bypassed, way⟩, -⟩ := made
    rw [found active]
    refine ⟨b, held, reject, ?_, ?_⟩
    · rw [serial, work', work]
      rfl
    · have options : p.options = h.options := by
        unfold State.options State.header
        rw [hdr', hdr]
        rfl
      rw [options] at bypassed way
      by_cases bypass : h.options.bypass = true
      · rw [if_pos bypass]
        exact (bypassed nofun bypass).1
      · rw [if_neg bypass]
        exact ((way (.inr (by simpa using bypass))).1 still).1
  all_goals rw [board]
  case hdr => exact hdr'.trans hdr
  case pending => exact pending'.trans pending
  case now => exact now'.trans now
  case lines => exact lines'.trans lines
  case verifier => exact verifier'.trans verifier
  case trav => exact trav'.trans trav
  case reader =>
    change p.reader = _
    rw [reader', firstRead, reader]
    rfl
  case table => exact table'.trans table
  case link =>
    change p.link.butSlot = _
    rw [slot, link]
    rfl
  case timer =>
    change p.alarm.windowTimer = _
    rw [timer, alarm]
    rfl
  case run => rw [run, lines]; rfl
  case fault => rw [fault, lines, tape]; rfl
  case broken => rw [broken, lines]; rfl
  case low => rw [low, lines]; rfl
  case phase => rw [phase, lines, head]; rfl

end Sys2Proof.Machine
end

section
/-!
# The mark scan and the end of a move (R76 to R82, R115, R116)
-/
namespace Sys2Proof.Machine

/-! ## The image to visit next (R115) -/

theorem find?_range_eq_some_iff {n g : Nat} {p : Nat → Bool} :
    (List.range n).find? p = some g ↔ p g = true ∧ g < n ∧ ∀ k, k < g → p k = false := by
  rw [List.find?_range_eq_some]
  simp

theorem markImage_iff (rows : List Row) (mask : Mask) (start g : Nat) :
    (decide (start ≤ g) && ((rowOfImage rows g).map fun r => r.entry.markCheck).getD false && !mask.getLsbD g) = true ∧
        g < imageTotal rows ↔ start ≤ g ∧ MarkImage rows mask g := by
  unfold MarkImage
  cases rowOfImage rows g with
  | none => simp
  | some r => simp; tauto

theorem nextMarkImage_iff (rows : List Row) (mask : Mask) (start g : Nat) : nextMarkImage rows mask start = some g ↔
    (start ≤ g ∧ MarkImage rows mask g ∧ ∀ k, start ≤ k → k < g → ¬MarkImage rows mask k) := by
  unfold nextMarkImage
  rw [find?_range_eq_some_iff, ← and_assoc, markImage_iff, and_assoc]
  refine and_congr_right fun _ => and_congr_right fun image => forall_congr' fun k => ?_
  have inside : k < g → k < imageTotal rows := fun less => less.trans image.1
  have each := markImage_iff rows mask start k
  constructor
  · intro skipped past less visits
    have := (each.2 ⟨past, visits⟩).1
    rw [skipped less] at this
    cases this
  · intro none less
    rw [Bool.eq_false_iff]
    exact fun visits => (each.1 ⟨visits, inside less⟩).elim fun past image => none past less image

namespace State
variable {s t u : State} {b : Board} {g : Nat} {mark : Bool}

/-! ## What the bookkeeping leaves of the alarm unit -/

theorem bookkeep_stepUsed (s : State) : s.bookkeep.alarm.stepUsed = s.alarm.stepUsed := by
  have hold : s.startBoard.takeRowHold.alarm.stepUsed = s.startBoard.alarm.stepUsed := by
    by_cases due : ∃ e b, s.startBoard.HoldDue e b
    · obtain ⟨e, b, due⟩ := due
      rw [due.takeRowHold_alarm]
    · rw [takeRowHold_of_not_due (by simpa using due)]
  have decided : s.bookkeep.alarm = s.startBoard.takeRowHold.alarm := by simp [State.bookkeep]
  rw [decided, hold, startBoard_alarm]

theorem raise_stepUsed (s : State) (r : Raise) : (s.raise r).alarm.stepUsed = s.alarm.stepUsed := by
  by_cases off : s.alarm.run = .configFault
  · rw [raise_of_configFault off]
  · rw [raise_alarm off, Alarm.take_eq]
    split <;> rfl

/-! ## MARK sampled at an image (R116) -/

/-- The station as MARK is sampled at an image of its board. -/
def markTaken (s : State) (b : Board) (g : Nat) (mark : Bool) : State :=
  (s.modWork fun w =>
    { w with board := some { b with mask := if mark then b.mask ||| BitVec.ofNat 32 (2 ^ g) else b.mask } }).useStep

theorem markArrival_of_scanning (held : s.work.board = some b) (scanning : s.work.state = .scanning)
    (cursor : s.work.scan = some g) (mark : Bool) : s.markArrival g mark = (s.markTaken b g mark).scanFrom (g + 1) := by
  unfold State.markArrival
  rw [held]
  exact if_pos ⟨scanning, cursor⟩

theorem SawMark.of_markArrival (s : State) (g : Nat) (mark : Bool) : s.SawMark (s.markArrival g mark) g mark := by
  intro b held scanning cursor
  rw [markArrival_of_scanning held scanning cursor]
  have used (step : s.alarm.run = .stepping) : (s.markTaken b g mark).alarm.stepUsed = true := by
    rw [markTaken, useStep_alarm]
    exact if_pos step
  have board : (s.markTaken b g mark).work.board =
      some { b with mask := if mark then b.mask ||| BitVec.ofNat 32 (2 ^ g) else b.mask } := by simp [markTaken]
  have state : (s.markTaken b g mark).work.state = .scanning := by simp [markTaken, scanning]
  have tape : (s.markTaken b g mark).tape = s.tape := by simp [markTaken]
  have reader : (s.markTaken b g mark).reader = s.reader := by simp [markTaken]
  generalize s.markTaken b g mark = u at *
  generalize (if mark then b.mask ||| BitVec.ofNat 32 (2 ^ g) else b.mask) = mask at *
  have same : nextMarkImage u.reader.rows ((u.work.board.map Board.mask).getD 0) (g + 1) =
      nextMarkImage s.reader.rows mask (g + 1) := by
    rw [board, reader]
    rfl
  cases next : nextMarkImage s.reader.rows mask (g + 1) with
  | some n =>
    rw [scanFrom_of_some (same.trans next)]
    refine ⟨_, board, rfl, fun k image => ?_, fun none => ?_, used⟩
    · obtain rfl := Option.some.inj (next.symm.trans image)
      exact ⟨state, rfl, rfl⟩
    · rw [next] at none
      cases none
  | none =>
    rw [scanFrom_of_none (same.trans next)]
    obtain ⟨c, held', rest⟩ := bookkeep_board (s := u.modWork fun w => { w with scan := none, state := .ready }) board
    have mask' : c.mask = mask := by rw [rest]
    refine ⟨c, held', mask', fun n image => ?_, fun _ => ⟨?_, .of_bookkeep rfl tape ?_⟩, fun step => ?_⟩
    · rw [mask', next] at image
      cases image
    · rw [bookkeep_work]
      rfl
    · change u.work.board.isSome = _
      rw [board, held]
      rfl
    · rw [bookkeep_stepUsed]
      exact used step

/-- What is seen at a mark stays seen while the work position, the tape, M2, the last cycle start, the request and the
step's use stay. -/
theorem SawMark.of_beside (seen : s.SawMark t g mark) (work : u.work = t.work) (tape : u.tape = t.tape)
    (m2 : u.alarm.m2 = t.alarm.m2) (last : t.head.lastCycle = none → u.head.lastCycle = none)
    (request : u.table.markRequest = t.table.markRequest) (used : u.alarm.stepUsed = t.alarm.stepUsed) :
    s.SawMark u g mark := by
  intro b held scanning cursor
  obtain ⟨b', held', mask, image, ready, step⟩ := seen b held scanning cursor
  unfold State.ReadyOrStarted at ready ⊢
  rw [work, request, used]
  refine ⟨b', held', mask, image, fun none => ⟨(ready none).1, fun lets => ?_, (ready none).2.2⟩, step⟩
  exact ((ready none).2.1 lets).of_same (.of_tape tape) (by rw [work]) (by rw [work]) (by rw [m2]) last

theorem SawMark.endIfQuiet (seen : s.SawMark t g mark) : s.SawMark t.endIfQuiet g mark :=
  seen.of_beside (by simp) (by simp) (by rw [endIfQuiet_alarm]) (by simp) (by simp) (by rw [endIfQuiet_alarm])

theorem SawMark.settle (seen : s.SawMark t g mark) : s.SawMark (u.settle t) g mark :=
  seen.of_beside (by simp) (by simp) (by simp) (by simp) (by simp) (by simp)

theorem scanFrom_table (s : State) (start : Nat) :
    (s.scanFrom start).table = { s.table with markRequest := (s.scanFrom start).table.markRequest } := by
  unfold State.scanFrom
  split
  · rfl
  · have table : ((s.modWork fun w => { w with scan := none, state := .ready }).bookkeep).table = s.table := by simp
    rw [table]

theorem markArrival_table (s : State) (g : Nat) (mark : Bool) :
    (s.markArrival g mark).table = { s.table with markRequest := (s.markArrival g mark).table.markRequest } := by
  unfold State.markArrival
  split
  · rfl
  · split
    · rw [scanFrom_table]
      simp
    · rfl

theorem SawMark.raise (seen : s.SawMark t g mark) (r : Raise) : s.SawMark (t.raise r) g mark := by
  refine seen.of_beside (by simp) (by simp) ?_ (fun gone => ?_) (by simp) (raise_stepUsed t r)
  · exact raise_monitor t r .m2
  · rw [raise_head]
    exact headAfter_lastCycle _ _ gone

theorem SawMark.tryInsertMove (seen : s.SawMark t g mark) : s.SawMark t.tryInsertMove g mark := by
  unfold State.tryInsertMove
  split
  · exact seen
  · split
    · exact SawMark.raise (t := t.modTable fun x => { x with homed := false })
        (seen.of_beside rfl rfl rfl id rfl rfl) _
    · exact seen.of_beside rfl rfl rfl id rfl rfl

end State

theorem target_ext {a b : Target} (x : a.x = b.x) (y : a.y = b.y) (turret : a.turret = b.turret) (span : a.span = b.span) :
    a = b := by
  cases a
  cases b
  simp_all

namespace State
variable {s : State} {g : Nat} {r : Row}

theorem exec_markMoveStart (can : s.CanMarkMove g) (mark : Bool) : exec (.markMoveStart mark) s =
    if s.markTarget g = s.table.commanded then
      .next (s.settle (((s.modLines fun l => { l with mark := mark }).modTable fun x =>
        { x with markRequest := none }).markArrival g mark).endIfQuiet)
    else if s.lines.onLimit = true then .next (s.settle ((s.modLines fun l => { l with mark := mark }).refuseMove none))
    else .next (s.settle (((s.modLines fun l => { l with mark := mark }).modTable fun x =>
      { x with markRequest := none }).startMove (.mark g) (s.markTarget g))) := by
  change execMarkMoveStart mark s = _
  unfold execMarkMoveStart
  rw [markMove_iff.2 can]
  rfl

theorem markTarget_of_row (row : rowOfImage s.reader.rows g = some r) : s.markTarget g =
    ⟨r.entry.x0 + (g - r.base : Nat) * r.entry.px + r.entry.mx, r.entry.y0 + (g - r.base : Nat) * r.entry.py + r.entry.my,
      s.table.commanded.turret, s.table.commanded.span⟩ := by
  unfold State.markTarget markPointOf
  rw [row]
  rfl

end State

/-- Settles O28: the three ends of the row, each by the lemma of its operation. -/
theorem markMovesVisitTheMarkPoint : Obligations.MarkMovesVisitTheMarkPoint := by
  refine ⟨nextMarkImage_iff, fun s mark => ?_⟩
  have lines := State.Only.modLines (ps := [.lines]) s (fun l => { l with mark := mark }) (by simp)
  by_cases can : ∃ g, s.CanMarkMove g
  case neg =>
    have none : s.markMove = none := by
      by_contra some
      obtain ⟨g, some⟩ := Option.ne_none_iff_exists'.1 some
      exact can ⟨g, State.markMove_iff.1 some⟩
    have row : exec (.markMoveStart mark) s = .next (s.settle (s.modLines fun l => { l with mark := mark })) := by
      change execMarkMoveStart mark s = _
      unfold execMarkMoveStart
      rw [none]
      rfl
    exact ⟨_, row, by simp, fun _ => State.keepsBut_settle lines.keepsBut, fun g r may => absurd ⟨g, may⟩ can⟩
  obtain ⟨g, can⟩ := can
  have request : s.table.markRequest = some g := can.2.2.2.2
  have only (g' : Nat) (can' : s.CanMarkMove g') : g' = g := Option.some.inj (can'.2.2.2.2.symm.trans request)
  have reaches (r : Row) (row : rowOfImage s.reader.rows g = some r) (goal : Target)
      (x : goal.x = r.entry.x0 + (g - r.base : Nat) * r.entry.px + r.entry.mx)
      (y : goal.y = r.entry.y0 + (g - r.base : Nat) * r.entry.py + r.entry.my)
      (turret : goal.turret = s.table.commanded.turret) (span : goal.span = s.table.commanded.span) :
      goal = s.markTarget g := by
    rw [State.markTarget_of_row row]
    exact target_ext x y turret span
  have exec := State.exec_markMoveStart can mark
  by_cases here : s.markTarget g = s.table.commanded
  · rw [if_pos here] at exec
    have seen := State.SawMark.of_markArrival ((s.modLines fun l => { l with mark := mark }).modTable fun x =>
      { x with markRequest := none }) g mark
    refine ⟨_, exec, by simp, fun not => absurd ⟨g, can⟩ not, fun g' r can' row goal x y turret span => ?_⟩
    obtain rfl := only g' can'
    obtain rfl := reaches r row goal x y turret span
    refine ⟨fun _ => ⟨?_, ?_, State.keepsBut_settle ?_⟩, fun away => absurd here away, fun away => absurd here away⟩
    · exact State.SawMark.settle seen.endIfQuiet
    · simp only [State.settle_frame, State.endIfQuiet_frame]
      rw [State.markArrival_table]
      rfl
    · exact ((lines.mono (by simp)).trans (.trans (.modTable _ _ (by simp)) (.trans
        (State.markArrival_only _ _ _ (by simp [State.Scans, State.Books])) (State.endIfQuiet_only _ (by simp))))).keepsBut
  rw [if_neg here] at exec
  cases limit : s.lines.onLimit with
  | true =>
    rw [if_pos limit] at exec
    refine ⟨_, exec, by simp [State.refuseMove], fun not => absurd ⟨g, can⟩ not, fun g' r can' row goal x y turret span => ?_⟩
    obtain rfl := only g' can'
    obtain rfl := reaches r row goal x y turret span
    refine ⟨fun same => absurd same here, fun _ xlim ylim => ?_, fun _ _ => ⟨?_, ?_, State.keepsBut_settle ?_⟩⟩
    · rw [State.onLimit_eq_false xlim ylim] at limit
      cases limit
    · simp [State.refuseMove_table]
    · simp only [State.settle_frame]
      rw [State.refuseMove_alarm]
      exact State.raise_alarm_congr _ _ _ rfl rfl
    · exact ((lines.mono (by simp)).trans (State.refuseMove_only _ _ (by simp) (by simp))).keepsBut
  | false =>
    rw [if_neg (by simp [limit])] at exec
    refine ⟨_, exec, by simp, fun not => absurd ⟨g, can⟩ not, fun g' r can' row goal x y turret span => ?_⟩
    obtain rfl := only g' can'
    obtain rfl := reaches r row goal x y turret span
    refine ⟨fun same => absurd same here, fun _ _ _ => ⟨?_, State.keepsBut_settle ?_⟩, fun _ on => ?_⟩
    · simp only [State.settle_frame]
      rw [State.startMove_table]
      rfl
    · exact ((lines.mono (by simp)).trans (.trans (.modTable _ _ (by simp)) (State.startMove_only _ _ _ (by simp)))).keepsBut
    · rw [(State.onLimit_iff _).2 on] at limit
      cases limit

/-! ## The end of a move (R76, R82) -/

namespace State
variable {s : State} {m : Move}

theorem exec_moveComplete (moving : s.table.activity = .moving) (slot : s.table.slot = some m) (mark : Bool)
    (v : State) (arrives : ∀ g, m.purpose = .mark g →
      v = (s.freeTable.modLines fun l => { l with mark := mark }).markArrival g mark)
    (inserts : ∀ lap k, m.purpose = .insert lap k → v = s.freeTable.modLines fun l => { l with mark := mark }) :
    exec (.moveComplete mark) s = .next (s.settle v.tryInsertMove.endIfQuiet) := by
  change execMoveComplete mark s = _
  unfold execMoveComplete
  rw [moving, slot]
  dsimp only
  cases purpose : m.purpose with
  | mark g => rw [arrives g purpose]; rfl
  | insert lap k => rw [inserts lap k purpose]; rfl

theorem exec_moveComplete_of_still (still : s.table.activity ≠ .moving) (mark : Bool) :
    exec (.moveComplete mark) s = .next (s.settle (s.modLines fun l => { l with mark := mark })) := by
  change execMoveComplete mark s = _
  unfold execMoveComplete
  split
  next moving _ => exact absurd moving still
  next => rfl

/-- The table as an INSERT move has been tried with it free (R74, R80). -/
theorem tryInsertMove_freed (idle : s.table.activity = .idle) (free : s.table.slot = none) :
    s.tryInsertMove.table.activity = .idle ∧ s.tryInsertMove.table.slot = none ∨
      ∃ lap k, s.tryInsertMove.table.activity = .moving ∧
        s.tryInsertMove.table.slot.map Move.purpose = some (.insert lap k) := by
  unfold State.tryInsertMove
  split
  · exact .inl ⟨idle, free⟩
  · split
    · rw [refuseMove_table]
      exact .inl ⟨idle, free⟩
    · exact .inr ⟨_, _, rfl, rfl⟩

end State

/-- Settles O29: with a move in flight its completion, then the INSERT move tried again. -/
theorem completedMovesFreeTheTable : Obligations.CompletedMovesFreeTheTable := by
  intro s mark
  by_cases moving : s.table.activity = .moving
  case neg =>
    exact ⟨_, State.exec_moveComplete_of_still moving mark, by simp, fun _ =>
      State.keepsBut_settle (State.Only.modLines s _ (by simp)).keepsBut, fun on => absurd on moving⟩
  cases slot : s.table.slot with
  | none =>
    have row : exec (.moveComplete mark) s = .next (s.settle (s.modLines fun l => { l with mark := mark })) := by
      change execMoveComplete mark s = _
      unfold execMoveComplete
      rw [moving, slot]
      rfl
    exact ⟨_, row, by simp, fun not => absurd moving not, fun _ m some => by cases some⟩
  | some m =>
    have freed : s.Only (s.freeTable.modLines fun l => { l with mark := mark }) [.lines, .table] :=
      .trans (.modTable s (fun x => { x with activity := .idle, slot := none }) (by simp)) (.modLines _ _ (by simp))
    cases purpose : m.purpose with
    | mark g =>
      have row := State.exec_moveComplete moving slot mark
        ((s.freeTable.modLines fun l => { l with mark := mark }).markArrival g mark)
        (fun g' same => by cases purpose.symm.trans same; rfl) (fun lap k same => by cases purpose.symm.trans same)
      have seen := State.SawMark.of_markArrival (s.freeTable.modLines fun l => { l with mark := mark }) g mark
      have table := State.markArrival_table (s.freeTable.modLines fun l => { l with mark := mark }) g mark
      refine ⟨_, row, by simp [State.freeTable], fun not => absurd moving not, fun _ m' same => ?_⟩
      obtain rfl := Option.some.inj same
      refine ⟨fun g' arrives => ?_, fun lap k inserts => by cases purpose.symm.trans inserts⟩
      cases purpose.symm.trans arrives
      refine ⟨State.SawMark.settle seen.tryInsertMove.endIfQuiet, State.keepsBut_settle ?_, ?_⟩
      · exact ((freed.mono (by simp)).trans (.trans (State.markArrival_only _ _ _ (by simp [State.Scans, State.Books]))
          (.trans (State.tryInsertMove_only _ (by simp) (by simp)) (State.endIfQuiet_only _ (by simp))))).keepsBut
      · simp only [State.settle_frame, State.endIfQuiet_frame]
        exact State.tryInsertMove_freed (by rw [table]; rfl) (by rw [table]; rfl)
    | insert lap k =>
      have row := State.exec_moveComplete moving slot mark (s.freeTable.modLines fun l => { l with mark := mark })
        (fun g same => by cases purpose.symm.trans same) (fun _ _ _ => rfl)
      refine ⟨_, row, ?_, fun not => absurd moving not, fun _ m' same => ?_⟩
      · simp only [State.settle_frame, State.endIfQuiet_frame, State.tryInsertMove_frame]
        rfl
      obtain rfl := Option.some.inj same
      refine ⟨fun g arrives => (by cases purpose.symm.trans arrives), fun _ _ _ => ⟨State.keepsBut_settle ?_, fun cannot => ?_,
        fun e goal can xlim ylim => ?_⟩⟩
      · exact ((freed.mono (by simp)).trans (.trans (State.tryInsertMove_only _ (by simp) (by simp))
          (State.endIfQuiet_only _ (by simp)))).keepsBut
      · simp only [State.settle_frame, State.endIfQuiet_frame]
        rw [State.tryInsertMove_of_cannot (by exact cannot)]
        rfl
      · simp only [State.settle_frame, State.endIfQuiet_frame]
        have off : (s.freeTable.modLines fun l => { l with mark := mark }).lines.onLimit = false :=
          State.onLimit_eq_false xlim ylim
        rw [State.tryInsertMove_of_can (by exact can), if_neg (Bool.eq_false_iff.1 off)]
        rfl

end Sys2Proof.Machine
end

section
/-!
# Conversions and the end of a feed (R23 to R33, R43)
-/
namespace Sys2Proof.Machine

theorem countsAsPass_iff (o : Options) (v : Verdict) :
    countsAsPass o v = true ↔ v = .pass ∨ v = .reversed ∧ o.polarity = true := by
  simp [countsAsPass]

/-- An entry as it takes a verdict where it is the measured one (R30). -/
def Entry.judged (lap : Lap) (k : Nat) (v : Verdict) (codes : List Nat) (e : Entry) : Entry :=
  if e.record.lap = lap ∧ e.record.ordinal = k then { e with verdict := v, codes := codes } else e

namespace State
variable {s t : State} {lap : Lap} {k : Nat} {v : Verdict} {codes : List Nat} {e : Entry} {b : Board}

/-! ## What the bookkeeping leaves of the tape and the monitors -/

theorem bookkeep_held (s : State) : s.bookkeep.tape.queue.map Entry.held = s.tape.queue.map Entry.held := by
  unfold State.bookkeep
  rw [decideOldest_held]
  simp

theorem bookkeep_tape (s : State) : s.bookkeep.tape = { s.tape with queue := s.bookkeep.tape.queue } := by
  unfold State.bookkeep
  rw [decideOldest_rest]
  simp

theorem takeRowHold_monitor (s : State) (id : MonitorId) : s.takeRowHold.alarm.monitor id = s.alarm.monitor id := by
  by_cases due : ∃ e b, s.HoldDue e b
  · obtain ⟨e, b, due⟩ := due
    rw [due.takeRowHold_alarm]
    cases id <;> rfl
  · rw [takeRowHold_of_not_due (by simpa using due)]

theorem bookkeep_monitor {id : MonitorId} (other : id ≠ .m2) (s : State) :
    s.bookkeep.alarm.monitor id = s.alarm.monitor id := by
  have decided : s.bookkeep.alarm = s.startBoard.takeRowHold.alarm := by simp [State.bookkeep]
  rw [decided, takeRowHold_monitor, startBoard_alarm]
  cases id
  case m2 => exact absurd rfl other
  all_goals rfl

theorem endIfQuiet_monitor (s : State) (id : MonitorId) : s.endIfQuiet.alarm.monitor id = s.alarm.monitor id := by
  rw [endIfQuiet_alarm]
  cases id <;> rfl

/-! ## A verdict (R30, R31) -/

theorem giveVerdict_tape (s : State) (lap : Lap) (k : Nat) (v : Verdict) (codes : List Nat) :
    (s.giveVerdict lap k v codes).tape = { s.tape with queue := s.tape.queue.map (Entry.judged lap k v codes) } := by
  simp [State.giveVerdict, Entry.judged]

theorem giveVerdict_verifier (s : State) (lap : Lap) (k : Nat) (v : Verdict) (codes : List Nat) :
    (s.giveVerdict lap k v codes).verifier = { s.verifier with
      phase := .idle, measured := none, forward := none, backward := none, jawsClosed := false } := by
  simp [State.giveVerdict]

theorem giveVerdict_alarm (s : State) (lap : Lap) (k : Nat) (v : Verdict) (codes : List Nat) :
    (s.giveVerdict lap k v codes).alarm =
      (s.evaluate .m1 (if countsAsPass s.options v then 0 else s.alarm.m1.value + 1)).alarm := by
  unfold State.giveVerdict
  refine evaluate_alarm_congr (s := s) ?_ ?_ ?_ _ _
  · simp
  · simp
  · exact boardSerial_congr (by simp)

theorem judged_held (e : Entry) : (e.judged lap k v codes).held =
    if e.record.lap = lap ∧ e.record.ordinal = k then (e.record, v, codes, e.attempted) else e.held := by
  unfold Entry.judged
  split <;> rfl

/-- The value of a monitor after an evaluation is what it was given, at most 65535 (R157). -/
theorem evaluate_value (on : s.alarm.run ≠ .configFault) (id : MonitorId) (n : Nat) :
    ((s.evaluate id n).alarm.monitor id).value = min 65535 n := by
  rw [evaluate_monitor on, Monitor.after_value]

/-! ## The end of a conversion (R23, R26 to R30, R33) -/

/-- The station with its converter free. -/
def converted (s : State) : State := s.modVerifier fun v => { v with conversion := none }

theorem converted_only (s : State) {ps : List Part} (verifier : .verifier ∈ ps) : s.Only s.converted ps :=
  .modVerifier s _ verifier

/-- The station as a conversion gives the measured entry its verdict. -/
def judge (s : State) (lap : Lap) (k : Nat) (v : Verdict) (codes : List Nat) : State :=
  (s.converted.giveVerdict lap k v codes).takeRowHold.decideOldest

theorem judge_only (s : State) (lap : Lap) (k : Nat) (v : Verdict) (codes : List Nat) {ps : List Part}
    (verifier : .verifier ∈ ps) (books : Books ps) : s.Only (s.judge lap k v codes) ps := by
  obtain ⟨tape, head, work, alarm⟩ := books
  exact (s.converted_only verifier).trans ((giveVerdict_only _ _ _ _ _ tape verifier alarm).trans
    ((takeRowHold_only _ work alarm).trans (decideOldest_only _ tape)))

theorem judge_queue (s : State) (lap : Lap) (k : Nat) (v : Verdict) (codes : List Nat) :
    (s.judge lap k v codes).tape.queue.map Entry.held = s.tape.queue.map fun e =>
      if e.record.lap = lap ∧ e.record.ordinal = k then (e.record, v, codes, e.attempted) else e.held := by
  have tape : (s.converted.giveVerdict lap k v codes).takeRowHold.tape.queue =
      s.tape.queue.map (Entry.judged lap k v codes) := by
    have held : (s.converted.giveVerdict lap k v codes).takeRowHold.tape = (s.converted.giveVerdict lap k v codes).tape := by
      simp
    rw [held, giveVerdict_tape]
    rfl
  unfold judge
  rw [decideOldest_held, tape, List.map_map]
  exact List.map_congr_left fun e _ => judged_held e

theorem judge_verifier (s : State) (lap : Lap) (k : Nat) (v : Verdict) (codes : List Nat) :
    (s.judge lap k v codes).verifier = { s.verifier with
      phase := .idle, measured := none, forward := none, backward := none, jawsClosed := false, conversion := none } := by
  have held : (s.judge lap k v codes).verifier = (s.converted.giveVerdict lap k v codes).verifier := by simp [judge]
  rw [held, giveVerdict_verifier]
  rfl

theorem judge_m1 (on : s.alarm.run ≠ .configFault) (lap : Lap) (k : Nat) (v : Verdict) (codes : List Nat) :
    (s.judge lap k v codes).alarm.m1.value =
      if v = .pass ∨ v = .reversed ∧ s.options.polarity = true then 0 else min 65535 (s.alarm.m1.value + 1) := by
  have held : (s.judge lap k v codes).alarm = (s.converted.giveVerdict lap k v codes).takeRowHold.alarm := by simp [judge]
  have hold := takeRowHold_monitor (s.converted.giveVerdict lap k v codes) .m1
  have value := evaluate_value (s := s.converted) (by exact on) .m1
    (if countsAsPass s.converted.options v then 0 else s.converted.alarm.m1.value + 1)
  rw [← giveVerdict_alarm (s := s.converted) lap k v codes] at value
  rw [held]
  refine (congrArg Monitor.value (hold :)).trans (value.trans ?_)
  change min 65535 (if countsAsPass s.options v = true then 0 else s.alarm.m1.value + 1) = _
  by_cases counts : countsAsPass s.options v = true
  · rw [if_pos counts, if_pos ((countsAsPass_iff _ _).1 counts)]
    rfl
  · rw [if_neg counts, if_neg fun pass => counts ((countsAsPass_iff _ _).2 pass)]

variable {c : Conversion} {u : Setup} {p : Lap × Nat} {code : BitVec 12}

theorem exec_conversion_of_waiting (flying : s.verifier.conversion = some c) (abandoned : c.abandoned = true)
    (waits : s.verifier.phase = .converting1) (setup : s.verifier.setup = some u) :
    exec (.conversionCompletion code) s =
      .next (s.settle (s.converted.modVerifier fun v => { v with conversion := some ⟨u.range, .ab, false, 2⟩ })) := by
  change execConversionCompletion code s = _
  unfold execConversionCompletion
  rw [flying]
  dsimp only
  rw [if_pos abandoned, waits, setup]
  rfl

theorem exec_conversion_of_abandoned (flying : s.verifier.conversion = some c) (abandoned : c.abandoned = true)
    (other : s.verifier.phase ≠ .converting1 ∨ s.verifier.setup = none) :
    exec (.conversionCompletion code) s = .next (s.settle s.converted) := by
  change execConversionCompletion code s = _
  unfold execConversionCompletion
  rw [flying]
  dsimp only
  rw [if_pos abandoned]
  split
  next waits setup => rcases other with h | h <;> simp_all
  next => rfl

theorem exec_conversion_of_forward (flying : s.verifier.conversion = some c) (kept : c.abandoned = false)
    (first : s.verifier.phase = .converting1) (setup : s.verifier.setup = some u) (measured : s.verifier.measured = some p) :
    exec (.conversionCompletion code) s = if u.kind = .diode then
      .next (s.settle (s.converted.modVerifier fun v =>
        { v with forward := some code.toNat, phase := .converting2, conversion := some ⟨u.range, .ba, false, 2⟩ }))
    else .next (s.settle (s.judge p.1 p.2 (classifySingle u code.toNat) [code.toNat])) := by
  change execConversionCompletion code s = _
  unfold execConversionCompletion
  rw [flying]
  dsimp only
  rw [if_neg (by simp [kept]), first, setup, measured]
  rfl

theorem exec_conversion_of_reverse (flying : s.verifier.conversion = some c) (kept : c.abandoned = false)
    (second : s.verifier.phase = .converting2) (setup : s.verifier.setup = some u) (measured : s.verifier.measured = some p) :
    exec (.conversionCompletion code) s = .next (s.settle (s.judge p.1 p.2 (classifyDiode s.header.diodeLo s.header.diodeHi
      (s.verifier.forward.getD 0) code.toNat) [s.verifier.forward.getD 0, code.toNat])) := by
  change execConversionCompletion code s = _
  unfold execConversionCompletion
  rw [flying]
  dsimp only
  rw [if_neg (by simp [kept]), second, setup, measured]
  rfl

/-- A conversion that no measurement waits for only frees the converter. -/
theorem exec_conversion_of_none (flying : s.verifier.conversion = some c) (kept : c.abandoned = false)
    (none : ¬((s.verifier.phase = .converting1 ∨ s.verifier.phase = .converting2) ∧ s.verifier.setup.isSome = true ∧
      s.verifier.measured.isSome = true)) :
    exec (.conversionCompletion code) s = .next (s.settle s.converted) := by
  change execConversionCompletion code s = _
  unfold execConversionCompletion
  rw [flying]
  dsimp only
  rw [if_neg (by simp [kept])]
  split
  next first setup measured => exact absurd ⟨.inl first, by simp [setup], by simp [measured]⟩ none
  next second setup measured => exact absurd ⟨.inr second, by simp [setup], by simp [measured]⟩ none
  next => rfl

end State

/-- Settles O17: an abandoned conversion, the two codes of a measurement, and a conversion that none waits for. -/
theorem conversionsComplete : Obligations.ConversionsComplete := by
  refine fun s code => ⟨fun idle => ?idle, fun c flying => ?flying⟩
  case idle =>
    change execConversionCompletion code s = _
    unfold execConversionCompletion
    rw [idle]
  have books : State.Books [.verifier, .tape, .head, .work, .alarm] := by simp [State.Books]
  have frees := s.converted_only (ps := [.verifier, .tape, .head, .work, .alarm]) (by simp)
  cases abandoned : c.abandoned with
  | true =>
    by_cases waits : s.verifier.phase = .converting1 ∧ s.verifier.setup.isSome = true
    · obtain ⟨first, setup⟩ := waits
      obtain ⟨u, setup⟩ := Option.isSome_iff_exists.1 setup
      refine ⟨_, State.exec_conversion_of_waiting flying abandoned first setup,
        State.keepsBut_settle (frees.trans (.modVerifier _ _ (by simp))).keepsBut, fun _ => ?_, nofun⟩
      simp [State.converted, first, setup]
    · have other : s.verifier.phase ≠ .converting1 ∨ s.verifier.setup = none := by
        by_cases first : s.verifier.phase = .converting1
        · exact .inr (by simpa [first] using waits)
        · exact .inl first
      refine ⟨_, State.exec_conversion_of_abandoned flying abandoned other, State.keepsBut_settle frees.keepsBut,
        fun _ => ?_, nofun⟩
      rcases other with other | other <;> simp [State.converted, other]
  | false =>
    by_cases waits : (s.verifier.phase = .converting1 ∨ s.verifier.phase = .converting2) ∧ s.verifier.setup.isSome = true ∧
        s.verifier.measured.isSome = true
    case neg =>
      refine ⟨_, State.exec_conversion_of_none flying abandoned waits, State.keepsBut_settle frees.keepsBut, nofun,
        fun _ u p setup measured => ?_⟩
      have still : s.verifier.phase ≠ .converting1 ∧ s.verifier.phase ≠ .converting2 := by
        simpa [setup, measured, not_or] using waits
      exact ⟨fun first => absurd first still.1, fun v codes code => by simp [still] at code⟩
    obtain ⟨phase, setup, measured⟩ := waits
    obtain ⟨u, setup⟩ := Option.isSome_iff_exists.1 setup
    obtain ⟨p, measured⟩ := Option.isSome_iff_exists.1 measured
    have judged (v : Verdict) (codes : List Nat) :
        (s.settle (s.judge p.1 p.2 v codes)).tape.queue.map Entry.held = (s.tape.queue.map fun e =>
          if e.record.lap = p.1 ∧ e.record.ordinal = p.2 then (e.record, v, codes, e.attempted) else e.held) ∧
        (s.settle (s.judge p.1 p.2 v codes)).verifier = { s.verifier with
          phase := .idle, measured := none, forward := none, backward := none, jawsClosed := false, conversion := none } ∧
        (s.alarm.run ≠ .configFault → (s.settle (s.judge p.1 p.2 v codes)).alarm.m1.value =
          if v = .pass ∨ v = .reversed ∧ s.options.polarity = true then 0 else min 65535 (s.alarm.m1.value + 1)) := by
      simp only [State.settle_frame]
      exact ⟨s.judge_queue p.1 p.2 v codes, s.judge_verifier p.1 p.2 v codes, fun on => State.judge_m1 on p.1 p.2 v codes⟩
    have only (v : Verdict) (codes : List Nat) := State.keepsBut_settle (r := s) (s.judge_only p.1 p.2 v codes
      (ps := [.verifier, .tape, .head, .work, .alarm]) (by simp) books).keepsBut
    rcases phase with first | second
    · have row := State.exec_conversion_of_forward (code := code) flying abandoned first setup measured
      by_cases diode : u.kind = .diode
      · rw [if_pos diode] at row
        refine ⟨_, row, State.keepsBut_settle (frees.trans (.modVerifier _ _ (by simp))).keepsBut, nofun,
          fun _ u' p' setup' measured' => ?_⟩
        obtain rfl := Option.some.inj (setup.symm.trans setup')
        exact ⟨fun _ _ => by simp [State.converted], fun v codes code => by simp [first, diode] at code⟩
      · rw [if_neg diode] at row
        refine ⟨_, row, only _ _, nofun, fun _ u' p' setup' measured' => ?_⟩
        obtain rfl := Option.some.inj (setup.symm.trans setup')
        obtain rfl := Option.some.inj (measured.symm.trans measured')
        refine ⟨fun _ is => absurd is diode, fun v codes given => ?_⟩
        obtain ⟨-, -, rfl, rfl⟩ : _ ∧ _ ∧ v = _ ∧ codes = _ := given.resolve_right (by simp [first])
        exact judged _ _
    · have row := State.exec_conversion_of_reverse (code := code) flying abandoned second setup measured
      refine ⟨_, row, only _ _, nofun, fun _ u' p' setup' measured' => ?_⟩
      obtain rfl := Option.some.inj (measured.symm.trans measured')
      refine ⟨fun first => by simp [second] at first, fun v codes given => ?_⟩
      obtain ⟨-, f, forward, rfl, rfl⟩ := given.resolve_left (by simp [second])
      rw [forward]
      exact judged _ _

end Sys2Proof.Machine
end

section
/-!
# The end of a feed (R43)
-/
namespace Sys2Proof.Machine

/-- The verdict that an entry has from its PRES sample: final at once, or to be measured (R24). -/
def firstVerdict (pres : Bool) (r : Record) : Verdict :=
  if pres = false then .absent else if r.kind = .none then .pass else .pending

theorem firstVerdict_pending {pres : Bool} {r : Record} :
    firstVerdict pres r = .pending ↔ pres = true ∧ r.kind ≠ .none := by
  unfold firstVerdict
  cases pres <;> simp

namespace State
variable {s : State} {pres : Bool} {r : Record} {rest : List Record}

theorem evaluate_min (s : State) (id : MonitorId) (n : Nat) : s.evaluate id (min 65535 n) = s.evaluate id n := by
  unfold State.evaluate
  simp

/-- A measurement that is not begun ends with its verdict. -/
theorem measure_of_final (final : firstVerdict pres r ≠ .pending) :
    s.measure pres r = s.giveVerdict r.lap r.ordinal (firstVerdict pres r) [] := by
  unfold State.measure firstVerdict at *
  split
  next => rfl
  next =>
    split
    next => rfl
    next present measured => simp [present, measured] at final

theorem measure_of_pending (begun : firstVerdict pres r = .pending) :
    s.measure pres r = s.modVerifier fun v => { v with
      phase := .converting1, measured := some (r.lap, r.ordinal), setup := some ⟨r.kind, converterRange r, windowOf s.header r⟩,
      jawsClosed := true, conversion := v.conversion.or (some ⟨converterRange r, .ab, false, 2⟩) } := by
  obtain ⟨present, kind⟩ := firstVerdict_pending.1 begun
  unfold State.measure
  rw [if_neg (by simp [present]), if_neg kind]
  rfl

/-- A verdict given at once reaches each entry of its name. -/
theorem measure_held : (s.measure pres r).tape.queue.map Entry.held = s.tape.queue.map fun e =>
    if firstVerdict pres r ≠ .pending ∧ e.record.lap = r.lap ∧ e.record.ordinal = r.ordinal
    then (e.record, firstVerdict pres r, [], e.attempted) else e.held := by
  by_cases begun : firstVerdict pres r = .pending
  · rw [measure_of_pending begun]
    simp [begun]
  · rw [measure_of_final begun, giveVerdict_tape, List.map_map]
    refine List.map_congr_left fun e _ => (judged_held e).trans ?_
    simp [begun]

theorem measure_rest : (s.measure pres r).tape = { s.tape with queue := (s.measure pres r).tape.queue } := by
  by_cases begun : firstVerdict pres r = .pending
  · rw [measure_of_pending begun]
    rfl
  · rw [measure_of_final begun, giveVerdict_tape]

/-- The value that M1 is evaluated with at a verdict given at once (R31). -/
theorem measure_m1 (final : firstVerdict pres r ≠ .pending) : (s.measure pres r).alarm =
    (s.evaluate .m1 (if pres = true ∧ r.kind = .none then 0 else min 65535 (s.alarm.m1.value + 1))).alarm := by
  rw [measure_of_final final, giveVerdict_alarm]
  unfold firstVerdict at *
  cases pres with
  | false => simp [countsAsPass, evaluate_min]
  | true =>
    have kind : r.kind = .none := by simpa using final
    simp [countsAsPass, kind]

/-- The station as the oldest record leaves the buffer for the queue, and the next read is issued. -/
def recordTaken (s : State) (r : Record) (rest : List Record) : State :=
  ((s.modTape fun t => { t with feeding := false, timer := none, queue := t.queue ++ [newEntry r] }).modReader
    fun d => { d with buffer := rest }).issueRead

theorem recordTaken_frame (s : State) (r : Record) (rest : List Record) :
    (s.recordTaken r rest).tape = { s.tape with feeding := false, timer := none, queue := s.tape.queue ++ [newEntry r] } ∧
      (s.recordTaken r rest).verifier = s.verifier ∧ (s.recordTaken r rest).alarm = s.alarm ∧
      (s.recordTaken r rest).hdr = s.hdr ∧ (s.recordTaken r rest).work = s.work := by
  unfold recordTaken State.issueRead
  split <;> exact ⟨rfl, rfl, rfl, rfl, rfl⟩

theorem recordTaken_only (s : State) (r : Record) (rest : List Record) {ps : List Part} (tape : .tape ∈ ps)
    (reader : .reader ∈ ps) : s.Only (s.recordTaken r rest) ps :=
  (Only.modTape s _ tape).trans ((Only.modReader _ _ reader).trans (issueRead_only _ reader))

/-- The reader after the index event (R18). -/
theorem recordTaken_reader (s : State) (r : Record) (rest : List Record) :
    (s.recordTaken r rest).reader = if s.reader.phase = .walking ∧ rest.length < 4 ∧ s.reader.read = none then
      { s.reader with
        buffer := rest, read := some ⟨stepAddr s.reader.rows s.reader.cursor, 4, some s.reader.cursor, false⟩,
        cursor := s.reader.cursor.next s.reader.rows }
    else { s.reader with buffer := rest } := by
  unfold recordTaken
  split
  next ready => exact issueRead_of_ready ready
  next not =>
    refine congrArg State.reader (issueRead_of_not_ready ?_)
    exact not

/-- The station as the entry has been appended and its measurement begun or ended, M3 not yet evaluated. -/
def appended (s : State) (pres : Bool) (r : Record) (rest : List Record) : State :=
  (s.recordTaken r rest).measure pres r

/-- The station as M3 has taken the feed time, before the bookkeeping. -/
def feedTimed (s : State) (pres : Bool) (r : Record) (rest : List Record) : State :=
  let u := (s.appended pres r rest).evaluate .m3 (s.now - s.tape.startedAt)
  if s.tape.queue.isEmpty then u.checkFlush else u

theorem feedEnds_eq (s : State) (pres : Bool) (r : Record) (rest : List Record) :
    s.feedEnds pres r rest = (s.feedTimed pres r rest).bookkeep.endIfQuiet := rfl

theorem appended_only (s : State) (pres : Bool) (r : Record) (rest : List Record) {ps : List Part} (tape : .tape ∈ ps)
    (reader : .reader ∈ ps) (verifier : .verifier ∈ ps) (alarm : .alarm ∈ ps) : s.Only (s.appended pres r rest) ps :=
  (recordTaken_only s r rest tape reader).trans (measure_only _ pres r tape verifier alarm)

theorem feedTimed_only (s : State) (pres : Bool) (r : Record) (rest : List Record) {ps : List Part} (tape : .tape ∈ ps)
    (reader : .reader ∈ ps) (verifier : .verifier ∈ ps) (alarm : .alarm ∈ ps) : s.Only (s.feedTimed pres r rest) ps := by
  have timed := (appended_only s pres r rest tape reader verifier alarm).trans
    (evaluate_only _ .m3 (s.now - s.tape.startedAt) alarm)
  exact .ite (fun _ => timed.trans (checkFlush_only _ tape)) fun _ => timed

theorem feedEnds_only (s : State) (pres : Bool) (r : Record) (rest : List Record) {ps : List Part} (books : Books ps)
    (reader : .reader ∈ ps) (verifier : .verifier ∈ ps) : s.Only (s.feedEnds pres r rest) ps := by
  have ⟨tape, _, _, alarm⟩ := books
  exact (feedTimed_only s pres r rest tape reader verifier alarm).trans
    ((bookkeep_only _ books).trans (endIfQuiet_only _ alarm))

theorem checkFlush_beside (s : State) : s.checkFlush.reader = s.reader ∧ s.checkFlush.verifier = s.verifier ∧
    s.checkFlush.alarm = s.alarm ∧ s.checkFlush.tape = { s.tape with flush := s.checkFlush.tape.flush } := by
  unfold State.checkFlush
  split
  · split <;> exact ⟨rfl, rfl, rfl, rfl⟩
  · exact ⟨rfl, rfl, rfl, rfl⟩

/-- The feed's end through the bookkeeping: the reader, the verifier, the alarm unit's monitors, and the entries. -/
theorem feedTimed_beside (s : State) (pres : Bool) (r : Record) (rest : List Record) :
    (s.feedTimed pres r rest).reader = (s.appended pres r rest).reader ∧
      (s.feedTimed pres r rest).verifier = (s.appended pres r rest).verifier ∧
      (s.feedTimed pres r rest).alarm = ((s.appended pres r rest).evaluate .m3 (s.now - s.tape.startedAt)).alarm ∧
      (s.feedTimed pres r rest).tape = { (s.appended pres r rest).tape with flush := (s.feedTimed pres r rest).tape.flush } := by
  unfold feedTimed
  dsimp only
  split
  · obtain ⟨reader, verifier, alarm, tape⟩ :=
      checkFlush_beside ((s.appended pres r rest).evaluate .m3 (s.now - s.tape.startedAt))
    rw [reader, verifier, alarm, tape]
    simp
  · simp

theorem feedEnds_reader (s : State) (pres : Bool) (r : Record) (rest : List Record) :
    (s.feedEnds pres r rest).reader = (s.recordTaken r rest).reader := by
  have held : (s.feedEnds pres r rest).reader = (s.feedTimed pres r rest).reader := by simp [feedEnds_eq]
  rw [held, (feedTimed_beside s pres r rest).1]
  simp [appended]

/-- The oldest record has left the buffer and the next read is issued where it may be (R18). -/
theorem feedEnds_reads (s : State) (pres : Bool) (r : Record) (rest : List Record) :
    (s.feedEnds pres r rest).reader = { s.reader with
      buffer := rest, read := (s.feedEnds pres r rest).reader.read, cursor := (s.feedEnds pres r rest).reader.cursor } ∧
    if s.reader.phase = .walking ∧ rest.length < 4 ∧ s.reader.read = none then
      (s.feedEnds pres r rest).reader.read =
          some ⟨stepAddr s.reader.rows s.reader.cursor, 4, some s.reader.cursor, false⟩ ∧
        (s.feedEnds pres r rest).reader.cursor = s.reader.cursor.next s.reader.rows
    else (s.feedEnds pres r rest).reader.read = s.reader.read ∧
      (s.feedEnds pres r rest).reader.cursor = s.reader.cursor := by
  rw [feedEnds_reader, recordTaken_reader]
  by_cases reads : s.reader.phase = .walking ∧ rest.length < 4 ∧ s.reader.read = none
  · simp only [if_pos reads, and_self]
  · simp only [if_neg reads, and_self]

theorem feedEnds_verifier (s : State) (pres : Bool) (r : Record) (rest : List Record) :
    (s.feedEnds pres r rest).verifier = (s.appended pres r rest).verifier := by
  have held : (s.feedEnds pres r rest).verifier = (s.feedTimed pres r rest).verifier := by simp [feedEnds_eq]
  rw [held, (feedTimed_beside s pres r rest).2.1]

theorem feedEnds_tape (s : State) (pres : Bool) (r : Record) (rest : List Record) :
    (s.feedEnds pres r rest).tape.feeding = false ∧ (s.feedEnds pres r rest).tape.timer = none ∧
      (s.feedEnds pres r rest).tape.queue.map Entry.held = (s.tape.queue.map fun e =>
        if firstVerdict pres r ≠ .pending ∧ e.record.lap = r.lap ∧ e.record.ordinal = r.ordinal
        then (e.record, firstVerdict pres r, [], e.attempted) else e.held) ++ [(r, firstVerdict pres r, [], false)] := by
  have held : (s.feedEnds pres r rest).tape = (s.feedTimed pres r rest).bookkeep.tape := by simp [feedEnds_eq]
  obtain ⟨taken, -⟩ := recordTaken_frame s r rest
  have tape := (feedTimed_beside s pres r rest).2.2.2
  have kept : (s.appended pres r rest).tape = _ := measure_rest
  rw [held]
  refine ⟨?_, ?_, ?_⟩
  · rw [bookkeep_tape, tape, kept, taken]
  · rw [bookkeep_tape, tape, kept, taken]
  · rw [bookkeep_held, tape]
    refine (measure_held (s := s.recordTaken r rest)).trans ?_
    rw [taken, List.map_append]
    congr 1
    by_cases begun : firstVerdict pres r = .pending <;> simp [begun, newEntry, Entry.held]

theorem feedEnds_monitor {id : MonitorId} (other : id ≠ .m2) (s : State) (pres : Bool) (r : Record) (rest : List Record) :
    (s.feedEnds pres r rest).alarm.monitor id =
      ((s.appended pres r rest).evaluate .m3 (s.now - s.tape.startedAt)).alarm.monitor id := by
  rw [feedEnds_eq, endIfQuiet_monitor, bookkeep_monitor other, (feedTimed_beside s pres r rest).2.2.1]

theorem feedEnds_m1 (s : State) (pres : Bool) (r : Record) (rest : List Record) : (s.feedEnds pres r rest).alarm.m1 =
    if pres = true ∧ r.kind ≠ .none then s.alarm.m1
    else (s.evaluate .m1 (if pres = true ∧ r.kind = .none then 0 else min 65535 (s.alarm.m1.value + 1))).alarm.m1 := by
  have same : (s.feedEnds pres r rest).alarm.m1 = (s.appended pres r rest).alarm.m1 :=
    (feedEnds_monitor (id := .m1) (by simp) s pres r rest).trans
      (evaluate_monitor_of_ne (other := .m1) (by simp) _)
  obtain ⟨-, -, alarm, hdr, work⟩ := recordTaken_frame s r rest
  rw [same]
  split
  next begun =>
    have plain := measure_of_pending (s := s.recordTaken r rest) (firstVerdict_pending.2 begun)
    rw [appended, plain, modVerifier_alarm, alarm]
  next final =>
    rw [appended, measure_m1 (mt firstVerdict_pending.1 final), alarm,
      evaluate_alarm_congr alarm hdr (boardSerial_congr work)]

theorem feedEnds_m3 (on : s.alarm.run ≠ .configFault) (pres : Bool) (r : Record) (rest : List Record) :
    (s.feedEnds pres r rest).alarm.m3.value = min 65535 (s.now - s.tape.startedAt) := by
  have still : (s.appended pres r rest).alarm.run ≠ .configFault := by
    obtain ⟨-, -, alarm, -, -⟩ := recordTaken_frame s r rest
    by_cases begun : firstVerdict pres r = .pending
    · rw [appended, measure_of_pending begun, modVerifier_alarm, alarm]
      exact on
    · rw [appended, measure_m1 begun]
      rcases evaluate_run (s.recordTaken r rest) .m1
        (if pres = true ∧ r.kind = .none then 0 else min 65535 ((s.recordTaken r rest).alarm.m1.value + 1)) with same | stop
      · rw [same, alarm]
        exact on
      · rw [stop]
        simp
  exact (congrArg Monitor.value (feedEnds_monitor (id := .m3) (by simp) s pres r rest)).trans
    (evaluate_value still .m3 _)

end State

/-- Settles O19: the feed's end unit by unit, over a buffer with a record and over an empty one. -/
theorem indexEventEndsTheFeed : Obligations.IndexEventEndsTheFeed := by
  intro s pres
  have row : exec (.indexEvent pres) s = execIndexEvent pres s := rfl
  have lines := State.Only.modLines s (fun l => { l with pres := pres }) (ps := [.lines]) (by simp)
  cases feeding : s.tape.feeding with
  | false =>
    refine ⟨_, row.trans (if_neg (by simp [feeding])), by simp, fun _ => State.keepsBut_settle lines.keepsBut, nofun⟩
  | true =>
    have books : State.Books [.lines, .reader, .verifier, .tape, .head, .work, .alarm] := by simp [State.Books]
    have wide := State.Only.modLines s (fun l => { l with pres := pres })
      (ps := [.lines, .reader, .verifier, .tape, .head, .work, .alarm]) (by simp)
    cases buffer : s.reader.buffer with
    | nil =>
      have eq : exec (.indexEvent pres) s = .next (s.settle (((s.modLines fun l => { l with pres := pres }).modTape fun t =>
          { t with feeding := false, timer := none }).endIfQuiet)) := by
        rw [row, execIndexEvent, if_pos feeding, buffer]
        rfl
      refine ⟨_, eq, by simp, nofun, fun _ => ⟨by simp, by simp,
        State.keepsBut_settle (wide.trans ((State.Only.modTape _ _ (by simp)).trans
          (State.endIfQuiet_only _ (by simp)))).keepsBut, fun _ => by simp, nofun⟩⟩
    | cons r rest =>
      have eq : exec (.indexEvent pres) s =
          .next (s.settle ((s.modLines fun l => { l with pres := pres }).feedEnds pres r rest)) := by
        rw [row, execIndexEvent, if_pos feeding, buffer]
        rfl
      obtain ⟨ended, stopped, queue⟩ := State.feedEnds_tape (s.modLines fun l => { l with pres := pres }) pres r rest
      refine ⟨_, eq, by simp, nofun, fun _ => ⟨by simpa using ended, by simpa using stopped,
        State.keepsBut_settle (wide.trans (State.feedEnds_only _ _ _ _ books (by simp) (by simp))).keepsBut, nofun,
        fun r' rest' oldest => ?_⟩⟩
      obtain ⟨rfl, rfl⟩ := List.cons.inj oldest
      have verifier := State.feedEnds_verifier (s.modLines fun l => { l with pres := pres }) pres r rest
      simp only [State.settle_frame]
      obtain ⟨-, taken, -, hdr, -⟩ := State.recordTaken_frame (s.modLines fun l => { l with pres := pres }) r rest
      have ⟨reader, reads⟩ := State.feedEnds_reads (s.modLines fun l => { l with pres := pres }) pres r rest
      refine ⟨reader, reads, fun v is => ?_, fun e last => ?_, fun begun => ?_, fun final => ?_, fun n is => ?_, fun on => ?_⟩
      · obtain rfl : v = firstVerdict pres r := is
        exact queue
      · have named := congrArg List.getLast? queue
        rw [List.getLast?_map, last] at named
        simp [Entry.held] at named
        exact named.2.1
      · rw [verifier, State.appended, State.measure_of_pending (firstVerdict_pending.2 begun)]
        refine ⟨rfl, rfl, rfl, ?_, fun free => ?_⟩
        · simp [State.header, hdr]
        · simp [taken, free]
      · have given : firstVerdict pres r ≠ .pending := by
          rw [Ne, firstVerdict_pending, not_and_or]
          simpa using final
        rw [verifier, State.appended, State.measure_of_final given, State.giveVerdict_verifier]
        exact ⟨rfl, rfl, rfl⟩
      · subst is
        refine (State.feedEnds_m1 _ pres r rest).trans ?_
        congr 1
        exact congrArg Alarm.m1 (State.evaluate_alarm_congr
          (t := s.modLines fun l => { l with pres := pres }) (s := s) rfl rfl rfl _ _)
      · exact State.feedEnds_m3 (by exact on) pres r rest

end Sys2Proof.Machine
end

section
/-!
# An entry leaves the queue (R49, R51, R119, R120)

The outcome goes to the board of the entry's lap; then the flush marker is checked, the bookkeeping is done, and the next
feed starts. Each of these says here what it leaves of the board, the alarm unit, the head and the tape.
-/
namespace Sys2Proof.Machine

namespace State
variable {s t u : State} {b : Board} {lap : Lap} {k : Nat}

/-! ## The board through the bookkeeping -/

/-- From `s` to `t` the board is the same but for what the bookkeeping gives it: a board that is not READY keeps its lap,
and the work position its state. -/
def BoardKept (s t : State) : Prop :=
  ∀ b, s.work.board = some b → ∃ c, t.work.board = some c ∧ b.SameBut c ∧
    (s.work.state ≠ .ready → t.work.state = s.work.state ∧ c.lap = b.lap)

theorem BoardKept.of_work (work : t.work = s.work) : s.BoardKept t := fun b held =>
  ⟨b, by rw [work]; exact held, .refl b, fun _ => ⟨by rw [work], rfl⟩⟩

theorem BoardKept.trans (first : s.BoardKept t) (second : t.BoardKept u) : s.BoardKept u := by
  intro b held
  obtain ⟨c, held', same, stays⟩ := first b held
  obtain ⟨d, held'', same', stays'⟩ := second c held'
  refine ⟨d, held'', same.trans same', fun not => ?_⟩
  obtain ⟨state, lap⟩ := stays not
  obtain ⟨state', lap'⟩ := stays' (state ▸ not)
  exact ⟨state'.trans state, lap'.trans lap⟩

theorem bookkeep_boardKept (s : State) : s.BoardKept s.bookkeep := by
  intro b held
  obtain ⟨c, held', same⟩ := bookkeep_board held
  refine ⟨c, held', same, fun not => ?_⟩
  have eq : s.bookkeep = s.takeRowHold.decideOldest := by
    unfold State.bookkeep
    rw [startBoard_of_cannot fun can => not can.1]
  have work : s.bookkeep.work = s.takeRowHold.work := by rw [eq]; simp
  obtain ⟨state, laps, -⟩ := takeRowHold_board s
  rw [← work, held', held] at laps
  exact ⟨by rw [work, state], Option.some.inj laps⟩

theorem followOn_boardKept (s : State) : s.BoardKept s.followOn := by
  have checked : s.BoardKept s.checkFlush := .of_work (by simp)
  have fed : s.checkFlush.bookkeep.BoardKept s.followOn := .of_work (by simp [State.followOn])
  exact checked.trans ((bookkeep_boardKept _).trans fed)

/-! ## The outcome on the board (R119, R120) -/

theorem countsAs_sameBut {c d : Board} {o : Option StepOutcome} (counts : b.CountsAs c k o) (same : c.SameBut d) :
    b.CountsAs d k o := by
  rw [same]
  exact counts

theorem count_countsAs (b : Board) (k : Nat) (o : StepOutcome) : b.CountsAs (b.count k o) k (some o) := by
  have room : Config.missRoom = 8 := rfl
  cases o with
  | inserted => simp [Board.CountsAs, Board.count]
  | passed => simp [Board.CountsAs, Board.count]
  | missed r =>
    unfold Board.CountsAs Board.count
    dsimp only
    rw [room]
    split <;> simp [*]

theorem counts_none (s : State) (lap : Lap) (k : Nat) : s.Counts s lap k Option.none := by
  intro b held
  have same : b.CountsAs b k none := by simp [Board.CountsAs]
  exact ⟨b, held, fun ⟨working, _⟩ => ⟨same, rfl, fun h => absurd rfl h, fun _ => ⟨working, rfl, rfl⟩⟩, fun _ => same⟩

/-- A board that the outcome is not for stays as it is, and the alarm unit with it. -/
theorem takeOutcome_of_other (other : ∀ b, s.work.board = some b → ¬(s.work.state = .working ∧ b.lap = some lap))
    (o : StepOutcome) : s.takeOutcome lap k o = s := by
  unfold State.takeOutcome
  split
  next => rfl
  next b working =>
    obtain ⟨state, held⟩ := workingBoard_iff.1 working
    exact if_neg fun same => other b held ⟨state, same⟩

theorem takeOutcome_counts (s : State) (lap : Lap) (k : Nat) (o : StepOutcome) :
    s.Counts (s.takeOutcome lap k o) lap k (some o) := by
  intro b held
  by_cases takes : s.work.state = .working ∧ b.lap = some lap
  · obtain ⟨state, same⟩ := takes
    have counted := count_countsAs b k o
    have laps : (b.count k o).lap = b.lap ∧ (b.count k o).ownStage = b.ownStage ∧ (b.count k o).reject = b.reject := by
      unfold Board.count
      split
      next => exact ⟨rfl, rfl, rfl⟩
      next => exact ⟨rfl, rfl, rfl⟩
      next => split <;> exact ⟨rfl, rfl, rfl⟩
    obtain ⟨lapKept, stage, reject⟩ := laps
    have eq := takeOutcome_of_working (workingBoard_iff.2 ⟨state, held⟩) lap k o
    rw [if_pos same] at eq
    rw [eq]
    by_cases last : k + 1 = panelSteps s.reader.rows
    · rw [if_pos last]
      refine ⟨_, rfl, fun _ => ⟨counted, lapKept, fun _ _ => ⟨rfl, rfl, ?_⟩, fun h => absurd last (h.resolve_left (by simp))⟩,
        fun no => absurd ⟨state, same⟩ no⟩
      simp [Board.complete, reject]
    · rw [if_neg last]
      exact ⟨_, by rw [countOutcome_work], fun _ => ⟨counted, lapKept, fun _ h => absurd h last,
        fun _ => ⟨by rw [countOutcome_work]; exact state, stage, reject⟩⟩, fun no => absurd ⟨state, same⟩ no⟩
  · have eq : s.takeOutcome lap k o = s := takeOutcome_of_other (fun c held' => by
      rw [held] at held'
      cases held'
      exact takes) o
    rw [eq]
    exact ⟨b, held, fun h => absurd h takes, fun _ => by simp [Board.CountsAs]⟩

/-- What a board has counted it keeps through the bookkeeping. -/
theorem Counts.boardKept {o : Option StepOutcome} (counts : s.Counts t lap k o) (kept : t.BoardKept u) :
    s.Counts u lap k o := by
  intro b held
  obtain ⟨c, held', takes, other⟩ := counts b held
  obtain ⟨d, held'', same, stays⟩ := kept c held'
  have beside : d.ownStage = c.ownStage ∧ d.inserted = c.inserted ∧ d.missed = c.missed ∧ d.missList = c.missList ∧
      d.reject = c.reject := by
    rw [same]
    exact ⟨rfl, rfl, rfl, rfl, rfl⟩
  obtain ⟨stage, inserted, missed, missList, reject⟩ := beside
  refine ⟨d, held'', fun working => ?_, fun not => countsAs_sameBut (other not) same⟩
  obtain ⟨counted, lapKept, last, more⟩ := takes working
  have notReady : t.work.state ≠ .ready := by
    by_cases done : o ≠ none ∧ k + 1 = panelSteps s.reader.rows
    · simp [(last done.1 done.2).1]
    · have still := more (by rwa [← not_ne_iff (a := o), ← not_and_or])
      simp [still.1]
  obtain ⟨state, laps⟩ := stays notReady
  refine ⟨countsAs_sameBut counted same, laps.trans lapKept, fun some done => ?_, fun still => ?_⟩
  · rw [state, stage, inserted, missed, missList, reject]
    exact last some done
  · rw [state, stage, reject]
    exact more still

/-! ## The alarm unit at an outcome (R119) -/

theorem missesAfter_of_takes (held : s.work.board = some b) (working : s.work.state = .working) (same : b.lap = some lap) :
    s.missesAfter lap = some (b.missed + 1) := by
  simp [State.missesAfter, held, working, same]

theorem missesAfter_eq_none (h : s.missesAfter lap = none) :
    ∀ b, s.work.board = some b → ¬(s.work.state = .working ∧ b.lap = some lap) := fun b held takes => by
  rw [missesAfter_of_takes held takes.1 takes.2] at h
  cases h

theorem missesAfter_eq_some {n : Nat} (h : s.missesAfter lap = some n) :
    ∃ b, s.work.board = some b ∧ s.work.state = .working ∧ b.lap = some lap ∧ n = b.missed + 1 := by
  unfold State.missesAfter at h
  split at h
  next b held =>
    rw [Option.ite_none_right_eq_some] at h
    obtain ⟨⟨working, same⟩, count⟩ := h
    exact ⟨b, held, working, same, (Option.some.inj count).symm⟩
  next => cases h

theorem takeOutcome_of_no_board (noBoard : s.missesAfter lap = none) (o : StepOutcome) : s.takeOutcome lap k o = s :=
  takeOutcome_of_other (missesAfter_eq_none noBoard) o

/-- An outcome that is no miss leaves the alarm unit alone. -/
theorem takeOutcome_alarm_of_hit {o : StepOutcome} (hit : ∀ r, o ≠ .missed r) :
    (s.takeOutcome lap k o).alarm = s.alarm := by
  unfold State.takeOutcome
  split
  next => rfl
  next b working =>
    cases o with
    | inserted => dsimp only; (repeat' split) <;> rfl
    | passed => dsimp only; (repeat' split) <;> rfl
    | missed r => exact absurd rfl (hit r)

/-- A miss that a board takes evaluates M2 with its missed count. -/
theorem takeOutcome_alarm_of_miss {n : Nat} (misses : s.missesAfter lap = some n) (r : MissReason) :
    (s.takeOutcome lap k (.missed r)).alarm = (s.evaluate .m2 n).alarm := by
  obtain ⟨b, held, working, same, rfl⟩ := missesAfter_eq_some misses
  have counted := count_countsAs b k (.missed r)
  obtain ⟨serial, -, -, -, missed, -⟩ := counted
  have count : (b.count k (.missed r)).missed = b.missed + 1 := (missed r rfl).1
  have eq := takeOutcome_of_working (workingBoard_iff.2 ⟨working, held⟩) lap k (.missed r)
  rw [if_pos same] at eq
  have alarm : (s.takeOutcome lap k (.missed r)).alarm = (s.countOutcome (b.count k (.missed r)) (.missed r)).alarm := by
    rw [eq]
    split <;> rfl
  rw [alarm, State.countOutcome, count]
  have beside : (s.modWork fun w => { w with board := some (b.count k (.missed r)) }).boardSerial = s.boardSerial := by
    simp [State.boardSerial, held, serial]
  exact evaluate_alarm_congr (t := s.modWork fun w => { w with board := some (b.count k (.missed r)) }) (s := s)
    rfl rfl beside _ _

/-! ## The alarm unit through the bookkeeping and what follows -/

theorem bookkeep_alarm (s : State) : s.bookkeep.alarm = { s.alarm with
    m2 := s.bookkeep.alarm.m2, run := s.bookkeep.alarm.run, rowHold := s.bookkeep.alarm.rowHold } := by
  have decided : s.bookkeep.alarm = s.startBoard.takeRowHold.alarm := by simp [State.bookkeep]
  have started := startBoard_alarm s
  by_cases due : ∃ e b, s.startBoard.HoldDue e b
  · obtain ⟨e, b, due⟩ := due
    rw [decided, due.takeRowHold_alarm, started]
  · rw [decided, takeRowHold_of_not_due (by simpa using due), started]

/-- M2 takes its value 0 only as a READY board starts (R117). -/
theorem bookkeep_m2 (notReady : s.work.state ≠ .ready) : s.bookkeep.alarm.m2 = s.alarm.m2 := by
  have eq : s.bookkeep = s.takeRowHold.decideOldest := by
    unfold State.bookkeep
    rw [startBoard_of_cannot fun can => notReady can.1]
  obtain ⟨-, -, m2⟩ := takeRowHold_board s
  rw [eq]
  simpa using m2

/-- The bookkeeping leaves the run state, or takes a row hold from a run state in which work may start (R118). -/
theorem bookkeep_run (s : State) : s.bookkeep.alarm.run = s.alarm.run ∨
    s.MayStart ∧ s.bookkeep.alarm.rowHold = true ∧
      (s.bookkeep.alarm.run = .stopping ∨ s.bookkeep.alarm.run = .stopped) := by
  have decided : s.bookkeep.alarm = s.startBoard.takeRowHold.alarm := by simp [State.bookkeep]
  have started := startBoard_alarm s
  by_cases due : ∃ e b, s.startBoard.HoldDue e b
  · obtain ⟨e, b, due⟩ := due
    have may : s.startBoard.MayStart := due.2.2.2.2.2.2.2.2.2.2.2
    refine .inr ⟨?_, ?_, ?_⟩
    · unfold State.MayStart at may ⊢
      rwa [started] at may
    · rw [decided, due.takeRowHold_alarm]
    · rw [decided]
      exact due.takeRowHold_run
  · rw [decided, takeRowHold_of_not_due (by simpa using due), started]
    exact .inl rfl

theorem followOn_alarm (s : State) : s.followOn.alarm = s.checkFlush.bookkeep.alarm := by simp [State.followOn]

theorem checkFlush_mayStart (s : State) : s.checkFlush.MayStart ↔ s.MayStart := by
  unfold State.MayStart
  rw [(checkFlush_beside s).2.2.1]

/-- What the follow-on steps of a removal leave of the alarm unit. -/
theorem followOn_alarm_eq (s : State) : s.followOn.alarm = { s.alarm with
    m2 := s.followOn.alarm.m2, run := s.followOn.alarm.run, rowHold := s.followOn.alarm.rowHold } := by
  have kept := bookkeep_alarm s.checkFlush
  rw [(checkFlush_beside s).2.2.1] at kept
  rw [followOn_alarm]
  exact kept

theorem followOn_m2 (notReady : s.work.state ≠ .ready) : s.followOn.alarm.m2 = s.alarm.m2 := by
  rw [followOn_alarm, bookkeep_m2 (by simpa using notReady), (checkFlush_beside s).2.2.1]

theorem followOn_run (s : State) : s.followOn.alarm.run = s.alarm.run ∨
    s.MayStart ∧ s.followOn.alarm.rowHold = true ∧
      (s.followOn.alarm.run = .stopping ∨ s.followOn.alarm.run = .stopped) := by
  have run := bookkeep_run s.checkFlush
  rw [checkFlush_mayStart, (checkFlush_beside s).2.2.1] at run
  rw [followOn_alarm]
  exact run

/-! ## The tape through what follows (R51) -/

theorem tryFeed_tape (s : State) : s.tryFeed.tape = { s.tape with
    feeding := s.tryFeed.tape.feeding, timer := s.tryFeed.tape.timer, startedAt := s.tryFeed.tape.startedAt } := by
  unfold State.tryFeed
  split <;> rfl

theorem followOn_held (s : State) : s.followOn.tape.queue.map Entry.held = s.tape.queue.map Entry.held := by
  unfold State.followOn
  rw [tryFeed_tape, bookkeep_held, (checkFlush_beside s).2.2.2]

theorem followOn_fault (s : State) : s.followOn.tape.fault = s.tape.fault := by
  unfold State.followOn
  rw [tryFeed_tape, bookkeep_tape, (checkFlush_beside s).2.2.2]

/-- The conditions of a feed start are told by the run state, the tape, the head's phase, the reader and the header. -/
theorem CanFeed.of_beside (may : s.MayStart → t.MayStart) (tape : t.tape = s.tape) (phase : t.head.phase = s.head.phase)
    (reader : t.reader = s.reader) (hdr : t.hdr = s.hdr) (can : s.CanFeed) : t.CanFeed := by
  unfold State.CanFeed State.header at *
  rw [tape, phase, reader, hdr]
  exact ⟨may can.1, can.2⟩

/-- The next feed after a removal, tried on a tape with none in flight. -/
theorem FeedFollows.of_tryFeed (hdr : t.hdr = s.hdr) (now : t.now = s.now) (free : t.tape.feeding = false)
    (timer : t.tape.timer = s.tape.timer) (startedAt : t.tape.startedAt = s.tape.startedAt) : s.FeedFollows t.tryFeed := by
  unfold State.tryFeed
  by_cases can : t.CanFeed
  · rw [if_pos ((feedReady_iff t).2 can)]
    refine .inl ⟨rfl, by simp [State.startFeed, State.header, hdr], by simp [State.startFeed, now], ?_⟩
    obtain ⟨may, sound, -, rest⟩ := can
    exact ⟨may, sound, rfl, rest⟩
  · rw [if_neg (mt (feedReady_iff t).1 can)]
    exact .inr ⟨free, timer, startedAt, can⟩

theorem FeedFollows.of_beside (follows : s.FeedFollows t) (run : u.alarm.run = t.alarm.run)
    (used : u.alarm.stepUsed = t.alarm.stepUsed) (tape : u.tape = t.tape) (phase : u.head.phase = t.head.phase)
    (reader : u.reader = t.reader) (hdr : u.hdr = t.hdr) : s.FeedFollows u := by
  have may : u.MayStart ↔ t.MayStart := by unfold State.MayStart; rw [run, used]
  rcases follows with ⟨feeds, timer, at_, can⟩ | ⟨free, timer, at_, cannot⟩
  · refine .inl ⟨tape ▸ feeds, tape ▸ timer, tape ▸ at_, ?_⟩
    exact CanFeed.of_beside (s := { t with tape := { t.tape with feeding := false } })
      (t := { u with tape := { u.tape with feeding := false } }) may.2 (by simp [tape]) phase reader hdr can
  · exact .inr ⟨tape ▸ free, tape ▸ timer, tape ▸ at_, fun can =>
      cannot (can.of_beside may.1 tape.symm phase.symm reader.symm hdr.symm)⟩

theorem endIfQuiet_of_inFlight (flying : s.inFlight = true) : s.endIfQuiet = s := if_neg (by simp [flying])

theorem endIfQuiet_mayStart (may : s.endIfQuiet.MayStart) : s.MayStart := by
  unfold State.MayStart at *
  rcases endIfQuiet_run s with same | ⟨stopped, -⟩
  · rw [endIfQuiet_alarm] at may
    rwa [← same]
  · simp [stopped] at may

theorem FeedFollows.endIfQuiet (follows : s.FeedFollows t) : s.FeedFollows t.endIfQuiet := by
  by_cases feeds : t.tape.feeding = true
  · rw [endIfQuiet_of_inFlight (by simp [State.inFlight, feeds])]
    exact follows
  · rcases follows with ⟨feeding, -⟩ | ⟨free, timer, at_, cannot⟩
    · exact absurd feeding feeds
    · exact .inr ⟨by simpa using free, by simpa using timer, by simpa using at_, fun can =>
        cannot (can.of_beside endIfQuiet_mayStart (by simp) (by simp) (by simp) (by simp))⟩

theorem FeedFollows.settle (follows : s.FeedFollows t) : s.FeedFollows (u.settle t) :=
  follows.of_beside (by simp) (by simp) (by simp) (by simp) (by simp) (by simp)

/-- What the follow-on steps start, of a station that stands beside the one before the removal. -/
theorem followOn_feedFollows (hdr : t.hdr = s.hdr) (now : t.now = s.now) (free : t.tape.feeding = false)
    (timer : t.tape.timer = s.tape.timer) (startedAt : t.tape.startedAt = s.tape.startedAt) : s.FeedFollows t.followOn := by
  have tape : t.checkFlush.bookkeep.tape = _ := (bookkeep_tape t.checkFlush).trans
    (by rw [(checkFlush_beside t).2.2.2])
  exact .of_tryFeed (by simpa using hdr) (by simpa using now) (by rw [tape]; exact free) (by rw [tape]; exact timer)
    (by rw [tape]; exact startedAt)

end State
end Sys2Proof.Machine
end

section
/-!
# Passes, strokes and returns that end (R49, R92 to R94, R97)
-/
namespace Sys2Proof.Machine

namespace State
variable {s t u : State} {e : Entry} {o : Option StepOutcome} {lap : Lap}

/-! ## The outcome, or none -/

/-- The station as the work-position unit takes the outcome of an entry, or none. -/
def outcomeTaken (s : State) (e : Entry) (o : Option StepOutcome) : State :=
  o.elim s (s.takeOutcome e.record.lap e.record.ordinal)

theorem outcomeTaken_counts (s : State) (e : Entry) (o : Option StepOutcome) :
    s.Counts (s.outcomeTaken e o) e.record.lap e.record.ordinal o := by
  cases o with
  | none => exact counts_none s _ _
  | some o => exact takeOutcome_counts s _ _ o

theorem outcomeTaken_only (s : State) (e : Entry) (o : Option StepOutcome) {ps : List Part} (work : .work ∈ ps)
    (alarm : .alarm ∈ ps) : s.Only (s.outcomeTaken e o) ps := by
  cases o with
  | none => exact .refl s ps
  | some o => exact takeOutcome_only s _ _ o work alarm

theorem outcomeTaken_tape (s : State) (e : Entry) (o : Option StepOutcome) : (s.outcomeTaken e o).tape = s.tape := by
  cases o <;> simp [outcomeTaken]

theorem outcomeTaken_alarm_of_miss {r : MissReason} {n : Nat} (miss : o = some (.missed r))
    (misses : s.missesAfter e.record.lap = some n) : (s.outcomeTaken e o).alarm = (s.evaluate .m2 n).alarm := by
  subst miss
  exact takeOutcome_alarm_of_miss misses r

theorem outcomeTaken_alarm_of_none (none : (∀ r, o ≠ some (.missed r)) ∨ s.missesAfter e.record.lap = none) :
    (s.outcomeTaken e o).alarm = s.alarm := by
  cases o with
  | none => rfl
  | some o =>
    rcases none with hit | noBoard
    · exact takeOutcome_alarm_of_hit fun r h => hit r (congrArg some h)
    · exact congrArg State.alarm (takeOutcome_of_no_board noBoard o)

theorem outcomeTaken_run (s : State) (e : Entry) (o : Option StepOutcome) :
    (s.outcomeTaken e o).alarm.run = s.alarm.run ∨ (s.outcomeTaken e o).alarm.run = .alarm := by
  by_cases miss : ∃ r, o = some (.missed r)
  · obtain ⟨r, miss⟩ := miss
    cases misses : s.missesAfter e.record.lap with
    | none => rw [outcomeTaken_alarm_of_none (.inr misses)]; exact .inl rfl
    | some n => rw [outcomeTaken_alarm_of_miss miss misses]; exact evaluate_run s _ n
  · rw [outcomeTaken_alarm_of_none (.inl (by simpa using miss))]
    exact .inl rfl

/-- Where a board takes a miss it was WORKING, so that it is not READY after it. -/
theorem outcomeTaken_notReady {n : Nat} (misses : s.missesAfter e.record.lap = some n) :
    (s.outcomeTaken e o).work.state ≠ .ready := by
  obtain ⟨b, held, working, same, -⟩ := missesAfter_eq_some misses
  obtain ⟨c, -, takes, -⟩ := outcomeTaken_counts s e o b held
  obtain ⟨-, -, last, more⟩ := takes ⟨working, same⟩
  by_cases done : o ≠ none ∧ e.record.ordinal + 1 = panelSteps s.reader.rows
  · simp [(last done.1 done.2).1]
  · have still := more (by rwa [← not_ne_iff (a := o), ← not_and_or])
    simp [still.1]

/-- What an evaluated miss leaves of the alarm unit is what the station after the removal shows. -/
theorem MissEvaluated.of_outcomeTaken
    (list : t.alarm.list = (s.outcomeTaken e o).alarm.list) (more : t.alarm.more = (s.outcomeTaken e o).alarm.more)
    (m2 : (s.outcomeTaken e o).work.state ≠ .ready → t.alarm.m2 = (s.outcomeTaken e o).alarm.m2) :
    s.MissEvaluated t e.record.lap o := by
  refine ⟨fun r n miss misses => ?_, fun none => ?_⟩
  · have alarm := outcomeTaken_alarm_of_miss miss misses
    rw [list, more, m2 (outcomeTaken_notReady misses), alarm]
    exact ⟨rfl, rfl, rfl⟩
  · rw [list, more, outcomeTaken_alarm_of_none none]
    exact ⟨rfl, rfl⟩

theorem missesAfter_congr (work : t.work = s.work) (lap : Lap) : t.missesAfter lap = s.missesAfter lap := by
  unfold State.missesAfter
  rw [work]

theorem MissEvaluated.of_beside (evaluated : t.MissEvaluated u lap o) (alarm : t.alarm = s.alarm) (hdr : t.hdr = s.hdr)
    (work : t.work = s.work) : s.MissEvaluated u lap o := by
  obtain ⟨miss, none⟩ := evaluated
  refine ⟨fun r n missed misses => ?_, fun other => ?_⟩
  · rw [← evaluate_alarm_congr alarm hdr (boardSerial_congr work)]
    exact miss r n missed ((missesAfter_congr work lap).trans misses)
  · rw [← alarm]
    exact none (other.imp_right ((missesAfter_congr work lap).trans ·))

/-! ## The execution of a STEP (R147) -/

/-- Where STEPPING lasts until the execution is used, it is used; else an alarm has ended it. -/
theorem useStep_used (run : u.alarm.run = .stepping ∨ u.alarm.run = .alarm) :
    u.useStep.followOn.endIfQuiet.alarm.stepUsed = true ∨ u.useStep.followOn.endIfQuiet.alarm.run = .alarm := by
  rcases run with stepping | stopped
  · left
    rw [endIfQuiet_alarm, followOn_alarm_eq, useStep_alarm, if_pos stepping]
  · right
    have used : u.useStep.alarm.run = .alarm := (useStep_run u).trans stopped
    have followed : u.useStep.followOn.alarm.run = .alarm := by
      rcases followOn_run u.useStep with same | ⟨may, -⟩
      · exact same.trans used
      · rcases may with h | ⟨h, -⟩ <;> simp [used] at h
    rcases endIfQuiet_run u.useStep.followOn with same | ⟨-, h | ⟨h, -⟩⟩
    · exact same.trans followed
    · simp [followed] at h
    · simp [followed] at h

/-! ## PASS_EXECUTION (R49) -/

/-- The outcome that a PASS decision gives (R49). -/
def passOutcome (e : Entry) : Option StepOutcome :=
  match e.decision with
  | some .passBad => some .passed
  | some (.passMiss r) => some (.missed r)
  | _ => none

theorem exec_passExecution (can : s.CanPass e) : exec .passExecution s =
    .next (s.settle (s.removeOldest.outcomeTaken e (passOutcome e)).useStep.followOn.endIfQuiet) := by
  have ready := (passReady_iff s).2 ⟨e, can⟩
  obtain ⟨head, ⟨d, decision, -⟩, -⟩ := can
  have oldest : s.oldest = some e := head
  change execPassExecution s = _
  unfold execPassExecution passOutcome
  rw [ready, oldest]
  dsimp only
  rw [decision]
  cases d <;> rfl

theorem passOutcome_eq (pass : e.decision = some .passFlush ∧ o = none ∨ e.decision = some .passBad ∧ o = some .passed ∨
    ∃ r, e.decision = some (.passMiss r) ∧ o = some (.missed r)) : passOutcome e = o := by
  unfold passOutcome
  rcases pass with ⟨decision, rfl⟩ | ⟨decision, rfl⟩ | ⟨r, decision, rfl⟩ <;> rw [decision]

end State

/-- Settles O20: the removal, the outcome on its board, the execution used, and the next feed, each by its own lemma. -/
theorem passesLeaveTheQueueAndAreCounted : Obligations.PassesLeaveTheQueueAndAreCounted := by
  refine fun s => ⟨fun cannot => ?idle, fun e can => ⟨_, State.exec_passExecution can, ?_⟩⟩
  case idle =>
    have ready : s.passReady = false := Bool.eq_false_iff.2 fun h => cannot ((State.passReady_iff s).1 h)
    change execPassExecution s = _
    unfold execPassExecution
    rw [ready]
  obtain ⟨-, -, -, free, -⟩ := id can
  have books : State.Books [.tape, .head, .work, .alarm] := by simp [State.Books]
  have taken := (s.removeOldest_only (ps := [.tape, .head, .work, .alarm]) (by simp)).trans
    (State.outcomeTaken_only _ e (State.passOutcome e) (by simp) (by simp))
  have only := taken.trans ((State.useStep_only _ (by simp)).trans ((State.followOn_only _ books).trans
    (State.endIfQuiet_only _ (by simp))))
  have tape : (s.removeOldest.outcomeTaken e (State.passOutcome e)).useStep.tape = s.removeOldest.tape := by
    simp [State.outcomeTaken_tape]
  obtain ⟨-, now, hdr, -⟩ := (taken.trans (State.useStep_only _ (by simp))).keepsBut
  refine ⟨?queue, fun stepping => ?used, State.keepsBut_settle only.keepsBut, ?fault,
    (State.followOn_feedFollows hdr now (by rw [tape]; exact free) (by rw [tape]; rfl) (by rw [tape]; rfl)).endIfQuiet.settle,
    fun o pass => ?_⟩
  case queue =>
    simp only [State.settle_frame, State.endIfQuiet_frame]
    rw [State.followOn_held, tape]
    rfl
  case fault =>
    simp only [State.settle_frame, State.endIfQuiet_frame]
    rw [State.followOn_fault, tape]
    rfl
  case used =>
    simp only [State.settle_frame]
    exact State.useStep_used ((State.outcomeTaken_run _ _ _).imp_left fun same => same.trans stepping)
  obtain rfl := State.passOutcome_eq pass
  refine ⟨?counts, ?missed⟩
  case counts =>
    have counts : s.Counts _ e.record.lap e.record.ordinal _ := State.outcomeTaken_counts s.removeOldest e (State.passOutcome e)
    have kept : (s.removeOldest.outcomeTaken e (State.passOutcome e)).useStep.BoardKept
        (s.settle (s.removeOldest.outcomeTaken e (State.passOutcome e)).useStep.followOn.endIfQuiet) :=
      (State.followOn_boardKept _).trans (.of_work (by simp))
    exact counts.boardKept (State.BoardKept.trans (.of_work (by simp)) kept)
  case missed =>
    have alarm := State.endIfQuiet_alarm (s.removeOldest.outcomeTaken e (State.passOutcome e)).useStep.followOn
    have kept := State.followOn_alarm_eq (s.removeOldest.outcomeTaken e (State.passOutcome e)).useStep
    refine (State.MissEvaluated.of_outcomeTaken ?_ ?_ fun notReady => ?_).of_beside (s := s) (t := s.removeOldest) rfl rfl rfl
    all_goals simp only [State.settle_frame]
    · rw [alarm, kept, State.useStep_alarm]
    · rw [alarm, kept, State.useStep_alarm]
    · rw [alarm]
      dsimp only
      rw [State.followOn_m2 (by simpa using notReady), State.useStep_alarm]

end Sys2Proof.Machine
end

section
/-!
# TOP: the stroke's end and the recovery return's (R92 to R94, R97)
-/
namespace Sys2Proof.Machine

namespace State
variable {s t u : State} {e : Entry} {l : Leads} {lap : Lap} {ps : List Part}

/-! ## The head through operations of other units -/

/-- From `s` to `t` the head is the same but for the last cycle start, which ends with RUNNING and with a board's start. -/
def HeadKept (s t : State) : Prop := t.head = { s.head with lastCycle := t.head.lastCycle }

theorem HeadKept.of_head (head : t.head = s.head) : s.HeadKept t := by
  unfold HeadKept
  rw [head]

theorem HeadKept.trans (first : s.HeadKept t) (second : t.HeadKept u) : s.HeadKept u := by
  unfold HeadKept at *
  rw [second, first]

theorem HeadKept.of_only (only : s.Only t ps) (notHead : .head ∉ ps) : s.HeadKept t := by
  obtain ⟨-, -, -, -, -, -, -, -, head, -⟩ := only.keepsBut
  unfold HeadKept
  rw [head.resolve_left notHead]
  unfold State.headAfter
  split <;> rfl

theorem startBoard_headKept (s : State) : s.HeadKept s.startBoard := by
  by_cases can : s.CanStart
  · obtain ⟨b, e, -, -, -, -, eq⟩ := can.startBoard_eq
    rw [eq]
    rfl
  · rw [startBoard_of_cannot can]
    rfl

theorem bookkeep_headKept (s : State) : s.HeadKept s.bookkeep :=
  (startBoard_headKept s).trans ((HeadKept.of_only (takeRowHold_only _ (ps := [.work, .alarm]) (by simp) (by simp)) (by simp)).trans
    (.of_head (by simp [State.bookkeep])))

theorem followOn_headKept (s : State) : s.HeadKept s.followOn :=
  (HeadKept.of_head (by simp)).trans ((bookkeep_headKept s.checkFlush).trans (.of_head (by simp [State.followOn])))

theorem outcomeTaken_headKept (s : State) (e : Entry) (o : Option StepOutcome) : s.HeadKept (s.outcomeTaken e o) :=
  .of_only (outcomeTaken_only s e o (ps := [.work, .alarm]) (by simp) (by simp)) (by simp)

theorem evaluate_headKept (s : State) (id : MonitorId) (v : Nat) : s.HeadKept (s.evaluate id v) :=
  .of_only (evaluate_only s id v (ps := [.alarm]) (by simp)) (by simp)

/-! ## Monitors beside one another -/

theorem evaluate_monitor_congr {id : MonitorId} (off : t.alarm.run = .configFault ↔ s.alarm.run = .configFault)
    (monitor : t.alarm.monitor id = s.alarm.monitor id) (hdr : t.hdr = s.hdr) (v : Nat) :
    (t.evaluate id v).alarm.monitor id = (s.evaluate id v).alarm.monitor id := by
  by_cases fault : s.alarm.run = .configFault
  · rw [evaluate_of_configFault fault, evaluate_of_configFault (off.2 fault), monitor]
  · have settings : t.settings id = s.settings id := by unfold State.settings State.header; rw [hdr]
    rw [evaluate_monitor fault, evaluate_monitor (mt off.1 fault), monitor, settings]

theorem evaluate_configFault_iff (s : State) (id : MonitorId) (v : Nat) :
    (s.evaluate id v).alarm.run = .configFault ↔ s.alarm.run = .configFault := by
  refine ⟨fun off => ?_, fun off => by rw [evaluate_of_configFault off]; exact off⟩
  rcases evaluate_run s id v with same | stop
  · rwa [← same]
  · simp [stop] at off

/-! ## The recovery return's end (R97) -/

/-- The outcome of an attempted entry that a recovery return removes (R97). -/
def jamOutcome (e : Entry) : Option StepOutcome := if e.target = none then none else some (.missed .headJam)

/-- The station with the head at rest at TOP. -/
def headUp (s : State) : State := s.modHead fun h => { h with timer := none, drive := .off, phase := .top }

theorem returnDone_of_attempted (head : s.tape.queue.head? = some e) (attempted : e.attempted = true) :
    s.returnDone = (s.headUp.removeOldest.outcomeTaken e (jamOutcome e)).useStep.followOn := by
  have oldest : s.oldest = some e := head
  unfold State.returnDone
  rw [oldest]
  dsimp only
  rw [if_pos attempted]
  unfold jamOutcome
  by_cases target : e.target = none
  · rw [if_pos target, if_neg (by rw [Entry.toInsert_iff]; exact not_not_intro target)]
    rfl
  · rw [if_neg target, if_pos ((Entry.toInsert_iff e).2 target)]
    rfl

theorem returnDone_of_none_attempted (noneAttempted : ∀ e, s.tape.queue.head? = some e → e.attempted = false) :
    s.returnDone = s.headUp := by
  unfold State.returnDone
  dsimp only
  split
  next e oldest => exact if_neg (by simp [noneAttempted e oldest])
  next => rfl

theorem headUp_only (s : State) (head : .head ∈ ps) : s.Only s.headUp ps := .modHead s _ head

theorem returnDone_headKept (s : State) : s.headUp.HeadKept s.returnDone := by
  by_cases removes : ∃ e, s.tape.queue.head? = some e ∧ e.attempted = true
  · obtain ⟨e, head, attempted⟩ := removes
    rw [returnDone_of_attempted head attempted]
    have taken := outcomeTaken_headKept s.headUp.removeOldest e (jamOutcome e)
    exact (HeadKept.of_head (by rfl)).trans (taken.trans ((HeadKept.of_head (by simp)).trans (followOn_headKept _)))
  · rw [returnDone_of_none_attempted fun e head => by simpa using fun h => removes ⟨e, head, h⟩]
    exact .of_head rfl

/-- The head stands at TOP once the return has ended. -/
theorem returnDone_head (s : State) : s.returnDone.head.phase = .top ∧ s.returnDone.head.drive = .off ∧
    s.returnDone.head.timer = none := by
  rw [returnDone_headKept s]
  exact ⟨rfl, rfl, rfl⟩

variable (head : s.tape.queue.head? = some e) (attempted : e.attempted = true)
include head attempted

theorem returnDone_held : s.returnDone.tape.queue.map Entry.held = s.tape.queue.tail.map Entry.held := by
  rw [returnDone_of_attempted head attempted, followOn_held]
  simp only [useStep_frame, outcomeTaken_tape]
  rfl

theorem returnDone_fault : s.returnDone.tape.fault = s.tape.fault := by
  rw [returnDone_of_attempted head attempted, followOn_fault]
  simp only [useStep_frame, outcomeTaken_tape]
  rfl

theorem returnDone_feedFollows (free : s.tape.feeding = false) : s.FeedFollows s.returnDone := by
  rw [returnDone_of_attempted head attempted]
  have only := ((s.headUp_only (ps := [.tape, .head, .work, .alarm]) (by simp)).trans
    ((removeOldest_only _ (by simp)).trans (outcomeTaken_only _ e (jamOutcome e) (by simp) (by simp)))).trans
    (useStep_only _ (by simp))
  have tape : (s.headUp.removeOldest.outcomeTaken e (jamOutcome e)).useStep.tape = s.headUp.removeOldest.tape := by
    simp [outcomeTaken_tape]
  obtain ⟨-, now, hdr, -⟩ := only.keepsBut
  exact followOn_feedFollows hdr now (by rw [tape]; exact free) (by rw [tape]; rfl) (by rw [tape]; rfl)

theorem returnDone_counts : s.Counts s.returnDone e.record.lap e.record.ordinal (jamOutcome e) := by
  rw [returnDone_of_attempted head attempted]
  have counts := outcomeTaken_counts s.headUp.removeOldest e (jamOutcome e)
  exact counts.boardKept (State.BoardKept.trans (.of_work (by simp)) (followOn_boardKept _))

theorem returnDone_alarm : ∃ u, u = s.headUp.removeOldest.outcomeTaken e (jamOutcome e) ∧
    s.returnDone.alarm = { u.useStep.alarm with
      m2 := s.returnDone.alarm.m2, run := s.returnDone.alarm.run, rowHold := s.returnDone.alarm.rowHold } ∧
    (u.work.state ≠ .ready → s.returnDone.alarm.m2 = u.alarm.m2) := by
  refine ⟨_, rfl, ?_, fun notReady => ?_⟩
  · rw [returnDone_of_attempted head attempted]
    exact followOn_alarm_eq _
  · rw [returnDone_of_attempted head attempted, followOn_m2 (by simpa using notReady), useStep_alarm]

theorem returnDone_missEvaluated : s.MissEvaluated s.returnDone e.record.lap (jamOutcome e) := by
  obtain ⟨u, taken, alarm, m2⟩ := returnDone_alarm head attempted
  subst taken
  refine (MissEvaluated.of_outcomeTaken ?_ ?_ m2).of_beside (s := s) (t := s.headUp.removeOldest) rfl rfl rfl
  · rw [alarm, useStep_alarm]
  · rw [alarm, useStep_alarm]

end State
end Sys2Proof.Machine
end

section
/-!
# The end of a stroke (R92 to R94)
-/
namespace Sys2Proof.Machine

namespace State
variable {s t u : State} {e : Entry} {l : Leads} {lap : Lap} {ps : List Part}

/-- The outcome of a completed stroke: INSERTED with both leads found, else a lead miss (R93, R94). -/
def strokeResult (e : Entry) (l : Leads) : Option StepOutcome :=
  if e.target = none then none else if l.a = true ∧ l.b = true then some .inserted else some (.missed .leadMiss)

/-- The station as the stroke's entry has left the queue with its outcome, and alarm 34 of a lead miss is raised. -/
def strokeCounted (s : State) (e : Entry) (l : Leads) : State :=
  let u := s.removeOldest.outcomeTaken e (strokeResult e l)
  if l.a && l.b then u
  else u.raise { code := .leadMiss, serial := u.workingSerial, ordinal := some e.record.ordinal, active := false }

theorem strokeOutcome_eq (s : State) (e : Entry) (l : Leads) : s.strokeOutcome e l = (s.strokeCounted e l).followOn := by
  unfold State.strokeOutcome strokeCounted strokeResult
  by_cases target : e.target = none
  · have no : ¬e.toInsert = true := by rw [Entry.toInsert_iff]; exact not_not_intro target
    simp only [if_neg no, if_pos target]
    split <;> rfl
  · simp only [if_pos ((Entry.toInsert_iff e).2 target), if_neg target]
    by_cases found : (l.a && l.b) = true
    · have both : l.a = true ∧ l.b = true := by simpa using found
      simp only [if_pos found, if_pos both]
      rfl
    · have missed : ¬(l.a = true ∧ l.b = true) := by simpa using found
      simp only [if_neg found, if_neg missed]
      rfl

/-- The station as the head stands at TOP and M4 has taken the stroke time (R92). -/
def strokeTimed (s : State) : State := s.headUp.evaluate .m4 (s.now - s.head.strokeStart.getD s.now)

/-- The station with no stroke recorded. -/
def strokeCleared (s : State) : State := s.modHead fun h => { h with served := none, strokeStart := none, lead := none }

/-- The station at the end of its stroke, before the end of a run that waits for it. -/
def strokeEnded (s : State) (e : Entry) (l : Leads) : State := (s.strokeTimed.strokeCounted e l).followOn.strokeCleared

theorem strokeDone_eq (head : s.tape.queue.head? = some e) (lead : s.head.lead = some l) :
    s.strokeDone = s.strokeEnded e l := by
  have oldest : s.oldest = some e := head
  unfold State.strokeDone
  rw [oldest, lead]
  dsimp only
  rw [strokeOutcome_eq]
  rfl

/-! ## What the stroke's end leaves -/

theorem strokeCounted_only (s : State) (e : Entry) (l : Leads) (tape : .tape ∈ ps) (work : .work ∈ ps)
    (alarm : .alarm ∈ ps) : s.Only (s.strokeCounted e l) ps := by
  have taken := (removeOldest_only s tape).trans (outcomeTaken_only _ e (strokeResult e l) work alarm)
  exact .ite (fun _ => taken) fun _ => taken.trans (raise_only _ _ alarm)

theorem strokeCounted_tape (s : State) (e : Entry) (l : Leads) : (s.strokeCounted e l).tape = s.removeOldest.tape := by
  unfold strokeCounted
  dsimp only
  split <;> simp [outcomeTaken_tape]

theorem strokeCounted_work (s : State) (e : Entry) (l : Leads) :
    (s.strokeCounted e l).work = (s.removeOldest.outcomeTaken e (strokeResult e l)).work := by
  unfold strokeCounted
  dsimp only
  split <;> simp

theorem strokeCounted_counts (s : State) (e : Entry) (l : Leads) :
    s.Counts (s.strokeCounted e l) e.record.lap e.record.ordinal (strokeResult e l) :=
  Counts.boardKept (s := s) (outcomeTaken_counts s.removeOldest e (strokeResult e l)) (.of_work (strokeCounted_work s e l))

theorem strokeCounted_headKept (s : State) (e : Entry) (l : Leads) : s.HeadKept (s.strokeCounted e l) :=
  .of_only (strokeCounted_only s e l (ps := [.tape, .work, .alarm]) (by simp) (by simp) (by simp)) (by simp)

/-- No miss, or none that a board takes. -/
theorem not_missed_or {o : Option StepOutcome} (none : ¬∃ r n, o = some (.missed r) ∧ s.missesAfter lap = some n) :
    (∀ r, o ≠ some (.missed r)) ∨ s.missesAfter lap = .none := by
  by_cases miss : ∃ r, o = some (.missed r)
  · obtain ⟨r, miss⟩ := miss
    exact .inr (Option.eq_none_iff_forall_ne_some.2 fun n h => none ⟨r, n, miss, h⟩)
  · exact .inl (by simpa using miss)

theorem strokeCounted_monitor {id : MonitorId} (other : id ≠ .m2) (s : State) (e : Entry) (l : Leads) :
    (s.strokeCounted e l).alarm.monitor id = s.alarm.monitor id := by
  have taken : (s.removeOldest.outcomeTaken e (strokeResult e l)).alarm.monitor id = s.alarm.monitor id := by
    by_cases misses : ∃ r n, strokeResult e l = some (.missed r) ∧ s.removeOldest.missesAfter e.record.lap = some n
    · obtain ⟨r, n, miss, misses⟩ := misses
      rw [outcomeTaken_alarm_of_miss miss misses, evaluate_monitor_of_ne other]
      rfl
    · rw [outcomeTaken_alarm_of_none (not_missed_or misses)]
      rfl
  unfold strokeCounted
  dsimp only
  split
  · exact taken
  · rw [raise_monitor]
    exact taken

theorem followOn_monitor {id : MonitorId} (other : id ≠ .m2) (s : State) :
    s.followOn.alarm.monitor id = s.alarm.monitor id := by
  rw [followOn_alarm_eq]
  cases id
  case m2 => exact absurd rfl other
  all_goals rfl

/-- The serial that alarm 34 names: that of a board still WORKING (log entry 12). -/
theorem outcomeTaken_workingSerial (s : State) (e : Entry) (o : Option StepOutcome) :
    (s.outcomeTaken e o).workingSerial = if s.work.state = .working ∧ ¬(o ≠ none ∧ s.missesAfter e.record.lap ≠ none ∧
      e.record.ordinal + 1 = panelSteps s.reader.rows) then s.boardSerial else none := by
  cases misses : s.missesAfter e.record.lap with
  | none =>
    have same : s.outcomeTaken e o = s := by
      cases o with
      | none => rfl
      | some o => exact takeOutcome_of_no_board misses o
    rw [same]
    simp only [ne_eq, not_true_eq_false, false_and, and_false, not_false_eq_true, and_true]
    unfold State.workingSerial State.workingBoard State.boardSerial
    split <;> rfl
  | some n =>
    obtain ⟨b, held, working, same, -⟩ := missesAfter_eq_some misses
    obtain ⟨c, held', takes, -⟩ := outcomeTaken_counts s e o b held
    obtain ⟨⟨serial, -⟩, -, last, more⟩ := takes ⟨working, same⟩
    unfold State.workingSerial State.workingBoard State.boardSerial
    by_cases done : o ≠ none ∧ e.record.ordinal + 1 = panelSteps s.reader.rows
    · obtain ⟨state, -⟩ := last done.1 done.2
      rw [if_neg (by simp [state]), if_neg (by simp [done])]
      rfl
    · have still := (more (by rwa [← not_ne_iff (a := o), ← not_and_or])).1
      have first : ¬(o ≠ none ∧ some n ≠ none ∧ e.record.ordinal + 1 = panelSteps s.reader.rows) := fun h =>
        done ⟨h.1, h.2.2⟩
      rw [if_pos still, if_pos ⟨working, first⟩, held, held']
      simp [serial]

/-- List and MORE as the stroke's evaluations and alarm 34 leave them (R92 to R94). -/
theorem strokeCounted_alarms {time : Nat} (alarm : t.alarm = (s.evaluate .m4 time).alarm) (hdr : t.hdr = s.hdr)
    (work : t.work = s.work) (reader : t.reader = s.reader) (list : u.alarm.list = (t.strokeCounted e l).alarm.list)
    (more : u.alarm.more = (t.strokeCounted e l).alarm.more) : s.StrokeAlarms u e (l.a && l.b) time := by
  intro a b isA isB
  have alarmA : t.alarm = a.alarm := isA ▸ alarm
  have hdrA : t.hdr = a.hdr := by rw [isA, hdr]; simp
  have serialA : t.boardSerial = a.boardSerial := boardSerial_congr (by rw [isA, work]; simp)
  have misses : t.removeOldest.missesAfter e.record.lap = s.missesAfter e.record.lap := missesAfter_congr work _
  cases found : l.a && l.b with
  | true =>
    have both : l.a = true ∧ l.b = true := by simpa using found
    have taken : (t.strokeCounted e l).alarm = a.alarm := by
      unfold strokeCounted
      rw [if_pos found, outcomeTaken_alarm_of_none (.inl ?_)]
      · exact alarmA
      · intro r
        simp [strokeResult, both]
    exact ⟨fun _ => ⟨by rw [list, taken], by rw [more, taken]⟩, nofun⟩
  | false =>
    have missed : ¬(l.a = true ∧ l.b = true) := by simpa using found
    refine ⟨nofun, fun _ serial is => ?_⟩
    have counted : t.strokeCounted e l = (t.removeOldest.outcomeTaken e (strokeResult e l)).raise _ := if_neg (by simp [found])
    have named : (t.removeOldest.outcomeTaken e (strokeResult e l)).workingSerial = serial := by
      have result : strokeResult e l ≠ none ↔ e.target ≠ none := by
        unfold strokeResult
        split <;> simp [*]
      have sameWork : t.removeOldest.work = s.work := work
      have sameReader : t.removeOldest.reader = s.reader := reader
      rw [outcomeTaken_workingSerial, is, misses, sameWork, sameReader, boardSerial_congr sameWork]
      exact if_congr (by rw [result]) rfl rfl
    have before : (t.removeOldest.outcomeTaken e (strokeResult e l)).alarm = b.alarm ∧
        (t.removeOldest.outcomeTaken e (strokeResult e l)).hdr = b.hdr := by
      have hdrTaken : (t.removeOldest.outcomeTaken e (strokeResult e l)).hdr = a.hdr :=
        (outcomeTaken_only t.removeOldest e (strokeResult e l) (ps := [.work, .alarm]) (by simp) (by simp)).keepsBut.2.2.1.trans
          hdrA
      cases target : e.target with
      | none =>
        rw [found, target] at isB
        rw [outcomeTaken_alarm_of_none (.inl (by simp [strokeResult, target])), hdrTaken, isB]
        exact ⟨alarmA, rfl⟩
      | some goal =>
        have result : strokeResult e l = some (.missed .leadMiss) := by simp [strokeResult, target, missed]
        cases after : s.missesAfter e.record.lap with
        | none =>
          rw [found, target, after] at isB
          rw [outcomeTaken_alarm_of_none (.inr (misses.trans after)), hdrTaken, isB]
          exact ⟨alarmA, rfl⟩
        | some n =>
          rw [found, target, after] at isB
          rw [outcomeTaken_alarm_of_miss result (misses.trans after), hdrTaken, isB]
          exact ⟨evaluate_alarm_congr (t := t.removeOldest) alarmA hdrA serialA _ _, by simp⟩
    obtain ⟨sameAlarm, sameHdr⟩ := before
    have raised := raise_list_congr sameHdr (congrArg Alarm.list sameAlarm) (congrArg Alarm.more sameAlarm)
      (congrArg Alarm.run sameAlarm) ⟨.leadMiss, serial, some e.record.ordinal, false⟩
    rw [named] at counted
    rw [list, more, counted]
    exact ⟨raised.1, raised.2.1⟩

/-! ## The row -/

theorem strokeTimed_only (s : State) (head : .head ∈ ps) (alarm : .alarm ∈ ps) : s.Only s.strokeTimed ps :=
  (s.headUp_only head).trans (evaluate_only _ _ _ alarm)

theorem strokeTimed_alarm {time : Nat} (start : s.now - s.head.strokeStart.getD s.now = time) :
    s.strokeTimed.alarm = (s.evaluate .m4 time).alarm := by
  unfold strokeTimed
  rw [start]
  exact evaluate_alarm_congr (s := s) (t := s.headUp) rfl rfl rfl _ _

theorem strokeEnded_only (s : State) (e : Entry) (l : Leads) (books : Books ps) : s.Only (s.strokeEnded e l) ps := by
  have ⟨tape, head, work, alarm⟩ := books
  exact (strokeTimed_only s head alarm).trans ((strokeCounted_only _ e l tape work alarm).trans
    ((followOn_only _ books).trans (.modHead _ _ head)))

theorem strokeEnded_head (s : State) (e : Entry) (l : Leads) : (s.strokeEnded e l).head = { s.head with
    phase := .top, drive := .off, timer := none, served := none, strokeStart := none, lead := none,
    lastCycle := (s.strokeEnded e l).head.lastCycle } := by
  have kept : s.headUp.HeadKept (s.strokeTimed.strokeCounted e l).followOn :=
    (evaluate_headKept _ _ _).trans ((strokeCounted_headKept _ e l).trans (followOn_headKept _))
  unfold strokeEnded strokeCleared
  rw [modHead_head, kept]
  rfl

theorem strokeEnded_tape (s : State) (e : Entry) (l : Leads) :
    (s.strokeEnded e l).tape.queue.map Entry.held = s.tape.queue.tail.map Entry.held ∧
      (s.strokeEnded e l).tape.fault = s.tape.fault := by
  have tape : (s.strokeTimed.strokeCounted e l).tape = s.removeOldest.tape := by
    rw [strokeCounted_tape]
    simp [State.removeOldest, strokeTimed, headUp]
  refine ⟨(followOn_held _).trans ?_, (followOn_fault _).trans ?_⟩
  · rw [tape]; rfl
  · rw [tape]; rfl

theorem strokeEnded_feedFollows (free : s.tape.feeding = false) (e : Entry) (l : Leads) :
    s.FeedFollows (s.strokeEnded e l) := by
  have tape : (s.strokeTimed.strokeCounted e l).tape = s.removeOldest.tape := by
    rw [strokeCounted_tape]
    simp [State.removeOldest, strokeTimed, headUp]
  have only := (strokeTimed_only s (ps := [.tape, .head, .work, .alarm]) (by simp) (by simp)).trans
    (strokeCounted_only _ e l (by simp) (by simp) (by simp))
  obtain ⟨-, now, hdr, -⟩ := only.keepsBut
  have follows := followOn_feedFollows hdr now (by rw [tape]; exact free) (by rw [tape]; rfl) (by rw [tape]; rfl)
  exact follows.of_beside rfl rfl rfl rfl rfl rfl

theorem Counts.of_beside {k : Nat} {o : Option StepOutcome} (counts : t.Counts u lap k o) (work : t.work = s.work)
    (reader : t.reader = s.reader) (hdr : t.hdr = s.hdr) : s.Counts u lap k o := by
  unfold State.Counts State.ownAddr State.header at *
  rw [work, reader, hdr] at counts
  exact counts

theorem strokeEnded_counts (s : State) (e : Entry) (l : Leads) :
    s.Counts (s.strokeEnded e l) e.record.lap e.record.ordinal (strokeResult e l) := by
  have counts := strokeCounted_counts s.strokeTimed e l
  have ended := counts.boardKept ((followOn_boardKept _).trans (.of_work (t := s.strokeEnded e l) rfl))
  exact ended.of_beside (by simp [strokeTimed, headUp]) (by simp [strokeTimed, headUp]) (by simp [strokeTimed, headUp])

/-- The alarm unit at the stroke's end, but for what the bookkeeping changes. -/
theorem strokeEnded_alarm (s : State) (e : Entry) (l : Leads) :
    (s.strokeEnded e l).alarm = { (s.strokeTimed.strokeCounted e l).alarm with
      m2 := (s.strokeEnded e l).alarm.m2, run := (s.strokeEnded e l).alarm.run,
      rowHold := (s.strokeEnded e l).alarm.rowHold } :=
  followOn_alarm_eq _

theorem strokeEnded_m4 (on : s.alarm.run ≠ .configFault) {time : Nat}
    (start : s.now - s.head.strokeStart.getD s.now = time) (e : Entry) (l : Leads) :
    (s.strokeEnded e l).alarm.m4.value = min 65535 time := by
  have same : (s.strokeEnded e l).alarm.monitor .m4 = s.strokeTimed.alarm.monitor .m4 :=
    (followOn_monitor (id := .m4) (by simp) _).trans (strokeCounted_monitor (id := .m4) (by simp) _ e l)
  refine (congrArg Monitor.value same).trans ?_
  rw [strokeTimed_alarm start]
  exact evaluate_value on .m4 time

/-- M2 as a lead miss that a board takes leaves it: neither M4 nor alarm 34 nor the bookkeeping touches it. -/
theorem strokeEnded_m2 {n : Nat} (target : e.target ≠ none) (missed : (l.a && l.b) = false)
    (misses : s.missesAfter e.record.lap = some n) :
    (s.strokeEnded e l).alarm.m2 = (s.evaluate .m2 n).alarm.m2 := by
  have timedWork : s.strokeTimed.work = s.work := by simp [strokeTimed, headUp]
  have timedHdr : s.strokeTimed.hdr = s.hdr := by simp [strokeTimed, headUp]
  have after : s.strokeTimed.removeOldest.missesAfter e.record.lap = some n :=
    (missesAfter_congr (t := s.strokeTimed.removeOldest) timedWork _).trans misses
  have result : strokeResult e l = some (.missed .leadMiss) := by
    have none : ¬(l.a = true ∧ l.b = true) := by simpa using missed
    simp [strokeResult, target, none]
  have notReady : (s.strokeTimed.strokeCounted e l).work.state ≠ .ready := by
    rw [strokeCounted_work]
    exact outcomeTaken_notReady after
  have counted : (s.strokeTimed.strokeCounted e l).alarm.monitor .m2 =
      (s.strokeTimed.removeOldest.evaluate .m2 n).alarm.monitor .m2 := by
    unfold strokeCounted
    rw [if_neg (by simp [missed]), raise_monitor, outcomeTaken_alarm_of_miss result after]
  have timed : (s.strokeTimed.removeOldest.evaluate .m2 n).alarm.monitor .m2 = (s.evaluate .m2 n).alarm.monitor .m2 :=
    evaluate_monitor_congr (s := s) (t := s.strokeTimed.removeOldest) (evaluate_configFault_iff s.headUp _ _)
      (evaluate_monitor_of_ne (s := s.headUp) (id := .m4) (other := .m2) (by simp) _) timedHdr n
  exact (followOn_m2 notReady).trans (counted.trans timed)

theorem strokeEnded_alarms {r : State} {time : Nat} (timed : (r.evaluate .m4 time).alarm = s.strokeTimed.alarm)
    (hdr : s.hdr = r.hdr) (work : s.work = r.work) (reader : s.reader = r.reader) (e : Entry) (l : Leads)
    (list : u.alarm.list = (s.strokeEnded e l).alarm.list) (more : u.alarm.more = (s.strokeEnded e l).alarm.more) :
    r.StrokeAlarms u e (l.a && l.b) time :=
  strokeCounted_alarms timed.symm (by simpa [strokeTimed, headUp] using hdr) (by simpa [strokeTimed, headUp] using work)
    (by simpa [strokeTimed, headUp] using reader) (by rw [list, strokeEnded_alarm]) (by rw [more, strokeEnded_alarm])

theorem evaluate_stepUsed (s : State) (id : MonitorId) (v : Nat) :
    (s.evaluate id v).alarm.stepUsed = s.alarm.stepUsed := by
  have record : (s.counted id v).alarm.stepUsed = s.alarm.stepUsed := by simp [counted]
  rcases evaluate_cases s id v with h | h | h | ⟨-, h⟩
  · rw [h, record]
  · rw [h, raise_stepUsed, record]
  · rw [h]
    exact record
  · rw [h]

theorem outcomeTaken_stepUsed (s : State) (e : Entry) (o : Option StepOutcome) :
    (s.outcomeTaken e o).alarm.stepUsed = s.alarm.stepUsed := by
  by_cases misses : ∃ r n, o = some (.missed r) ∧ s.missesAfter e.record.lap = some n
  · obtain ⟨r, n, miss, misses⟩ := misses
    rw [outcomeTaken_alarm_of_miss miss misses, evaluate_stepUsed]
  · rw [outcomeTaken_alarm_of_none (not_missed_or misses)]

/-- Outside STEPPING the return uses no execution. -/
theorem returnDone_stepUsed (head : s.tape.queue.head? = some e) (attempted : e.attempted = true)
    (not : s.alarm.run ≠ .stepping) : s.returnDone.alarm.stepUsed = s.alarm.stepUsed := by
  obtain ⟨u, taken, alarm, -⟩ := returnDone_alarm head attempted
  subst taken
  have run := outcomeTaken_run s.headUp.removeOldest e (jamOutcome e)
  have still : (s.headUp.removeOldest.outcomeTaken e (jamOutcome e)).alarm.run ≠ .stepping := by
    rcases run with same | stop
    · rw [same]
      exact not
    · simp [stop]
  rw [alarm, useStep_alarm, if_neg still]
  exact outcomeTaken_stepUsed _ e _

theorem MissEvaluated.of_alarm {o : Option StepOutcome} (evaluated : s.MissEvaluated t lap o)
    (list : u.alarm.list = t.alarm.list) (more : u.alarm.more = t.alarm.more) (m2 : u.alarm.m2 = t.alarm.m2) :
    s.MissEvaluated u lap o := by
  unfold State.MissEvaluated at *
  rw [list, more, m2]
  exact evaluated

/-- The station as TOP reads active. -/
def topHigh (s : State) : State := s.modLines fun l => { l with top := true }

end State

/-- Settles O32: the row by the head's phase, the stroke's end and the return's each by its own lemmas. -/
theorem strokesEndAtTheTop : Obligations.StrokesEndAtTheTop := by
  intro s
  have row : exec .topEdge s = execTopEdge s := rfl
  have books : State.Books [.lines, .tape, .head, .work, .alarm] := by simp [State.Books]
  have seen : s.Only s.topHigh [.lines, .tape, .head, .work, .alarm] := .modLines s _ (by simp)
  by_cases up : s.head.phase = .up
  · have eq : exec .topEdge s = .next (s.settle s.topHigh.strokeDone.endIfQuiet) := by
      rw [row, execTopEdge, up]
      rfl
    refine ⟨_, eq, by simp [State.topHigh], fun no => absurd up no, fun _ e l head lead => ?_, fun h => by simp [up] at h⟩
    rw [State.strokeDone_eq (s := s.topHigh) head lead]
    have alarm := State.endIfQuiet_alarm (s.topHigh.strokeEnded e l)
    have position := State.strokeEnded_head s.topHigh e l
    have ⟨queue, fault⟩ := State.strokeEnded_tape s.topHigh e l
    have follows (free : s.tape.feeding = false) : s.FeedFollows (s.topHigh.strokeEnded e l) :=
      State.strokeEnded_feedFollows (s := s.topHigh) free e l
    have counts : s.Counts (s.topHigh.strokeEnded e l) e.record.lap e.record.ordinal (State.strokeResult e l) :=
      State.strokeEnded_counts s.topHigh e l
    have evaluated (id : MonitorId) (v : Nat) : (s.topHigh.evaluate id v).alarm = (s.evaluate id v).alarm :=
      State.evaluate_alarm_congr (t := s.topHigh) (s := s) rfl rfl rfl id v
    refine ⟨?_, ?_, ?_, ?_, ?_, ?_, ?_, by simpa [State.topHigh] using queue, by simpa [State.topHigh] using fault,
      fun free => (follows free).endIfQuiet.settle, fun on c start => ?_, counts.boardKept (.of_work (by simp)),
      fun c start => ?_, fun n target missed misses => ?_, State.keepsBut_settle (seen.trans
        ((State.strokeEnded_only _ e l books).trans (State.endIfQuiet_only _ (by simp)))).keepsBut⟩
    iterate 6
      · simp only [State.settle_frame, State.endIfQuiet_head]
        rw [position]
    · simp only [State.settle_frame, State.endIfQuiet_head]
      rw [position]
      rfl
    · simp only [State.settle_frame]
      rw [alarm]
      exact State.strokeEnded_m4 (s := s.topHigh) on (by simp [State.topHigh, start]) e l
    · have time : s.topHigh.now - s.topHigh.head.strokeStart.getD s.topHigh.now = s.now - c := by simp [State.topHigh, start]
      refine State.strokeEnded_alarms ((evaluated .m4 _).symm.trans (State.strokeTimed_alarm time).symm) rfl rfl rfl e l ?_ ?_
      · simp only [State.settle_frame]
        rw [alarm]
      · simp only [State.settle_frame]
        rw [alarm]
    · simp only [State.settle_frame]
      rw [alarm, ← evaluated]
      exact State.strokeEnded_m2 (s := s.topHigh) target missed misses
  by_cases returns : s.head.phase = .returning
  · have eq : exec .topEdge s = .next (s.settle s.topHigh.returnDone.endIfQuiet) := by
      rw [row, execTopEdge, returns]
      rfl
    have position := State.returnDone_head s.topHigh
    refine ⟨_, eq, by simp [State.topHigh], fun _ no => absurd returns no, fun h => absurd h up, fun _ => ⟨by simpa using position.1,
      by simpa using position.2.1, by simpa using position.2.2, State.keepsBut_settle (seen.trans
        ((State.returnDone_only _ books).trans (State.endIfQuiet_only _ (by simp)))).keepsBut, fun e head attempted => ?removes,
        fun stays => ?stays⟩⟩
    case removes =>
      have queue := State.returnDone_held (s := s.topHigh) head attempted
      have fault := State.returnDone_fault (s := s.topHigh) head attempted
      have counts : s.Counts s.topHigh.returnDone _ _ _ :=
        State.returnDone_counts (s := s.topHigh) head attempted
      have follows (free : s.tape.feeding = false) : s.FeedFollows s.topHigh.returnDone :=
        State.returnDone_feedFollows (s := s.topHigh) head attempted free
      have missed : s.MissEvaluated s.topHigh.returnDone _ _ :=
        (State.returnDone_missEvaluated (s := s.topHigh) head attempted).of_beside rfl rfl rfl
      have alarm := State.endIfQuiet_alarm s.topHigh.returnDone
      refine ⟨by simpa [State.topHigh] using queue, by simpa [State.topHigh] using fault, fun free => (follows free).endIfQuiet.settle,
        counts.boardKept (.of_work (by simp)), ?_, fun stepping => ?_, fun not => ?_⟩
      · exact missed.of_alarm (by simp only [State.settle_frame]; rw [alarm]) (by simp only [State.settle_frame]; rw [alarm])
          (by simp only [State.settle_frame]; rw [alarm])
      · rw [State.returnDone_of_attempted (s := s.topHigh) head attempted]
        simp only [State.settle_frame]
        exact State.useStep_used ((State.outcomeTaken_run _ e _).imp_left fun same => same.trans stepping)
      · simp only [State.settle_frame]
        rw [alarm]
        exact State.returnDone_stepUsed (s := s.topHigh) head attempted not
    case stays =>
      rw [State.returnDone_of_none_attempted (s := s.topHigh) stays]
      refine ⟨by simp [State.headUp, State.topHigh], by simp [State.headUp, State.topHigh], ?_⟩
      simp only [State.settle_frame]
      rw [State.endIfQuiet_alarm]
      rfl
  have eq : exec .topEdge s = .next (s.settle s.topHigh) := by
    rw [row, execTopEdge]
    split
    next h => exact absurd h up
    next h => exact absurd h returns
    next => rfl
  exact ⟨_, eq, by simp [State.topHigh], fun _ _ => State.keepsBut_settle (State.Only.modLines s _ (by simp)).keepsBut,
    fun h => absurd h up, fun h => absurd h returns⟩

end Sys2Proof.Machine
end

section
/-!
# The bookkeeping leaves nothing to do (R46, R117, R118)
-/
namespace Sys2Proof.Machine

namespace State
variable {s t u : State} {e : Entry} {b : Board}

/-- Nothing is left for the bookkeeping: no READY board can start, no row hold is due, the oldest entry is not to be
decided. -/
def BooksQuiet (s : State) : Prop :=
  ¬s.CanStart ∧ (∀ e b, ¬s.HoldDue e b) ∧ ∀ e, s.tape.queue.head? = some e → ¬s.CanDecide e

theorem decideOldest_of_cannot (cannot : ∀ e, s.tape.queue.head? = some e → ¬s.CanDecide e) : s.decideOldest = s := by
  unfold State.decideOldest
  split
  next => rfl
  next e es queue => exact if_neg fun may => cannot e (by simp [queue]) ((mayDecide_iff e).1 may)

theorem decideOldest_of_can {es : List Entry} (queue : s.tape.queue = e :: es) (can : s.CanDecide e) :
    s.decideOldest.tape.queue = { e with decision := some (decisionOf s.options (s.tape.flush == some e.record.lap)
      ((s.workingBoard.map Board.mask).getD 0) e) } :: es := by
  unfold State.decideOldest
  rw [queue]
  dsimp only
  rw [if_pos ((mayDecide_iff e).2 can)]
  rfl

theorem bookkeep_of_quiet (quiet : s.BooksQuiet) : s.bookkeep = s := by
  obtain ⟨cannot, noneDue, decided⟩ := quiet
  rw [bookkeep_of_neither cannot noneDue, decideOldest_of_cannot decided]

/-- Either the decision changes nothing, or the oldest entry carries one after it. -/
theorem decideOldest_cases (s : State) : s.decideOldest = s ∧ (∀ e, s.tape.queue.head? = some e → ¬s.CanDecide e) ∨
    ∀ e, s.decideOldest.tape.queue.head? = some e → e.decision ≠ none := by
  by_cases can : ∃ e es, s.tape.queue = e :: es ∧ s.CanDecide e
  · obtain ⟨e, es, queue, can⟩ := can
    refine .inr fun e' head => ?_
    rw [decideOldest_of_can queue can] at head
    cases head
    simp
  · have cannot : ∀ e, s.tape.queue.head? = some e → ¬s.CanDecide e := fun e head decides => by
      obtain ⟨es, queue⟩ := List.head?_eq_some_iff.1 head
      exact can ⟨e, es, queue, decides⟩
    exact .inl ⟨decideOldest_of_cannot cannot, cannot⟩

theorem startBoard_cannot (s : State) : ¬s.startBoard.CanStart := by
  by_cases can : s.CanStart
  · obtain ⟨b, e, -, -, -, -, eq⟩ := can.startBoard_eq
    intro again
    have ready := again.1
    rw [eq] at ready
    cases ready
  · rwa [startBoard_of_cannot can]

theorem CanStart.of_same (same : t.SameOldest s) (state : s.work.state = t.work.state)
    (board : s.work.board.isSome = t.work.board.isSome) (can : s.CanStart) : t.CanStart := by
  obtain ⟨ready, held, e, head, first, flush⟩ := can
  have records := same.1
  rw [head] at records
  obtain ⟨e', head', record⟩ := Option.map_eq_some_iff.1 records.symm
  exact ⟨state.symm.trans ready, board ▸ held, e', head', record ▸ first, same.2.symm.trans flush⟩

theorem bookkeep_quiet (s : State) : s.bookkeep.BooksQuiet := by
  obtain ⟨state, laps, -⟩ := takeRowHold_board s.startBoard
  have isSome : s.startBoard.takeRowHold.work.board.isSome = s.startBoard.work.board.isSome := by
    simpa using congrArg Option.isSome laps
  have decided := decideOldest_cases s.startBoard.takeRowHold
  unfold State.bookkeep
  refine ⟨fun can => ?_, fun e b due => ?_, fun e head can => ?_⟩
  · have held := can.of_same (t := s.startBoard.takeRowHold) (decideOldest_sameOldest _) (by simp) (by simp)
    exact startBoard_cannot s (held.of_same (.of_tape (by simp)) state isSome)
  · rcases decided with ⟨same, -⟩ | decided
    · rw [same] at due
      by_cases taken : ∃ e b, s.startBoard.HoldDue e b
      · obtain ⟨e', b', taken⟩ := taken
        obtain ⟨-, -, -, -, -, -, -, -, -, -, -, may⟩ := due
        rcases taken.takeRowHold_run with run | run <;> simp [State.MayStart, run] at may
      · rw [takeRowHold_of_not_due (by simpa using taken)] at due
        exact taken ⟨e, b, due⟩
    · obtain ⟨-, -, head, -, -, -, -, -, undecided, -⟩ := due
      exact decided e head undecided
  · rcases decided with ⟨same, cannot⟩ | decided
    · rw [same] at head can
      exact cannot e head can
    · exact decided e head can.1

/-- Quiet books stay so where the parts that they read stay, and work may start no more than before. -/
theorem BooksQuiet.of_beside (quiet : s.BooksQuiet) (tape : t.tape.queue = s.tape.queue) (flush : t.tape.flush = s.tape.flush)
    (work : t.work = s.work) (reader : t.reader = s.reader) (may : t.MayStart → s.MayStart) : t.BooksQuiet := by
  obtain ⟨cannot, noneDue, decided⟩ := quiet
  unfold BooksQuiet CanStart State.TapeLetsStart State.HoldDue State.CanDecide at *
  rw [tape, flush, work, reader]
  exact ⟨cannot, fun e b ⟨a1, a2, a3, a4, a5, a6, a7, a8, a9, a10, a11, mayStart⟩ =>
    noneDue e b ⟨a1, a2, a3, a4, a5, a6, a7, a8, a9, a10, a11, may mayStart⟩, decided⟩

theorem BooksQuiet.endIfQuiet (quiet : s.BooksQuiet) : s.endIfQuiet.BooksQuiet :=
  quiet.of_beside (by simp) (by simp) (by simp) (by simp) endIfQuiet_mayStart

theorem BooksQuiet.tryFeed (quiet : s.BooksQuiet) : s.tryFeed.BooksQuiet :=
  quiet.of_beside (by rw [tryFeed_tape]) (by rw [tryFeed_tape]) (by simp) (by simp) (by simp [State.MayStart])

theorem followOn_quiet (s : State) : s.followOn.BooksQuiet := (bookkeep_quiet s.checkFlush).tryFeed

theorem bookkeep_bookkeep (s : State) : s.bookkeep.bookkeep = s.bookkeep := bookkeep_of_quiet (bookkeep_quiet s)

end State
end Sys2Proof.Machine
end

section
/-!
# What a restarted operation changes (R108, R109, R113 to R115)

An operation that starts works on the board, the arrivals and the mark request alone; where it makes a board READY, the
bookkeeping follows, once.
-/
namespace Sys2Proof.Machine

namespace State
variable {s t u : State} {b : Board} {Q : Board → Prop} {ps : List Part}

/-- Every board at the work position is such a board. -/
def BoardsAre (Q : Board → Prop) (s : State) : Prop := ∀ b, s.work.board = some b → Q b

/-- From `s` to `t` only the work position, the traveller unit and the mark request have changed, and the board is one of
the given kind. -/
def Worked (Q : Board → Prop) (s t : State) : Prop :=
  t = { s with work := t.work, trav := t.trav, table := { s.table with markRequest := t.table.markRequest } } ∧ t.BoardsAre Q

/-- From `s` to `t` the work position has been worked on, and then perhaps the bookkeeping done. -/
def Handled (Q : Board → Prop) (s t : State) : Prop := s.Worked Q t ∨ ∃ u, s.Worked Q u ∧ t = u.bookkeep

namespace Worked

theorem refl (boards : s.BoardsAre Q) : s.Worked Q s := ⟨rfl, boards⟩

theorem modWork (f : Work → Work) (boards : (s.modWork f).BoardsAre Q) : s.Worked Q (s.modWork f) := ⟨rfl, boards⟩

theorem modTrav (f : Trav → Trav) (boards : s.BoardsAre Q) : s.Worked Q (s.modTrav f) := ⟨rfl, boards⟩

theorem markRequest (g : Option Nat) (boards : s.BoardsAre Q) :
    s.Worked Q (s.modTable fun t => { t with markRequest := g }) := ⟨rfl, boards⟩

theorem trans (first : s.Worked Q t) (second : t.Worked Q u) : s.Worked Q u := by
  refine ⟨?_, second.2⟩
  have eq := second.1
  rw [first.1] at eq
  exact eq

theorem handled (first : s.Worked Q t) (second : t.Handled Q u) : s.Handled Q u :=
  second.imp first.trans fun ⟨v, worked, eq⟩ => ⟨v, first.trans worked, eq⟩

theorem bookkeep (worked : s.Worked Q t) : s.Handled Q t.bookkeep := .inr ⟨t, worked, rfl⟩

end Worked

theorem Handled.refl (boards : s.BoardsAre Q) : s.Handled Q s := .inl (.refl boards)

theorem Handled.ite {c : Prop} [Decidable c] (yes : c → s.Handled Q t) (no : ¬c → s.Handled Q u) :
    s.Handled Q (if c then t else u) := by
  split
  · exact yes ‹_›
  · exact no ‹_›

/-- After the bookkeeping once more the board has been worked on and the bookkeeping done. -/
theorem Handled.bookkeep (handled : s.Handled Q t) : ∃ u, s.Worked Q u ∧ t.bookkeep = u.bookkeep := by
  rcases handled with worked | ⟨u, worked, rfl⟩
  · exact ⟨t, worked, rfl⟩
  · exact ⟨u, worked, bookkeep_bookkeep u⟩

/-! ## The operations, one by one -/

theorem drive_worked (boards : s.BoardsAre Q) (k : OpKind) : s.Worked Q (s.drive k) := by
  have board : (s.drive k).work.board = s.work.board := by cases k <;> rfl
  exact .modWork _ fun b held => boards b (board ▸ held)

theorem scanFrom_handled (boards : s.BoardsAre Q) (start : Nat) : s.Handled Q (s.scanFrom start) := by
  unfold State.scanFrom
  split
  · exact .inl ((Worked.modWork _ (by exact boards)).trans (.markRequest _ (by exact boards)))
  · exact (Worked.modWork _ (by exact boards)).bookkeep

theorem clampDone_handled (boards : s.BoardsAre Q) : s.Handled Q s.clampDone := by
  have done := Worked.modWork (s := s) (Q := Q)
    (fun w => { w with clamped := true, clampOn := true, op := none, opTimer := none }) (by exact boards)
  exact .ite (fun _ => done.handled ((Worked.modWork _ (by exact boards)).handled (scanFrom_handled (by exact boards) 0)))
    fun _ => done.handled (Worked.modWork _ (by exact boards)).bookkeep

theorem startClamp_handled (boards : s.BoardsAre Q) : s.Handled Q s.startClamp :=
  .ite (fun _ => (drive_worked boards .clamp).handled (clampDone_handled (by exact boards))) fun _ =>
    .inl (drive_worked boards .clamp)

theorem boardMade_handled (made : Q b) : s.Handled Q (s.boardMade b) := by
  have boards (f : Work → Work) (board : (f s.work).board = some b) : (s.modWork f).BoardsAre Q := fun c held => by
    obtain rfl : b = c := Option.some.inj (board.symm.trans held)
    exact made
  have held := Worked.modWork (s := s) (fun w => { w with board := some b, matchTimer := none, op := none, opTimer := none })
    (boards _ rfl)
  have next (f : Work → Work) (same : ∀ w, (f w).board = w.board) : (s.modWork fun w =>
      f { w with board := some b, matchTimer := none, op := none, opTimer := none }).BoardsAre Q := boards _ (same _)
  exact .ite (fun _ => .inl (held.trans (.modWork _ (next _ fun _ => rfl)))) fun _ =>
    .ite (fun _ => held.handled ((Worked.modWork _ (next _ fun _ => rfl)).handled (startClamp_handled (next _ fun _ => rfl))))
      fun _ => .inl (held.trans (.modWork _ (next _ fun _ => rfl)))

theorem beginMatching_handled (boards : s.BoardsAre Q) (fresh : ∀ b : Board, b.holds = 0 → Q b) :
    s.Handled Q s.beginMatching := by
  have own (reject : Option RejectReason) : s.Handled Q (s.makeOwnBoard reject) :=
    (Worked.modWork _ (by exact boards)).handled (boardMade_handled (fresh _ rfl))
  refine .ite (fun _ => own _) fun _ => ?_
  split
  · exact (Worked.modTrav _ boards).handled (boardMade_handled (fresh _ rfl))
  · exact .ite (fun _ => own _) fun _ => .inl ((Worked.modWork _ (by exact boards)).trans (.modTrav _ (by exact boards)))

theorem arrive_handled (boards : s.BoardsAre Q) (fresh : ∀ b : Board, b.holds = 0 → Q b) : s.Handled Q s.arrive :=
  (Worked.modWork _ (by exact boards)).handled (beginMatching_handled (by exact boards) fresh)

theorem startConveyorIn_handled (boards : s.BoardsAre Q) (fresh : ∀ b : Board, b.holds = 0 → Q b) :
    s.Handled Q s.startConveyorIn :=
  .ite (fun _ => (drive_worked boards .conveyorIn).handled (arrive_handled (by exact boards) fresh)) fun _ =>
    .inl (drive_worked boards .conveyorIn)

theorem conveyorOutDone_worked (boards : s.BoardsAre Q) : s.Worked Q s.conveyorOutDone := by
  have cleared : s.Worked Q (if s.role = .lineEnd then s else s.boardCleared) := by
    unfold State.boardCleared
    split
    · exact .refl boards
    · split
      · exact .modTrav _ boards
      · exact .refl boards
  have gone : s.conveyorOutDone.BoardsAre Q := fun b held => by cases (held : (none : Option Board) = some b)
  exact cleared.trans (.modWork _ gone)

theorem startConveyorOut_worked (boards : s.BoardsAre Q) : s.Worked Q s.startConveyorOut := by
  have driven := drive_worked boards .conveyorOut
  unfold State.startConveyorOut
  dsimp only
  split
  · exact driven.trans (conveyorOutDone_worked driven.2)
  · exact driven

theorem toConveyorOut_worked (boards : s.BoardsAre Q) : s.Worked Q s.toConveyorOut := by
  have waits := Worked.modWork (s := s) (Q := Q) (fun w => { w with op := some (.conveyorOut, .waiting), opTimer := none })
    (by exact boards)
  unfold State.toConveyorOut
  dsimp only
  split
  · exact waits.trans (startConveyorOut_worked waits.2)
  · exact waits

theorem startUnclamp_worked (boards : s.BoardsAre Q) : s.Worked Q s.startUnclamp := by
  have driven := drive_worked boards .unclamp
  unfold State.startUnclamp
  dsimp only
  split
  · exact driven.trans (toConveyorOut_worked driven.2)
  · exact driven

/-- An operation that starts; a conveyor in makes a new board. -/
theorem startOp_handled (boards : s.BoardsAre Q) (k : OpKind)
    (fresh : k = .conveyorIn → ∀ b : Board, b.holds = 0 → Q b) : s.Handled Q (s.startOp k) := by
  cases k with
  | conveyorIn => exact startConveyorIn_handled boards (fresh rfl)
  | clamp => exact startClamp_handled boards
  | unclamp => exact .inl (startUnclamp_worked boards)
  | conveyorOut => exact .inl (startConveyorOut_worked boards)

theorem restartOp_of_none (none : ∀ k, s.work.op ≠ some (k, .stalled)) : s.restartOp = s := by
  unfold State.restartOp
  split
  next k op => exact absurd op (none k)
  next => rfl

theorem restartOp_of_not_may (not : ¬s.MayStart) : s.restartOp = s := by
  unfold State.restartOp
  split
  · exact if_neg (mt (mayStart_iff s).1 not)
  · rfl

theorem restartOp_of_stalled {k : OpKind} (stalled : s.work.op = some (k, .stalled)) (may : s.MayStart) :
    s.restartOp = s.startOp k := by
  unfold State.restartOp
  rw [stalled]
  exact if_pos ((mayStart_iff s).2 may)

theorem restartOp_handled (boards : s.BoardsAre Q)
    (fresh : s.work.op = some (.conveyorIn, .stalled) → ∀ b : Board, b.holds = 0 → Q b) : s.Handled Q s.restartOp := by
  unfold State.restartOp
  split
  next k stalled => exact .ite (fun _ => startOp_handled boards k fun is => fresh (is ▸ stalled)) fun _ => .refl boards
  next => exact .refl boards

/-- Work taken up: a STALLED operation restarts and the bookkeeping is done (log entry 11). -/
theorem restartOp_bookkeep (boards : s.BoardsAre Q)
    (fresh : s.work.op = some (.conveyorIn, .stalled) → ∀ b : Board, b.holds = 0 → Q b) :
    ∃ u, s.Worked Q u ∧ s.restartOp.bookkeep = u.bookkeep := (restartOp_handled boards fresh).bookkeep

/-- The same with nothing asked of the board. -/
theorem restartOp_bookkeep_any (s : State) : ∃ u, s.Worked (fun _ => True) u ∧ s.restartOp.bookkeep = u.bookkeep :=
  restartOp_bookkeep (fun _ _ => trivial) fun _ _ _ => trivial

/-! ## What work taken up leaves -/

theorem Worked.frame (worked : s.Worked Q t) : t.pending = s.pending ∧ t.now = s.now ∧ t.hdr = s.hdr ∧ t.lines = s.lines ∧
    t.reader = s.reader ∧ t.verifier = s.verifier ∧ t.tape = s.tape ∧ t.head = s.head ∧ t.alarm = s.alarm ∧
    t.table = { s.table with markRequest := t.table.markRequest } := by
  have eq := worked.1
  generalize t.work = w, t.trav = v, t.table.markRequest = g at eq
  subst eq
  exact ⟨rfl, rfl, rfl, rfl, rfl, rfl, rfl, rfl, rfl, rfl⟩

theorem headAfter_of_not_running {r : RunState} (not : s.alarm.run ≠ .running) : s.headAfter r = s.head :=
  if_neg fun h => not h.1

end State
end Sys2Proof.Machine
end

section
/-!
# The restart of a STALLED operation, said as it leaves the work position (R108)
-/
namespace Sys2Proof.Machine

namespace State
variable {s t u : State} {k : OpKind}

/-- With no READY or WORKING board the bookkeeping only decides the oldest entry. -/
theorem bookkeep_of_idle (notReady : s.work.state ≠ .ready) (notWorking : s.work.state ≠ .working) :
    s.bookkeep = s.decideOldest :=
  bookkeep_of_neither (fun can => notReady can.1) fun _ _ due => notWorking due.1

theorem bookkeep_work_of_idle (notReady : s.work.state ≠ .ready) (notWorking : s.work.state ≠ .working) :
    s.bookkeep.work = s.work := by
  rw [bookkeep_of_idle notReady notWorking]
  simp

theorem ClampCloses.of_beside (closes : s.ClampCloses t) (work : u.work = t.work) (table : u.table = t.table)
    (same : t.SameOldest u) (m2 : u.alarm.m2.value = t.alarm.m2.value)
    (last : t.head.lastCycle = none → u.head.lastCycle = none) : s.ClampCloses u := by
  obtain ⟨clamped, on, op, timer, scan, ready⟩ := closes
  refine ⟨by rw [work]; exact clamped, by rw [work]; exact on, by rw [work]; exact op, by rw [work]; exact timer,
    fun n marks next => by rw [work, table]; exact scan n marks next, fun none => ?_⟩
  obtain ⟨⟨lets, stays⟩, sameTable⟩ := ready none
  exact ⟨⟨fun may => (lets may).of_same same (by rw [work]) (by rw [work]) m2 last, fun not => by rw [work]; exact stays not⟩,
    by rw [table]; exact sameTable⟩

/-- The end of CLAMP is as it was after the bookkeeping is done once more. -/
theorem ClampCloses.of_clampDone_bookkeep (s : State) : s.ClampCloses s.clampDone.bookkeep := by
  have closes := ClampCloses.of_clampDone s
  by_cases scanning : s.clampDone.work.state = .scanning
  · have idle := bookkeep_of_idle (s := s.clampDone) (by simp [scanning]) (by simp [scanning])
    rw [idle]
    exact closes.of_beside (by simp) (by simp) (decideOldest_sameOldest _) (by simp) (by simp)
  · have booked : s.clampDone.bookkeep = s.clampDone := by
      have scanned (v : State) (state : v.work.state = .scanning) (other : (v.scanFrom 0).work.state ≠ .scanning) :
          (v.scanFrom 0).bookkeep = v.scanFrom 0 := by
        cases next : nextMarkImage v.reader.rows ((v.work.board.map Board.mask).getD 0) 0 with
        | some n =>
          rw [scanFrom_of_some next] at other
          exact absurd state other
        | none => rw [scanFrom_of_none next, bookkeep_bookkeep]
      unfold State.clampDone at scanning ⊢
      dsimp only at scanning ⊢
      split
      next marks =>
        rw [if_pos marks] at scanning
        exact scanned _ rfl scanning
      next => exact bookkeep_bookkeep _
    rw [booked]
    exact closes

/-- The clamp is none of CONVEYOR_OUT's. -/
theorem startConveyorOut_work (s : State) : s.startConveyorOut.work = { s.startConveyorOut.work with
    clampOn := s.work.clampOn, clamped := s.work.clamped } := by
  unfold State.startConveyorOut State.conveyorOutDone State.boardCleared
  dsimp only
  (repeat' split) <;> rfl

/-- CONVEYOR_OUT as it starts or restarts, with the bookkeeping after it: DRIVING, or completed at once (R121). -/
theorem startConveyorOut_bookkeep (state : s.work.state = .releasing) :
    (s.work.exitSeen = false ∨ s.lines.bout = true → s.OutDriving s.startConveyorOut.bookkeep ∧
      s.startConveyorOut.bookkeep.work.exitSeen = (s.work.exitSeen || s.lines.bout)) ∧
    (s.work.exitSeen = true → s.lines.bout = false → s.startConveyorOut.bookkeep.work.state = .empty ∧
      s.startConveyorOut.bookkeep.work.board = none ∧ s.startConveyorOut.bookkeep.work.op = none) := by
  refine ⟨fun waits => ?_, fun seen clear => ?_⟩
  · have idle : (s.drive .conveyorOut).work.state = .releasing := state
    have work := bookkeep_work_of_idle (s := s.drive .conveyorOut) (by simp [idle]) (by simp [idle])
    obtain ⟨out, exit⟩ := OutDriving.of_drive s
    rw [startConveyorOut_of_waits waits]
    exact ⟨out.of_work work, by rw [work]; exact exit⟩
  · have gone : (s.drive .conveyorOut).conveyorOutDone.work.state = .empty := rfl
    rw [startConveyorOut_of_clear seen clear, bookkeep_work_of_idle (by simp [gone]) (by simp [gone])]
    exact ⟨rfl, rfl, rfl⟩

/-- A STALLED operation restarted, with the bookkeeping after it. -/
theorem Restarted.of_startOp (fits : s.WorkFits) (stalled : s.work.op = some (k, .stalled)) (may : s.MayStart) :
    s.Restarted (s.startOp k).bookkeep k := by
  obtain ⟨-, entering, clamping, releasing⟩ := fits
  unfold State.Restarted
  cases k with
  | conveyorIn =>
    have state : s.work.state = .entering := entering.2 ⟨_, stalled⟩
    refine ⟨fun _ => ⟨fun low => ?_, fun high => ?_⟩, nofun, nofun, nofun⟩
    · have eq : s.startOp .conveyorIn = s.drive .conveyorIn := if_neg (by simp [State.opDone, low])
      have idle : (s.drive .conveyorIn).work.state = .entering := state
      rw [eq, bookkeep_work_of_idle (by simp [idle]) (by simp [idle])]
      rfl
    · have eq : s.startOp .conveyorIn = (s.drive .conveyorIn).arrive := if_pos (by simp [State.opDone, high])
      obtain ⟨accept, convIn⟩ := beginMatching_counters (s.drive .conveyorIn).arrived
      rw [eq, bookkeep_work]
      exact ⟨accept, convIn⟩
  | clamp =>
    have state : s.work.state = .clamping := clamping.2 ⟨_, stalled⟩
    refine ⟨nofun, fun _ => ⟨fun low => ?_, fun high => ?_⟩, nofun, nofun⟩
    · have eq : s.startOp .clamp = s.drive .clamp := startClamp_of_low low
      have idle : (s.drive .clamp).work.state = .clamping := state
      rw [eq, bookkeep_work_of_idle (by simp [idle]) (by simp [idle])]
      rfl
    · have eq : s.startOp .clamp = (s.drive .clamp).clampDone := startClamp_of_high high
      rw [eq]
      exact ClampCloses.of_clampDone_bookkeep (s.drive .clamp)
  | unclamp =>
    have state : s.work.state = .releasing := releasing.2 ⟨_, .inl stalled⟩
    refine ⟨nofun, nofun, fun _ => ⟨fun high => ?_, fun low => ?_⟩, nofun⟩
    · have eq : s.startOp .unclamp = s.drive .unclamp := if_neg (by simp [State.opDone, high])
      have idle : (s.drive .unclamp).work.state = .releasing := state
      rw [eq, bookkeep_work_of_idle (by simp [idle]) (by simp [idle])]
      rfl
    · have eq : s.startOp .unclamp = (s.drive .unclamp).toConveyorOut := if_pos (by simp [State.opDone, low])
      have next : (s.drive .unclamp).toConveyorOut = _ := toConveyorOut_of_may may
      obtain ⟨out, gone⟩ := startConveyorOut_bookkeep (s := (s.drive .unclamp).modWork fun w =>
        { w with op := some (.conveyorOut, .waiting), opTimer := none }) state
      have work := startConveyorOut_work ((s.drive .unclamp).modWork fun w =>
        { w with op := some (.conveyorOut, .waiting), opTimer := none })
      have idle : ((s.drive .unclamp).modWork fun w =>
        { w with op := some (.conveyorOut, .waiting), opTimer := none }).startConveyorOut.bookkeep.work = _ := bookkeep_work _
      rw [eq, next]
      exact ⟨by rw [idle, work]; rfl, by rw [idle, work]; rfl, fun waits => (out waits).1, gone⟩
  | conveyorOut =>
    exact ⟨nofun, nofun, nofun, fun _ => startConveyorOut_bookkeep (releasing.2 ⟨_, .inr stalled⟩)⟩

end State
end Sys2Proof.Machine
end

section
/-!
# The entry to RUNNING or STEPPING (R96, R108, R117, R118, R142, R148)
-/
namespace Sys2Proof.Machine

namespace State
variable {s t u : State} {a : Alarm} {r final : RunState} {top : Bool} {Q : Board → Prop}

/-! ## The run state, the stop line and the return -/

/-- The run state that an entry to RUNNING or STEPPING comes to once the stop line has been read (R148). -/
def finalRun (s : State) (r : RunState) : RunState := if r = .running ∧ s.lines.stopline = true then .holding else r

/-- From `s` to `t` the run state has become `final` in an alarm unit `a`, and a HALTED head has started its return, with TOP
as given, which removes no entry. -/
def EntryMade (s t : State) (top : Bool) (a : Alarm) (final : RunState) : Prop :=
  s.KeepsBut t [.head, .alarm] ∧ t.alarm = { a with run := final } ∧
    t.head = { s.headEntering top with lastCycle := t.head.lastCycle } ∧ (final = .holding → t.head.lastCycle = none)

/-- The station as the run state is entered, before the head and the work are. -/
def entered (s : State) (r : RunState) : State := (s.setRun r).followStopline

theorem entered_alarm (works : r = .running ∨ r = .stepping) :
    (s.entered r).alarm = { s.alarm with run := s.finalRun r } := by
  have reads : (s.setRun r).stoplineReads = s.lines.stopline := by
    have own : (s.setRun r).drivesStopline = false := by
      rcases works with rfl | rfl <;> simp [State.drivesStopline]
    simp [State.stoplineReads, own]
  unfold entered State.followStopline finalRun
  rw [reads, setRun_run]
  split
  · rw [setRun_alarm, setRun_alarm]
  · rw [setRun_alarm]

theorem entered_keepsBut (s : State) (r : RunState) : s.KeepsBut (s.entered r) [.head, .alarm] := by
  simp [State.KeepsBut, entered]

/-- The last cycle start ends with RUNNING, where the stop line is asserted at once (R100). -/
theorem entered_head (notRunning : s.alarm.run ≠ .running) (r : RunState) :
    s.HeadKept (s.entered r) ∧ (s.finalRun r = .holding → r ≠ .holding → (s.entered r).head.lastCycle = none) := by
  have first : (s.setRun r).head = s.head := by rw [setRun_head, headAfter_of_not_running notRunning]
  unfold entered State.followStopline finalRun HeadKept
  rw [setRun_run]
  split
  next asserted =>
    rw [setRun_head, State.headAfter, setRun_run, if_pos ⟨asserted.1, by simp⟩, first]
    exact ⟨rfl, fun _ _ => rfl⟩
  next clear =>
    rw [first]
    refine ⟨rfl, fun holding not => ?_⟩
    split at holding
    next asserted =>
      have own : (s.setRun r).stoplineReads = true := by simp [State.stoplineReads, asserted.2]
      exact absurd ⟨asserted.1, own⟩ clear
    next => exact absurd holding not

/-- A return that removes no entry changes the head alone (R96, R97). -/
theorem recoveryReturn_of_none_removed (none : s.NoneRemoved s.lines.top [.halted]) :
    s.recoveryReturn = s.modHead fun _ => s.headEntering s.lines.top := by
  unfold State.recoveryReturn State.headEntering
  by_cases halted : s.head.phase = .halted
  · rw [if_pos halted, if_pos halted]
    dsimp only
    cases top : s.lines.top with
    | false => rfl
    | true =>
      have stays := none top (by simp [halted])
      exact returnDone_of_none_attempted (s := s.modHead _) stays
  · rw [if_neg halted, if_neg halted]
    rfl

theorem headEntering_of_head (kept : s.HeadKept t) (hdr : t.hdr = s.hdr) (top : Bool) :
    t.headEntering top = { s.headEntering top with lastCycle := t.head.lastCycle } := by
  unfold State.headEntering State.header
  rw [hdr, kept]
  dsimp only
  split
  · split <;> rfl
  · rfl

theorem EntryMade.of_entered (notRunning : s.alarm.run ≠ .running) (works : r = .running ∨ r = .stepping)
    (none : s.NoneRemoved s.lines.top [.halted]) :
    s.EntryMade (s.entered r).recoveryReturn s.lines.top s.alarm (s.finalRun r) := by
  obtain ⟨kept, gone⟩ := entered_head notRunning r
  have frame := entered_keepsBut s r
  have lines : (s.entered r).lines = s.lines := by simp [entered]
  have tape : (s.entered r).tape = s.tape := by simp [entered]
  have phase : (s.entered r).head.phase = s.head.phase := by rw [kept]
  have none' : (s.entered r).NoneRemoved (s.entered r).lines.top [.halted] := by
    unfold State.NoneRemoved
    rw [lines, phase, tape]
    exact none
  have head := headEntering_of_head kept (by simp [entered]) s.lines.top
  rw [recoveryReturn_of_none_removed none', lines]
  refine ⟨?_, entered_alarm works, ?_, fun holding => ?_⟩
  · unfold State.KeepsBut at *
    simpa using frame
  · rw [modHead_head, head]
  · rw [modHead_head, head]
    exact gone holding (by rcases works with rfl | rfl <;> simp)

/-! ## Work taken up after the entry -/

theorem bookkeep_lastCycle (gone : s.head.lastCycle = none) : s.bookkeep.head.lastCycle = none := by
  have started : s.startBoard.head.lastCycle = none := by
    by_cases can : s.CanStart
    · obtain ⟨b, e, -, -, -, -, eq⟩ := can.startBoard_eq
      rw [eq]
      rfl
    · rw [startBoard_of_cannot can]
      exact gone
  have held : s.bookkeep.head = s.startBoard.takeRowHold.head := by simp [State.bookkeep]
  rw [held, takeRowHold_head]
  exact headAfter_lastCycle _ _ started

theorem HoldDue.of_beside {e : Entry} {b : Board} (due : s.HoldDue e b) (tape : t.tape = s.tape) (work : t.work = s.work)
    (reader : t.reader = s.reader) (may : t.MayStart) : t.HoldDue e b := by
  obtain ⟨a1, a2, a3, a4, a5, a6, a7, a8, a9, a10, a11, -⟩ := due
  unfold State.HoldDue
  rw [tape, work, reader]
  exact ⟨a1, a2, a3, a4, a5, a6, a7, a8, a9, a10, a11, may⟩

/-- A started board that the bookkeeping then holds: the hold is taken from the holds that it had (R118). -/
theorem bookkeep_alarm_cases (s : State) :
    (s.bookkeep.alarm = { s.alarm with m2 := s.bookkeep.alarm.m2 } ∨
      s.bookkeep.alarm = { s.alarm with run := s.bookkeep.alarm.run, rowHold := true, m2 := s.bookkeep.alarm.m2 } ∧
        s.bookkeep.HoldTaken ((s.work.board.map Board.holds).getD 0)) ∧
    (s.bookkeep.alarm.m2 = s.alarm.m2 ∨ s.bookkeep.BoardStarted) := by
  have decided : s.bookkeep.alarm = s.startBoard.takeRowHold.alarm := by simp [State.bookkeep]
  have started := startBoard_alarm s
  refine ⟨?_, ?_⟩
  · by_cases due : ∃ e b, s.startBoard.HoldDue e b
    · obtain ⟨e, b, due⟩ := due
      have holds : (s.work.board.map Board.holds).getD 0 = b.holds := by
        rw [← startBoard_holds, due.2.1]
        rfl
      refine .inr ⟨?_, ?_⟩
      · rw [decided, due.takeRowHold_alarm, started]
      · rw [holds]
        exact due.takeRowHold.decideOldest
    · refine .inl ?_
      rw [decided, takeRowHold_of_not_due (by simpa using due), started]
  · by_cases can : s.CanStart
    · exact .inr can.bookkeep
    · refine .inl ?_
      obtain ⟨-, -, m2⟩ := takeRowHold_board s.startBoard
      rw [decided, m2, startBoard_of_cannot can]

theorem RunsOn.of_bookkeep (alarm : u.alarm = { a with run := final })
    (boards : u.BoardsAre fun b => b.holds = (s.work.board.map Board.holds).getD 0) :
    s.RunsOn u.bookkeep a final := by
  obtain ⟨cases, m2⟩ := bookkeep_alarm_cases u
  rw [alarm] at cases m2
  refine ⟨cases.imp_right fun ⟨eq, taken⟩ => ⟨eq, ?_⟩, m2⟩
  obtain ⟨b, e, working, held, rest⟩ := taken
  have kept : u.work.board.isSome = true := by
    cases none : u.work.board with
    | some c => rfl
    | none =>
      have gone : u.bookkeep.work.board = Option.none := by
        have cannot : ¬u.CanStart := fun can => absurd can.2.1 (by simp [none])
        rw [bookkeep_of_neither cannot fun _ _ due => absurd due.2.1 (by simp [none])]
        simpa using none
      rw [held] at gone
      cases gone
  obtain ⟨c, is⟩ := Option.isSome_iff_exists.1 kept
  rw [is, Option.map_some, Option.getD_some, boards c is] at rest
  exact ⟨b, e, working, held, rest⟩

/-- A run state in which an entry ends without more: nothing of R144 or R147 ends it. -/
def Lasts (a : Alarm) (final : RunState) : Prop := final ≠ .stopping ∧ (final = .stepping → a.stepUsed = false)

theorem endIfQuiet_of_lasts (run : s.alarm.run ≠ .stopping) (unused : s.alarm.run = .stepping → s.alarm.stepUsed = false) :
    s.endIfQuiet = s := by
  refine if_neg fun quiet => ?_
  simp only [Bool.and_eq_true, Bool.or_eq_true, beq_iff_eq] at quiet
  rcases quiet.2 with stopping | ⟨stepping, used⟩
  · exact run stopping
  · simp [unused stepping] at used

theorem RunsOn.endIfQuiet (runs : s.RunsOn t a final) (lasts : Lasts a final) : s.RunsOn t.endIfQuiet a final := by
  obtain ⟨cases, m2⟩ := runs
  rcases cases with alarm | ⟨alarm, taken⟩
  · have same : t.endIfQuiet = t := endIfQuiet_of_lasts (by rw [alarm]; exact lasts.1) (by rw [alarm]; exact lasts.2)
    rw [same]
    exact ⟨.inl alarm, m2⟩
  · have eq := endIfQuiet_alarm t
    refine ⟨.inr ⟨?_, taken.endIfQuiet⟩, m2.imp (fun same => ?_) BoardStarted.endIfQuiet⟩
    · rw [eq]
      dsimp only
      rw [alarm]
    · rw [eq]
      exact same

theorem RunsOn.settle (runs : s.RunsOn t a final) : s.RunsOn (u.settle t) a final := by
  obtain ⟨cases, m2⟩ := runs
  refine ⟨?_, ?_⟩
  · simp only [settle_frame]
    exact cases.imp_right fun ⟨alarm, taken⟩ => ⟨alarm, taken.settle⟩
  · simp only [settle_frame]
    exact m2.imp_right BoardStarted.settle

theorem WorkResumes.of_bookkeep (alarm : u.alarm = { a with run := final }) (work : u.work = s.work) (tape : u.tape = s.tape)
    (reader : u.reader = s.reader) : s.WorkResumes u.bookkeep a final := by
  refine ⟨?_, fun ready board lets => ?_, fun e b due => ?_⟩
  · by_cases can : u.CanStart
    · exact .inr (.inl can.bookkeep)
    · by_cases due : ∃ e b, u.HoldDue e b
      · obtain ⟨e, b, due⟩ := due
        have held := due.2.1
        rw [work] at held
        rw [held]
        exact .inr (.inr due.bookkeep)
      · rw [bookkeep_of_neither can (by simpa using due)]
        exact .inl (by simpa using work)
  · have can : u.CanStart := by
      unfold CanStart State.TapeLetsStart
      rw [work, tape]
      exact ⟨ready, board, lets⟩
    exact can.bookkeep
  · have held : u.HoldDue e b := due.of_beside tape work reader (by
      have may := due.2.2.2.2.2.2.2.2.2.2.2
      unfold State.MayStart at *
      rw [alarm]
      exact may)
    exact held.bookkeep

theorem WorkResumes.endIfQuiet (resumes : s.WorkResumes t a final) : s.WorkResumes t.endIfQuiet a final := by
  obtain ⟨work, starts, holds⟩ := resumes
  exact ⟨work.imp (fun same => by simpa using same) (Or.imp BoardStarted.endIfQuiet HoldTaken.endIfQuiet),
    fun ready board lets => (starts ready board lets).endIfQuiet, fun e b due => (holds e b due).endIfQuiet⟩

theorem WorkResumes.settle (resumes : s.WorkResumes t a final) : s.WorkResumes (u.settle t) a final := by
  obtain ⟨work, starts, holds⟩ := resumes
  exact ⟨work.imp (fun same => by simpa using same) (Or.imp BoardStarted.settle HoldTaken.settle),
    fun ready board lets => (starts ready board lets).settle, fun e b due => (holds e b due).settle⟩

end State
end Sys2Proof.Machine
end

section
/-!
# Work entered, told in full (R96, R108, R117, R118, R142, R148)
-/
namespace Sys2Proof.Machine

namespace State
variable {s t u : State} {a : Alarm} {r final : RunState} {top : Bool} {Q : Board → Prop} {k : OpKind}

theorem KeepsBut.trans_of_head {ps : List Part} (head : .head ∈ ps) (first : s.KeepsBut t ps) (second : t.KeepsBut u ps) :
    s.KeepsBut u ps := by
  obtain ⟨hp, hn, hh, hl, hr, hv, ht, hb, -, hw, htr, ha, hk⟩ := first
  obtain ⟨kp, kn, kh, kl, kr, kv, kt, kb, -, kw, ktr, ka, kk⟩ := second
  have either {A : Type} {p : Part} {x y z : A} (h : p ∈ ps ∨ y = x) (k : p ∈ ps ∨ z = y) : p ∈ ps ∨ z = x :=
    h.elim .inl fun h => k.imp_right fun k => k.trans h
  exact ⟨kp.trans hp, kn.trans hn, kh.trans hh, either hl kl, either hr kr, either hv kv, either ht kt, either hb kb, .inl head,
    either hw kw, either htr ktr, either ha ka, either hk kk⟩

theorem Restarted.of_beside (restarted : s.Restarted t k) (bwk : s.lines.bwk = u.lines.bwk)
    (clamped : s.lines.clamped = u.lines.clamped) (bout : s.lines.bout = u.lines.bout) (hdr : s.hdr = u.hdr)
    (work : s.work = u.work) (reader : s.reader = u.reader) (table : s.table = u.table)
    (lets : s.TapeLetsStart ↔ u.TapeLetsStart) : u.Restarted t k := by
  unfold State.Restarted State.ClampCloses State.ReadyOrStarted State.OutDriving State.options State.header at *
  rw [bwk, clamped, bout, hdr, work, reader, table, lets] at restarted
  exact restarted

/-- A restart as it stands after what the end of the command does. -/
theorem Restarted.of_work (restarted : s.Restarted t k) (work : u.work = t.work) (table : u.table = t.table)
    (same : t.SameOldest u) (m2 : u.alarm.m2.value = t.alarm.m2.value)
    (last : t.head.lastCycle = none → u.head.lastCycle = none) : s.Restarted u k := by
  obtain ⟨conveyorIn, clamp, unclamp, conveyorOut⟩ := restarted
  have out (driving : s.OutDriving t) : s.OutDriving u := driving.of_work work
  refine ⟨fun is => by rw [work]; exact conveyorIn is, fun is => ⟨by rw [work]; exact (clamp is).1, fun high =>
    ((clamp is).2 high).of_beside work table same m2 last⟩, fun is => ⟨by rw [work]; exact (unclamp is).1, fun low => ?_⟩,
    fun is => ?_⟩
  · obtain ⟨on, held, drives, gone⟩ := (unclamp is).2 low
    rw [work]
    exact ⟨on, held, fun waits => out (drives waits), gone⟩
  · obtain ⟨drives, gone⟩ := conveyorOut is
    rw [work]
    exact ⟨fun waits => ⟨out (drives waits).1, (drives waits).2⟩, gone⟩

theorem Restarted.endIfQuiet (restarted : s.Restarted t k) : s.Restarted t.endIfQuiet k :=
  restarted.of_work (by simp) (by simp) (.of_tape (by simp)) (by rw [endIfQuiet_alarm]) (by simp)

theorem Restarted.settle (restarted : s.Restarted t k) : s.Restarted (u.settle t) k :=
  restarted.of_work (by simp) (by simp) (.of_tape (by simp)) (by simp) (by simp)

/-- The holds that a board at the work position has, and those of a board that a conveyor in brings. -/
theorem boards_of_fits (fits : s.WorkFits) : s.BoardsAre (fun b => b.holds = (s.work.board.map Board.holds).getD 0) ∧
    (s.work.op = some (.conveyorIn, .stalled) → ∀ b : Board, b.holds = 0 → b.holds = (s.work.board.map Board.holds).getD 0) := by
  obtain ⟨board, entering, -, -⟩ := fits
  refine ⟨fun b held => by simp [held], fun op b fresh => ?_⟩
  have state := entering.2 ⟨_, op⟩
  have none : s.work.board = none := by
    rw [← Option.not_isSome_iff_eq_none, board, state]
    simp
  simp [none, fresh]

variable (made : s.EntryMade t top a final) (lasts : Lasts a final)
include made

theorem EntryMade.frame : t.work = s.work ∧ t.tape = s.tape ∧ t.table = s.table ∧ t.reader = s.reader ∧ t.lines = s.lines ∧
    t.hdr = s.hdr := by
  obtain ⟨⟨-, -, hdr, lines, reader, -, tape, table, -, work, -⟩, -⟩ := made
  exact ⟨work.resolve_left (by simp), tape.resolve_left (by simp), table.resolve_left (by simp),
    reader.resolve_left (by simp), lines.resolve_left (by simp), hdr⟩

theorem EntryMade.mayStart : t.MayStart ↔ State.MayStart { s with alarm := { a with run := final } } := by
  unfold State.MayStart
  rw [made.2.1]

include lasts

/-- The entry to RUNNING or STEPPING, with all that it brings about, where no entry is removed. -/
theorem EntryMade.enters (works : final = .running ∨ final = .stepping ∨ final = .holding) :
    s.Enters (u.settle t.restartOp.bookkeep.endIfQuiet) top a final := by
  obtain ⟨work, tape, table, reader, lines, hdr⟩ := made.frame
  obtain ⟨kept, alarm, head, gone⟩ := id made
  have books : Books [.lines, .tape, .head, .work, .alarm] := by simp [Books]
  obtain ⟨v, worked, booked⟩ := restartOp_bookkeep_any t
  have workedHead : v.head = t.head := worked.frame.2.2.2.2.2.2.2.1
  have idle (none : (∀ k, s.work.op ≠ some (k, .stalled)) ∨ final = .holding) : t.restartOp = t := by
    rcases none with none | holding
    · exact restartOp_of_none (by rw [work]; exact none)
    · refine restartOp_of_not_may fun may => ?_
      rcases made.mayStart.1 may with h | ⟨h, -⟩ <;> simp [holding] at h
  refine ⟨?_, fun holding => ?_, fun none => ?_, fun empty none => ?_, fun k stalled fits working => ?_⟩
  · have headKept : t.HeadKept t.restartOp.bookkeep := by
      rw [booked]
      exact (HeadKept.of_head workedHead).trans (bookkeep_headKept v)
    simp only [settle_frame, endIfQuiet_head]
    rw [headKept, head]
  · simp only [settle_frame, endIfQuiet_head]
    rw [booked]
    exact bookkeep_lastCycle (by rw [workedHead]; exact gone holding)
  · rw [idle none]
    refine ⟨keepsBut_settle ?_, ((WorkResumes.of_bookkeep alarm work tape reader).endIfQuiet).settle,
      ((RunsOn.of_bookkeep alarm ?_).endIfQuiet lasts).settle⟩
    · exact (kept.mono (by simp)).trans_of_head (by simp)
        (((bookkeep_only t books).trans (endIfQuiet_only _ (by simp))).keepsBut)
    · intro b held
      rw [work] at held
      simp [held]
  · have still : t.restartOp = t := idle (.inl (by simp [none]))
    have state : t.work.state = .empty := by rw [work]; exact empty
    have lastsOn : t.endIfQuiet = t := endIfQuiet_of_lasts (by rw [alarm]; exact lasts.1) (by rw [alarm]; exact lasts.2)
    have booked : t.bookkeep = t.decideOldest := bookkeep_of_idle (by simp [state]) (by simp [state])
    have ends : t.decideOldest.endIfQuiet = t.decideOldest :=
      endIfQuiet_of_lasts (by simp [alarm, lasts.1]) (by simpa [alarm] using lasts.2)
    rw [still, booked, ends]
    simp [alarm, work]
  · have stalledT : t.work.op = some (k, .stalled) := by rw [work]; exact stalled
    have may : t.MayStart := made.mayStart.2 (by
      rcases works with is | is | is
      · exact .inl is
      · exact .inr ⟨is, lasts.2 is⟩
      · exact absurd is working)
    have fitsT : t.WorkFits := by
      unfold State.WorkFits
      rw [work]
      exact fits
    obtain ⟨boards, fresh⟩ := boards_of_fits fitsT
    refine ⟨?_, ?_⟩
    · have restarted := Restarted.of_startOp fitsT stalledT may
      rw [restartOp_of_stalled stalledT may]
      refine (restarted.of_beside (by rw [lines]) (by rw [lines]) (by rw [lines]) hdr work reader table ?_).endIfQuiet.settle
      unfold State.TapeLetsStart
      rw [tape]
    · obtain ⟨w, workedW, bookedW⟩ := restartOp_bookkeep boards fresh
      have alarmW : w.alarm = t.alarm := workedW.frame.2.2.2.2.2.2.2.2.1
      rw [bookedW]
      refine ((RunsOn.of_bookkeep (alarmW.trans alarm) ?_).endIfQuiet lasts).settle
      rw [← work]
      exact workedW.2

end State
end Sys2Proof.Machine
end

section
/-!
# A recovery return that removes its entry (R97, R119)
-/
namespace Sys2Proof.Machine

namespace State
variable {s t u : State} {a : Alarm} {r final : RunState} {e : Entry} {k : OpKind}

/-! ## What the return leaves -/

theorem FeedFollows.of_source (follows : s.FeedFollows t) (hdr : s.hdr = u.hdr) (now : s.now = u.now)
    (timer : s.tape.timer = u.tape.timer) (startedAt : s.tape.startedAt = u.tape.startedAt) : u.FeedFollows t := by
  unfold State.FeedFollows State.header at *
  rw [hdr, now, timer, startedAt] at follows
  exact follows

theorem SameOldest.trans (first : s.SameOldest t) (second : t.SameOldest u) : s.SameOldest u :=
  ⟨second.1.trans first.1, second.2.trans first.2⟩

theorem bookkeep_sameOldest (s : State) : s.SameOldest s.bookkeep :=
  ⟨headRecord_of_held (bookkeep_held s), by rw [bookkeep_tape]⟩

theorem SameOldest.lets (same : s.SameOldest t) (lets : s.TapeLetsStart) : t.TapeLetsStart := by
  obtain ⟨e, head, first, flush⟩ := lets
  obtain ⟨e', head', record⟩ := same.head head
  exact ⟨e', head', record ▸ first, same.2.trans flush⟩

theorem SameOldest.symm (same : s.SameOldest t) : t.SameOldest s := ⟨same.1.symm, same.2.symm⟩

theorem SameOldest.lets_iff (same : s.SameOldest t) : s.TapeLetsStart ↔ t.TapeLetsStart := ⟨same.lets, same.symm.lets⟩

/-- An operation stands neither with a READY nor with a WORKING board (R105). -/
theorem WorkFits.idle (fits : s.WorkFits) {c : OpCondition} (op : s.work.op = some (k, c)) :
    s.work.state ≠ .ready ∧ s.work.state ≠ .working := by
  obtain ⟨-, entering, clamping, releasing⟩ := fits
  cases k with
  | conveyorIn => simp [entering.2 ⟨_, op⟩]
  | clamp => simp [clamping.2 ⟨_, op⟩]
  | unclamp => simp [releasing.2 ⟨_, .inl op⟩]
  | conveyorOut => simp [releasing.2 ⟨_, .inr op⟩]

theorem outcomeTaken_of_idle (idle : s.work.state ≠ .working) (e : Entry) (o : Option StepOutcome) :
    s.outcomeTaken e o = s := by
  cases o with
  | none => rfl
  | some o => exact takeOutcome_of_other (fun _ _ h => idle h.1) o

theorem followOn_of_idle (notReady : s.work.state ≠ .ready) (notWorking : s.work.state ≠ .working) :
    s.followOn.work = s.work ∧ s.followOn.alarm = s.alarm := by
  have booked := bookkeep_of_idle (s := s.checkFlush) (by simpa using notReady) (by simpa using notWorking)
  unfold State.followOn
  rw [booked]
  simp

theorem takeOutcome_op (s : State) (lap : Lap) (n : Nat) (o : StepOutcome) :
    (s.takeOutcome lap n o).work.op = s.work.op := by
  cases working : s.workingBoard with
  | none => unfold State.takeOutcome; rw [working]
  | some b =>
    rw [takeOutcome_of_working working]
    split
    · split
      · simp
      · simp
    · rfl

variable (head : s.tape.queue.head? = some e) (attempted : e.attempted = true)
include head attempted

theorem returnDone_quiet : s.returnDone.BooksQuiet := by
  rw [returnDone_of_attempted head attempted]
  exact followOn_quiet _

theorem returnDone_op : s.returnDone.work.op = s.work.op := by
  rw [returnDone_of_attempted head attempted]
  have followed (v : State) : v.followOn.work.op = v.work.op := by
    have booked : v.followOn.work = v.checkFlush.bookkeep.work := by simp [State.followOn]
    rw [booked, bookkeep_work]
    simp
  rw [followed]
  simp only [useStep_frame]
  unfold outcomeTaken
  cases jamOutcome e with
  | none => rfl
  | some o => exact takeOutcome_op _ _ _ o

/-- With neither a READY nor a WORKING board the return leaves the work position alone, and outside STEPPING the alarm
unit too. -/
theorem returnDone_of_idle (notReady : s.work.state ≠ .ready) (notWorking : s.work.state ≠ .working) :
    s.returnDone.work = s.work ∧ (s.alarm.run ≠ .stepping → s.returnDone.alarm = s.alarm) := by
  rw [returnDone_of_attempted head attempted, outcomeTaken_of_idle (by exact notWorking)]
  obtain ⟨work, alarm⟩ := followOn_of_idle (s := s.headUp.removeOldest.useStep)
    (by simpa [headUp, State.removeOldest] using notReady) (by simpa [headUp, State.removeOldest] using notWorking)
  refine ⟨by rw [work]; simp [headUp, State.removeOldest], fun not => ?_⟩
  rw [alarm, useStep_alarm, if_neg (by exact not)]
  rfl

theorem returnDone_run : s.returnDone.alarm.run = s.alarm.run ∨ s.returnDone.alarm.run = .alarm ∨
    s.returnDone.alarm.rowHold = true ∧
      (s.returnDone.alarm.run = .stopping ∨ s.returnDone.alarm.run = .stopped) ∧ s.MayStart := by
  have taken := outcomeTaken_run s.headUp.removeOldest e (jamOutcome e)
  rw [returnDone_of_attempted head attempted]
  rcases followOn_run (s.headUp.removeOldest.outcomeTaken e (jamOutcome e)).useStep with same | ⟨may, hold, run⟩
  · rw [same, useStep_run]
    exact taken.imp_right .inl
  · refine .inr (.inr ⟨hold, run, ?_⟩)
    unfold State.MayStart at *
    rw [useStep_run, useStep_alarm] at may
    dsimp only at may
    rcases taken with ran | stop
    · rw [ran, outcomeTaken_stepUsed] at may
      rcases may with running | ⟨stepping, used⟩
      · exact .inl running
      · rw [if_pos stepping] at used
        cases used
    · simp [stop] at may

/-- In STEPPING the execution is used, or M2's stop alarm has ended it. -/
theorem returnDone_used (stepping : s.alarm.run = .stepping) :
    s.returnDone.alarm.stepUsed = true ∨ s.returnDone.alarm.run = .alarm := by
  rcases outcomeTaken_run s.headUp.removeOldest e (jamOutcome e) with same | stop
  · left
    obtain ⟨v, taken, alarm, -⟩ := returnDone_alarm head attempted
    subst taken
    rw [alarm, useStep_alarm]
    exact if_pos (same.trans stepping)
  · right
    rw [returnDone_of_attempted head attempted]
    rcases followOn_run (s.headUp.removeOldest.outcomeTaken e (jamOutcome e)).useStep with same | ⟨may, -⟩
    · rw [same, useStep_run, stop]
    · rw [State.MayStart, useStep_run, stop] at may
      simp at may

/-- In STEPPING no more work starts once the return has ended. -/
theorem returnDone_not_may (stepping : s.alarm.run = .stepping) : ¬s.returnDone.MayStart := by
  intro may
  have notRunning : s.returnDone.alarm.run ≠ .running := by
    rcases returnDone_run head attempted with same | stop | ⟨-, stops | stopped, -⟩
    · simp [same, stepping]
    · simp [stop]
    · simp [stops]
    · simp [stopped]
  obtain ⟨still, unused⟩ := may.resolve_left notRunning
  rcases returnDone_used head attempted stepping with used | stop
  · simp [used] at unused
  · simp [stop] at still

omit head attempted

/-! ## The return within the entry to RUNNING or STEPPING -/

/-- The station with its head on the way up, as a recovery return begins (R96). -/
def returning (s : State) : State := s.modHead fun h =>
  { h with phase := .returning, drive := .up, clinchOn := false, timer := some s.header.upTimeout }

theorem recoveryReturn_of_top (halted : s.head.phase = .halted) (top : s.lines.top = true) :
    s.recoveryReturn = s.returning.returnDone := by
  unfold State.recoveryReturn
  rw [if_pos halted]
  exact if_pos top

/-- The head as a return leaves it, after the work that is taken up. -/
theorem resumed_head (at_ : s.head.phase = .top ∧ s.head.drive = .off ∧ s.head.timer = none) :
    (u.settle s.restartOp.bookkeep.endIfQuiet).head.phase = .top ∧ (u.settle s.restartOp.bookkeep.endIfQuiet).head.drive = .off ∧
      (u.settle s.restartOp.bookkeep.endIfQuiet).head.timer = none := by
  obtain ⟨v, worked, booked⟩ := restartOp_bookkeep_any s
  have kept : s.HeadKept s.restartOp.bookkeep := by
    rw [booked]
    exact (HeadKept.of_head worked.frame.2.2.2.2.2.2.2.1).trans (bookkeep_headKept v)
  simp only [settle_frame, endIfQuiet_head]
  rw [kept]
  exact at_

/-- The entries and the oldest record after the work that is taken up. -/
theorem resumed_tape (s : State) : s.restartOp.bookkeep.tape.queue.map Entry.held = s.tape.queue.map Entry.held ∧
    s.SameOldest s.restartOp.bookkeep := by
  obtain ⟨v, worked, booked⟩ := restartOp_bookkeep_any s
  have tape : v.tape = s.tape := worked.frame.2.2.2.2.2.2.1
  rw [booked]
  exact ⟨by rw [bookkeep_held, tape], (SameOldest.of_tape tape).trans (bookkeep_sameOldest v)⟩

/-- Work taken up ends in the run state that it found, or in that of a row hold. -/
theorem resumed_run (s : State) : s.restartOp.bookkeep.alarm.run = s.alarm.run ∨
    s.restartOp.bookkeep.alarm.rowHold = true ∧
      (s.restartOp.bookkeep.alarm.run = .stopping ∨ s.restartOp.bookkeep.alarm.run = .stopped) := by
  obtain ⟨v, worked, booked⟩ := restartOp_bookkeep_any s
  have alarm : v.alarm = s.alarm := worked.frame.2.2.2.2.2.2.2.2.1
  rw [booked, ← alarm]
  exact (bookkeep_run v).imp_right And.right

end State
end Sys2Proof.Machine
end

section
/-!
# STOP and the stop line (R146, R148), by the entry to RUNNING
-/
namespace Sys2Proof.Machine

namespace State
variable {s t u : State} {a : Alarm} {r final : RunState} {e : Entry} {k : OpKind}

theorem finalRun_cases (s : State) (works : r = .running ∨ r = .stepping) :
    s.finalRun r = .running ∨ s.finalRun r = .stepping ∨ s.finalRun r = .holding := by
  unfold finalRun
  split
  · exact .inr (.inr rfl)
  · exact works.imp_right .inl

theorem finalRun_stepping (stepping : s.finalRun r = .stepping) : r = .stepping := by
  unfold finalRun at stepping
  split at stepping
  · cases stepping
  · exact stepping

theorem finalRun_lasts (works : r = .running ∨ r = .stepping) (unused : r = .stepping → s.alarm.stepUsed = false) :
    Lasts s.alarm (s.finalRun r) := by
  refine ⟨?_, fun stepping => unused (finalRun_stepping stepping)⟩
  rcases finalRun_cases s works with h | h | h <;> simp [h]

/-- The entry to RUNNING or STEPPING where no entry is removed. -/
theorem enterWork_enters (notRunning : s.alarm.run ≠ .running) (works : r = .running ∨ r = .stepping)
    (unused : r = .stepping → s.alarm.stepUsed = false) (none : s.NoneRemoved s.lines.top [.halted]) :
    s.Enters (u.settle (s.enterWork r)) s.lines.top s.alarm (s.finalRun r) :=
  (EntryMade.of_entered notRunning works none).enters (finalRun_lasts works unused) (finalRun_cases s works)

/-- What an entry brings about reads of the lines only the sensors of the operations. -/
theorem Enters.of_source {l : Lines} {al : Alarm} {top : Bool}
    (enters : State.Enters { s with lines := l, alarm := al } t top a final) (bwk : l.bwk = s.lines.bwk)
    (clamped : l.clamped = s.lines.clamped) (bout : l.bout = s.lines.bout) : s.Enters t top a final := by
  obtain ⟨head, gone, resumes, empty, restarts⟩ := enters
  refine ⟨head, gone, fun none => ?_, empty, fun k stalled fits works => ?_⟩
  · obtain ⟨kept, rest⟩ := resumes none
    refine ⟨?_, rest⟩
    unfold State.KeepsBut at *
    simpa using kept
  · obtain ⟨restarted, runs⟩ := restarts k stalled fits works
    exact ⟨restarted.of_beside bwk clamped bout rfl rfl rfl rfl Iff.rfl, runs⟩

/-- The station as its return begins within the entry. -/
def enteredUp (s : State) (r : RunState) : State := (s.entered r).returning

theorem enterWork_of_top (notRunning : s.alarm.run ≠ .running) (halted : s.head.phase = .halted) (top : s.lines.top = true) :
    s.enterWork r = (s.enteredUp r).returnDone.restartOp.bookkeep.endIfQuiet := by
  have kept := (entered_head notRunning r).1
  have phase : (s.entered r).head.phase = .halted := by rw [kept]; exact halted
  have returned := recoveryReturn_of_top phase (by simpa [entered] using top)
  unfold State.enterWork enteredUp
  rw [← returned]
  rfl

theorem enteredUp_frame (s : State) (r : RunState) : (s.enteredUp r).work = s.work ∧ (s.enteredUp r).tape = s.tape ∧
    (s.enteredUp r).table = s.table ∧ (s.enteredUp r).reader = s.reader ∧ (s.enteredUp r).lines = s.lines ∧
    (s.enteredUp r).hdr = s.hdr ∧ (s.enteredUp r).now = s.now := by
  simp [enteredUp, returning, entered]

theorem enteredUp_alarm (works : r = .running ∨ r = .stepping) :
    (s.enteredUp r).alarm = { s.alarm with run := s.finalRun r } := entered_alarm works

theorem returnDone_table (s : State) : s.returnDone.table = s.table := by
  obtain ⟨-, -, -, -, -, -, -, table, -⟩ := (returnDone_only s (ps := [.tape, .head, .work, .alarm]) (by simp [Books])).keepsBut
  exact table.resolve_left (by simp)

theorem returnDone_sources (s : State) : s.returnDone.lines = s.lines ∧ s.returnDone.hdr = s.hdr ∧
    s.returnDone.reader = s.reader := by
  obtain ⟨-, -, hdr, lines, reader, -⟩ := (returnDone_only s (ps := [.tape, .head, .work, .alarm]) (by simp [Books])).keepsBut
  exact ⟨lines.resolve_left (by simp), hdr, reader.resolve_left (by simp)⟩

/-- A STALLED operation restarts after a return that has left run state and work position alone. -/
theorem Restarted.of_returned (head : s.tape.queue.head? = some e) (attempted : e.attempted = true) (fits : s.WorkFits)
    (stalled : s.work.op = some (k, .stalled)) (running : s.alarm.run = .running) :
    State.Restarted { s with tape := (u.settle s.returnDone.restartOp.bookkeep.endIfQuiet).tape }
      (u.settle s.returnDone.restartOp.bookkeep.endIfQuiet) k := by
  obtain ⟨notReady, notWorking⟩ := fits.idle stalled
  obtain ⟨work, alarm⟩ := returnDone_of_idle head attempted notReady notWorking
  obtain ⟨lines, hdr, reader⟩ := returnDone_sources s
  have may : s.returnDone.MayStart := by
    rw [State.MayStart, alarm (by simp [running])]
    exact .inl running
  have stalledT : s.returnDone.work.op = some (k, .stalled) := by rw [work]; exact stalled
  have fitsT : s.returnDone.WorkFits := by
    unfold State.WorkFits
    rw [work]
    exact fits
  have restarted := Restarted.of_startOp fitsT stalledT may
  have lets := (resumed_tape s.returnDone).2
  rw [restartOp_of_stalled stalledT may] at lets ⊢
  have same : s.returnDone.SameOldest (u.settle (s.returnDone.startOp k).bookkeep.endIfQuiet) :=
    lets.trans (.of_tape (by simp))
  have beside : State.Restarted { s with tape := (u.settle (s.returnDone.startOp k).bookkeep.endIfQuiet).tape }
      (s.returnDone.startOp k).bookkeep k :=
    restarted.of_beside (by rw [lines]) (by rw [lines]) (by rw [lines]) hdr work reader (returnDone_table s) same.lets_iff
  exact beside.endIfQuiet.settle

/-- The run state at the end of an event at which work was entered: the one entered, ALARM, that of a row hold, or STOPPED
after a used STEP. -/
theorem endIfQuiet_outcome {uses : Prop} (cases : s.alarm.run = final ∨ s.alarm.run = .alarm ∨
      s.alarm.rowHold = true ∧ (s.alarm.run = .stopping ∨ s.alarm.run = .stopped))
    (notStopping : final ≠ .stopping) (steps : final = .stepping → s.alarm.stepUsed = true → uses) :
    s.endIfQuiet.alarm.run = final ∨ s.endIfQuiet.alarm.run = .alarm ∨
      s.endIfQuiet.alarm.rowHold = true ∧ (s.endIfQuiet.alarm.run = .stopping ∨ s.endIfQuiet.alarm.run = .stopped) ∨
      uses ∧ s.endIfQuiet.alarm.stepUsed = true ∧ s.endIfQuiet.alarm.run = .stopped := by
  have hold : s.endIfQuiet.alarm.rowHold = s.alarm.rowHold := by rw [endIfQuiet_alarm]
  have used : s.endIfQuiet.alarm.stepUsed = s.alarm.stepUsed := by rw [endIfQuiet_alarm]
  rw [hold, used]
  rcases endIfQuiet_run s with same | ⟨stopped, ran⟩
  · rw [same]
    exact cases.imp_right (.imp_right .inl)
  · rw [stopped]
    rcases cases with run | stop | ⟨held, -⟩
    · rcases ran with stopping | ⟨stepping, isUsed⟩
      · exact absurd (run.symm.trans stopping) notStopping
      · exact .inr (.inr (.inr ⟨steps (run.symm.trans stepping) isUsed, isUsed, rfl⟩))
    · rcases ran with stopping | ⟨stepping, -⟩
      · simp [stop] at stopping
      · simp [stop] at stepping
    · exact .inr (.inr (.inl ⟨held, .inr rfl⟩))

/-- The run state once a return has ended and work is taken up. -/
theorem returned_run (head : s.tape.queue.head? = some e) (attempted : e.attempted = true) :
    s.returnDone.restartOp.bookkeep.alarm.run = s.alarm.run ∨ s.returnDone.restartOp.bookkeep.alarm.run = .alarm ∨
      s.returnDone.restartOp.bookkeep.alarm.rowHold = true ∧ (s.returnDone.restartOp.bookkeep.alarm.run = .stopping ∨
        s.returnDone.restartOp.bookkeep.alarm.run = .stopped) := by
  by_cases may : s.returnDone.MayStart
  · rcases resumed_run s.returnDone with same | held
    · rw [same]
      exact (returnDone_run head attempted).imp_right (.imp_right fun ⟨held, run, _⟩ => by
        rcases run with h | h <;> simp [State.MayStart, h] at may)
    · exact .inr (.inr held)
  · rw [restartOp_of_not_may may, bookkeep_of_quiet (returnDone_quiet head attempted)]
    exact (returnDone_run head attempted).imp_right (.imp_right fun ⟨held, run, _⟩ => ⟨held, run⟩)

/-- The entry to RUNNING or STEPPING with a HALTED head and TOP active: the return ends within it (R96, R97). -/
theorem enterWork_returnEnds (notRunning : s.alarm.run ≠ .running) (works : r = .running ∨ r = .stepping)
    (halted : s.head.phase = .halted) (top : s.lines.top = true) :
    s.ReturnEnds (u.settle (s.enterWork r)) { s.alarm with run := s.finalRun r } (r = .stepping) := by
  obtain ⟨work, tape, table, reader, lines, hdr, now⟩ := enteredUp_frame s r
  have alarm := enteredUp_alarm (s := s) works
  have run : (s.enteredUp r).alarm.run = s.finalRun r := by rw [alarm]
  rw [enterWork_of_top notRunning halted top]
  obtain ⟨phase, drive, timer⟩ := resumed_head (u := u) (returnDone_head (s.enteredUp r))
  refine ⟨phase, drive, timer, fun e head attempted => ?_⟩
  rw [← tape] at head
  have quiet := returnDone_quiet head attempted
  have still (none : (s.enteredUp r).returnDone.restartOp = (s.enteredUp r).returnDone) :
      (s.enteredUp r).returnDone.restartOp.bookkeep = (s.enteredUp r).returnDone := by
    rw [none, bookkeep_of_quiet quiet]
  refine ⟨?_, fun none => ?_, fun k stalled fits runs => ?_, fun stepping => ?_, ?_⟩
  · simp only [settle_frame, endIfQuiet_frame]
    rw [(resumed_tape _).1, returnDone_held head attempted, tape]
  · have op : ∀ k, (s.enteredUp r).returnDone.work.op ≠ some (k, .stalled) := by
      rw [returnDone_op head attempted, work]
      exact none
    rw [still (restartOp_of_none op)]
    have counts := returnDone_counts head attempted
    refine ⟨(counts.of_beside work reader hdr).boardKept (.of_work (by simp)), fun _ free => ?_⟩
    have follows := returnDone_feedFollows head attempted (by rw [tape]; exact free)
    exact (follows.of_source hdr now (by rw [tape]) (by rw [tape])).endIfQuiet.settle
  · have running : (s.enteredUp r).alarm.run = .running := by
      rw [run]
      exact runs.resolve_right fun h => h.2 (finalRun_stepping h.1)
    have fitsT : (s.enteredUp r).WorkFits := by
      unfold State.WorkFits
      rw [work]
      exact fits
    have restarted := Restarted.of_returned (u := u) head attempted fitsT (by rw [work]; exact stalled) running
    exact restarted.of_beside (by rw [← lines]) (by rw [← lines]) (by rw [← lines]) hdr work reader table Iff.rfl
  · have stepRun : (s.enteredUp r).alarm.run = .stepping := by rw [run]; simp [finalRun, stepping]
    have notMay := returnDone_not_may head attempted stepRun
    rw [still (restartOp_of_not_may notMay), returnDone_of_attempted head attempted]
    simp only [settle_frame]
    exact useStep_used ((outcomeTaken_run _ _ _).imp_left fun same => same.trans stepRun)
  · have cases := returned_run head attempted
    rw [run] at cases
    simp only [settle_frame]
    exact endIfQuiet_outcome cases (by rcases finalRun_cases s works with h | h | h <;> simp [h])
      fun stepping _ => finalRun_stepping stepping

/-- With nothing at the work position and the head not HALTED an entry only lets the oldest entry be decided. -/
theorem enterWork_of_nothing (empty : s.work.state = .empty) (none : s.work.op = none) (notHalted : s.head.phase ≠ .halted)
    (works : r = .running ∨ r = .stepping) (unused : r = .stepping → s.alarm.stepUsed = false)
    (clear : s.lines.stopline = false) : s.enterWork r = (s.setRun r).decideOldest := by
  have run : (s.setRun r).alarm.run = r := setRun_run s r
  have final : s.entered r = s.setRun r := by
    refine if_neg fun asserted => ?_
    have own : (s.setRun r).drivesStopline = false := by rcases works with rfl | rfl <;> simp [State.drivesStopline]
    simp [State.stoplineReads, own, clear] at asserted
  have phase : (s.setRun r).head.phase ≠ .halted := by
    rw [setRun_head]
    unfold State.headAfter
    split <;> exact notHalted
  have up : (s.setRun r).recoveryReturn = s.setRun r := if_neg phase
  have restarts : (s.setRun r).restartOp = s.setRun r := restartOp_of_none (by simp [none])
  have booked : (s.setRun r).bookkeep = (s.setRun r).decideOldest := bookkeep_of_idle (by simp [empty]) (by simp [empty])
  have eq : s.enterWork r = ((s.entered r).recoveryReturn.restartOp.bookkeep).endIfQuiet := rfl
  rw [eq, final, up, restarts, booked]
  refine endIfQuiet_of_lasts ?_ fun stepping => ?_
  · simp only [decideOldest_frame, run]
    rcases works with h | h <;> simp [h]
  · simp only [decideOldest_frame] at stepping ⊢
    rw [setRun_alarm]
    exact unused (run.symm.trans stepping)

/-- What a STOP that acts makes of the alarm unit (R144, R146). -/
theorem pressStop_alarm (s : State) : s.pressStop.alarm = { s.alarm with
    rowHold := false, homingTarget := none, run := if s.inFlight then .stopping else .stopped } := by
  have run : ((s.modAlarm fun a => { a with homingTarget := none, rowHold := false }).setRun .stopping).alarm.run = .stopping :=
    setRun_run _ _
  unfold State.pressStop
  rw [endIfQuiet_alarm_of_stopping run, setRun_alarm, setRun_inFlight]
  rfl

theorem pressStop_only (s : State) : s.Only s.pressStop [.alarm] :=
  (Only.modAlarm s _ rfl (by simp)).trans ((setRun_only (by simp) (by simp)).trans (endIfQuiet_only _ (by simp)))

end State

/-- Settles O50: STOP and the asserted line by what they make of the alarm unit, the released line by the entry to
RUNNING. -/
theorem stopsAndHoldsAreTaken : Obligations.StopsAndHoldsAreTaken := by
  intro s
  refine ⟨fun ignored => if_neg ?_, fun acts => ⟨_, if_pos ?_, ?_, ?_⟩, ⟨_, rfl, by simp, ?_, ?_⟩, fun bin => ?released⟩
  · simp only [List.mem_cons, List.not_mem_nil, or_false] at ignored
    rcases ignored with h | h | h | h <;> simp [h, RunState.stops]
  · simp only [List.mem_cons, List.not_mem_nil, or_false] at acts
    rcases acts with h | h | h | h <;> simp [h, RunState.stops]
  · simp only [State.settle_frame]
    exact s.pressStop_alarm
  · exact State.keepsBut_settle s.pressStop_only.keepsBut
  · simp only [State.settle_frame]
    unfold State.followStopline
    by_cases running : s.alarm.run = .running
    · rw [if_pos ⟨running, by simp [State.stoplineReads]⟩, if_pos running, State.setRun_alarm]
      rfl
    · rw [if_neg fun h => running h.1, if_neg running]
      rfl
  · exact State.keepsBut_settle ((State.Only.modLines s _ (by simp)).trans
      (.ite (fun _ => State.setRun_only (by simp) (by simp)) fun _ => .refl _ _)).keepsBut
  case released =>
    by_cases holding : s.alarm.run = .holding
    case neg =>
      exact ⟨_, if_neg holding, by simp, fun _ => State.keepsBut_settle (State.Only.modLines s _ (by simp)).keepsBut,
        fun h => absurd h holding⟩
    have notRunning : s.alarm.run ≠ .running := by simp [holding]
    have final : (s.modLines fun l => { l with stopline := false, bin := bin }).finalRun .running = .running := by
      simp [State.finalRun]
    refine ⟨_, if_pos holding, by simp, fun h => absurd holding h, fun _ => ⟨by simp, by simp, by simp, fun none => ?_,
      fun top halted => ?_, fun empty none notHalted => ?_⟩⟩
    · have enters := State.enterWork_enters (s := s.modLines fun l => { l with stopline := false, bin := bin }) (u := s)
        (r := .running) notRunning (.inl rfl) nofun none
      rw [final] at enters
      exact enters.of_source (al := s.alarm) rfl rfl rfl
    · have ends := State.enterWork_returnEnds (s := s.modLines fun l => { l with stopline := false, bin := bin }) (u := s)
        (r := .running) notRunning (.inl rfl) halted top
      rw [final, show (RunState.running = .stepping) = False by simp] at ends
      exact ends
    · have idle := State.enterWork_of_nothing (s := s.modLines fun l => { l with stopline := false, bin := bin })
        (r := .running) empty none notHalted (.inl rfl) nofun rfl
      have setHead : ((s.modLines fun l => { l with stopline := false, bin := bin }).setRun .running).head = s.head := by
        rw [State.setRun_head]
        exact State.headAfter_of_not_running notRunning
      rw [idle]
      refine ⟨by simp [State.setRun_alarm], State.keepsBut_settle ?_⟩
      simp [State.KeepsBut, setHead, State.headAfter_of_not_running notRunning]

end Sys2Proof.Machine
end

section
/-!
# Homing (R65, R66, R149)
-/
namespace Sys2Proof.Machine

namespace State
variable {s t u : State} {a : Alarm} {r final : RunState} {e : Entry} {k : OpKind}

/-! ## What an entry leaves of the alarm unit and the table -/

/-- No alarm sets a homing target: with none there is none after it (R142, R150). -/
def NoTarget (s : State) : Prop := s.alarm.homingTarget = none

theorem NoTarget.raise (none : s.NoTarget) (r : Raise) : (s.raise r).NoTarget := by
  unfold NoTarget at *
  by_cases off : s.alarm.run = .configFault
  · rw [raise_of_configFault off]
    exact none
  · rw [raise_alarm off, Alarm.take_eq]
    split
    · rfl
    · exact none

theorem NoTarget.evaluate (none : s.NoTarget) (id : MonitorId) (v : Nat) : (s.evaluate id v).NoTarget := by
  have record : (s.counted id v).NoTarget := by
    have same : (s.counted id v).alarm.homingTarget = s.alarm.homingTarget := by simp [counted]
    exact same.trans none
  rcases evaluate_cases s id v with h | h | h | ⟨-, h⟩
  · rw [h]
    exact record
  · rw [h]
    exact record.raise _
  · rw [h]
    exact record
  · rw [h]
    exact none

theorem NoTarget.returnDone (none : s.NoTarget) : s.returnDone.NoTarget := by
  by_cases removes : ∃ e, s.tape.queue.head? = some e ∧ e.attempted = true
  · obtain ⟨e, head, attempted⟩ := removes
    obtain ⟨u, taken, alarm, -⟩ := returnDone_alarm head attempted
    have kept : u.NoTarget := by
      unfold NoTarget
      subst taken
      by_cases misses : ∃ r n, jamOutcome e = some (.missed r) ∧ s.headUp.removeOldest.missesAfter e.record.lap = some n
      · obtain ⟨r, n, miss, misses⟩ := misses
        rw [outcomeTaken_alarm_of_miss miss misses]
        exact NoTarget.evaluate (s := s.headUp.removeOldest) none _ _
      · rw [outcomeTaken_alarm_of_none (not_missed_or misses)]
        exact none
    unfold NoTarget
    rw [alarm, useStep_alarm]
    exact kept
  · rw [returnDone_of_none_attempted fun e head => by simpa using fun h => removes ⟨e, head, h⟩]
    exact none

theorem NoTarget.recoveryReturn (none : s.NoTarget) : s.recoveryReturn.NoTarget := by
  unfold State.recoveryReturn
  split
  · dsimp only
    split
    · exact NoTarget.returnDone (by exact none)
    · exact none
  · exact none

theorem NoTarget.enterWork (none : s.NoTarget) (works : r = .running ∨ r = .stepping) : (s.enterWork r).NoTarget := by
  have entered : (s.entered r).NoTarget := by
    unfold NoTarget
    rw [entered_alarm works]
    exact none
  obtain ⟨v, worked, booked⟩ := restartOp_bookkeep_any (s.entered r).recoveryReturn
  have alarm : v.alarm = (s.entered r).recoveryReturn.alarm := worked.frame.2.2.2.2.2.2.2.2.1
  have eq : s.enterWork r = v.bookkeep.endIfQuiet := congrArg State.endIfQuiet booked
  unfold NoTarget
  rw [eq, endIfQuiet_alarm, bookkeep_alarm]
  dsimp only
  rw [alarm]
  exact entered.recoveryReturn

theorem enterWork_table (s : State) (r : RunState) :
    (s.enterWork r).table = { s.table with markRequest := (s.enterWork r).table.markRequest } := by
  obtain ⟨v, worked, booked⟩ := restartOp_bookkeep_any (s.entered r).recoveryReturn
  have table := worked.frame.2.2.2.2.2.2.2.2.2
  have entered : (s.entered r).recoveryReturn.table = s.table := by
    obtain ⟨-, -, -, -, -, -, -, kept, -⟩ := (recoveryReturn_only (s.entered r) (ps := [.tape, .head, .work, .alarm])
      (by simp [Books])).keepsBut
    rw [kept.resolve_left (by simp)]
    simp [State.entered]
  have eq : (s.enterWork r).table = v.table := by
    have same : s.enterWork r = v.bookkeep.endIfQuiet := congrArg State.endIfQuiet booked
    rw [same]
    simp
  rw [eq, table, entered]

/-- What a return brings about reads of the lines only the sensors of the operations. -/
theorem ReturnEnds.of_source {l : Lines} {al : Alarm} {uses : Prop}
    (ends : State.ReturnEnds { s with lines := l, alarm := al } t a uses) (bwk : l.bwk = s.lines.bwk)
    (clamped : l.clamped = s.lines.clamped) (bout : l.bout = s.lines.bout) : s.ReturnEnds t a uses := by
  obtain ⟨phase, drive, timer, removes⟩ := ends
  refine ⟨phase, drive, timer, fun e head attempted => ?_⟩
  obtain ⟨held, still, restarts, used, run⟩ := removes e head attempted
  exact ⟨held, still, fun k stalled fits runs =>
    (restarts k stalled fits runs).of_beside bwk clamped bout rfl rfl rfl rfl Iff.rfl, used, run⟩

/-- An entry that only lets the oldest entry be decided. -/
theorem KeepsBut.enterIdle {ps : List Part} (kept : s.KeepsBut t ps) (head : t.head = s.head)
    (notRunning : t.alarm.run ≠ .running) (before : s.alarm.run ≠ .running) (tape : .tape ∈ ps) (alarm : .alarm ∈ ps) :
    s.KeepsBut (t.setRun r).decideOldest ps := by
  have setHead : (t.setRun r).head = s.head := by rw [setRun_head, headAfter_of_not_running notRunning, head]
  have same (v : RunState) : s.headAfter v = s.head := headAfter_of_not_running before
  obtain ⟨pending, now, hdr, lines, reader, verifier, -, table, -, work, trav, -, link⟩ := kept
  exact ⟨by simpa using pending, by simpa using now, by simpa using hdr, by simpa using lines, by simpa using reader,
    by simpa using verifier, .inl tape, by simpa using table, .inr (by simp [setHead, same]), by simpa using work,
    by simpa using trav, .inl alarm, by simpa using link⟩

/-! ## The completion of homing -/

/-- The station with its table homed, and the lines as the row has moved them. -/
def homed (s : State) (home : HomeLevels) (bin : Bool) : State :=
  (s.modLines fun l => { l with home := home, bin := bin }).modTable fun t =>
    { t with homingTimer := none, seeking := [], activity := .idle, homed := true, commanded := ⟨0, 0, 0, s.header.spanMin⟩ }

theorem homingReported_of_target (homing : s.alarm.run = .homing) (target : s.alarm.homingTarget = some r) :
    s.homingReported = (s.modAlarm fun a =>
      { a with homingTarget := none, stepUsed := if r = .stepping then false else a.stepUsed }).enterWork r := by
  unfold State.homingReported
  rw [homing, target]

theorem homingReported_of_other (other : s.alarm.run ≠ .homing ∨ s.alarm.homingTarget = none) :
    s.homingReported = s.endIfQuiet := by
  unfold State.homingReported
  split
  next homing target => rcases other with h | h <;> simp_all
  next => rfl

theorem Homes.of_homed (s : State) (home : HomeLevels) (bin : Bool) :
    s.Homes (u.settle (s.homed home bin).homingReported) := by
  have table : (s.homed home bin).homingReported.table =
      { (s.homed home bin).table with markRequest := (s.homed home bin).homingReported.table.markRequest } := by
    by_cases target : ∃ r, s.alarm.run = .homing ∧ s.alarm.homingTarget = some r
    · obtain ⟨r, homing, target⟩ := target
      rw [homingReported_of_target (s := s.homed home bin) homing target]
      exact enterWork_table _ r
    · rw [homingReported_of_other (s := s.homed home bin) (by
        by_cases homing : s.alarm.run = .homing
        · exact .inr (Option.eq_none_iff_forall_ne_some.2 fun r h => target ⟨r, homing, h⟩)
        · exact .inl homing)]
      simp
  have sameTable : (u.settle (s.homed home bin).homingReported).table = { s.table with
      homingTimer := none, seeking := [], activity := .idle, homed := true, commanded := ⟨0, 0, 0, s.header.spanMin⟩,
      markRequest := (u.settle (s.homed home bin).homingReported).table.markRequest } := by
    simp only [settle_frame]
    exact table
  refine ⟨sameTable, by simp [homed], by simp [homed], by simp [homed], by simp [homed], by simp [homed], fun other => ?_,
    fun r homing target works => ?_⟩
  · rw [homingReported_of_other (s := s.homed home bin) (.inl other)]
    exact keepsBut_settle ((Only.modLines s _ (by simp)).trans ((Only.modTable _ _ (by simp)).trans
      (endIfQuiet_only _ (by simp)))).keepsBut
  · rw [homingReported_of_target (s := s.homed home bin) homing target] at sameTable ⊢
    have unused (stepping : r = .stepping) : ((s.homed home bin).modAlarm fun a =>
        { a with homingTarget := none, stepUsed := if r = .stepping then false else a.stepUsed }).alarm.stepUsed = false :=
      if_pos stepping
    have notRunning : ((s.homed home bin).modAlarm fun a =>
        { a with homingTarget := none, stepUsed := if r = .stepping then false else a.stepUsed }).alarm.run ≠ .running := by
      simp [homed, homing]
    have final : ((s.homed home bin).modAlarm fun a =>
        { a with homingTarget := none, stepUsed := if r = .stepping then false else a.stepUsed }).finalRun r =
          if r = .running ∧ s.lines.stopline = true then .holding else r := by
      simp [finalRun, homed]
    refine ⟨?_, fun empty noOp up clear => ?_, ?_⟩
    · simp only [settle_frame]
      exact NoTarget.enterWork (s := (s.homed home bin).modAlarm _) rfl works
    · have idle := enterWork_of_nothing (s := (s.homed home bin).modAlarm fun a =>
        { a with homingTarget := none, stepUsed := if r = .stepping then false else a.stepUsed }) (r := r) empty noOp
        (by simp [homed, up]) works unused clear
      rw [idle]
      refine ⟨by simp, fun stepping => ?_, keepsBut_settle ?_⟩
      · simp only [settle_frame, decideOldest_frame]
        rw [setRun_alarm]
        exact unused stepping
      · exact KeepsBut.enterIdle (by simp [State.KeepsBut, homed]) rfl notRunning (by simp [homing]) (by simp) (by simp)
    · rintro v a f rfl rfl rfl
      have onlyRequest : { (u.settle (((s.homed home bin).modAlarm fun a =>
          { a with homingTarget := none, stepUsed := if r = .stepping then false else a.stepUsed }).enterWork r)).table with
            markRequest := s.table.markRequest } = (s.homed home bin).table := by
        rw [sameTable]
        rfl
      rw [onlyRequest, ← final]
      refine ⟨fun noneRemoved => ?_, fun high halted => ?_⟩
      · have enters := enterWork_enters (u := u) notRunning works unused (by exact noneRemoved)
        exact Enters.of_source (s := { s with table := (s.homed home bin).table })
          (l := { s.lines with home := home, bin := bin }) enters rfl rfl rfl
      · have ends := enterWork_returnEnds (u := u) notRunning works (by exact halted) (by exact high)
        exact ReturnEnds.of_source (s := { s with table := (s.homed home bin).table })
          (l := { s.lines with home := home, bin := bin }) ends rfl rfl rfl

theorem homeSeek_mem (h : HomeLevels) : (Axis.x ∈ homeSeek h ↔ h.x = false) ∧ (Axis.y ∈ homeSeek h ↔ h.y = false) ∧
    (Axis.turret ∈ homeSeek h ↔ h.turret = false) ∧ (Axis.former ∈ homeSeek h ↔ h.former = false) := by
  simp [homeSeek]

theorem homeSeek_eq_nil (h : HomeLevels) : homeSeek h = [] ↔ h = ⟨true, true, true, true⟩ := by
  obtain ⟨x, y, turret, former⟩ := h
  simp [homeSeek]

end State

/-- Settles O25: homing begun, refused or done at once, and the home sensors one by one. -/
theorem homingRunsEachDriveHome : Obligations.HomingRunsEachDriveHome := by
  refine fun s => ⟨fun home bin => ?begin, fun axis bin => ?sensor⟩
  case begin =>
    have row : exec (.homingBegin home bin) s = execHomingBegin home bin s := rfl
    by_cases can : s.CanHome
    case neg =>
      refine ⟨_, row.trans (if_neg (mt (State.homingReady_iff s).1 can)), by simp,
        fun _ => State.keepsBut_settle (State.Only.modLines s _ (by simp)).keepsBut, fun h => absurd h can, fun h => absurd h can⟩
    have ready := (State.homingReady_iff s).2 can
    by_cases limit : s.lines.xlim = true ∨ s.lines.ylim = true
    · have on : s.lines.onLimit = true := (State.onLimit_iff _).2 limit
      have eq : exec (.homingBegin home bin) s = .next (s.settle (((s.modLines fun l => { l with home := home, bin := bin }).modTable
          fun x => { x with homingTimer := none }).raiseLimit none)) := by
        rw [row, execHomingBegin, if_pos ready, if_pos on]
        rfl
      refine ⟨_, eq, by simp [State.raiseLimit], fun no => absurd can no, fun _ _ => ⟨by simp [State.raiseLimit], ?_, ?_⟩,
        fun _ x y => by simp [x, y] at limit⟩
      · simp only [State.settle_frame]
        exact State.raiseLimit_alarm (s := s) (t := (s.modLines fun l => { l with home := home, bin := bin }).modTable
          fun x => { x with homingTimer := none }) rfl rfl rfl none
      · have kept : s.KeepsBut ((s.modLines fun l => { l with home := home, bin := bin }).modTable
          fun x => { x with homingTimer := none }) [.lines, .table, .alarm] := by simp [State.KeepsBut]
        exact State.keepsBut_settle (State.raiseLimit_keepsBut kept rfl rfl (by simp) none)
    · obtain ⟨x, y⟩ : s.lines.xlim = false ∧ s.lines.ylim = false := by simpa using limit
      have off : ¬s.lines.onLimit = true := mt (State.onLimit_iff _).1 limit
      have eq : exec (.homingBegin home bin) s = s.finish (if homeSeek home = [] then
          ((s.modLines fun l => { l with home := home, bin := bin }).modTable fun x =>
            { x with activity := .homing, seeking := homeSeek home }).homingDone
          else (s.modLines fun l => { l with home := home, bin := bin }).modTable fun x =>
            { x with activity := .homing, seeking := homeSeek home }) := by
        rw [row, execHomingBegin, if_pos ready, if_neg off]
      by_cases all : home = ⟨true, true, true, true⟩
      · rw [if_pos ((State.homeSeek_eq_nil home).2 all)] at eq
        have homes := State.Homes.of_homed (u := s) s home bin
        refine ⟨_, eq, ?_, fun no => absurd can no, fun _ h => absurd h limit, fun _ _ _ => ⟨fun h => absurd all h, fun _ => homes⟩⟩
        simp [State.homingDone]
      · rw [if_neg (mt (State.homeSeek_eq_nil home).1 all)] at eq
        obtain ⟨memX, memY, memTurret, memFormer⟩ := State.homeSeek_mem home
        refine ⟨_, eq, by simp, fun no => absurd can no, fun _ h => absurd h limit, fun _ _ _ => ⟨fun _ => ?_, fun h => absurd h all⟩⟩
        simp only [State.settle_frame]
        exact ⟨rfl, memX, memY, memTurret, memFormer, State.keepsBut_settle (by simp [State.KeepsBut])⟩
  case sensor =>
    have row : exec (.homeSensor axis bin) s = execHomeSensor axis bin s := rfl
    by_cases homing : s.table.activity = .homing
    case neg =>
      exact ⟨_, row.trans (if_neg homing), by simp,
        fun _ => State.keepsBut_settle (State.Only.modLines s _ (by simp)).keepsBut, fun h => absurd h homing⟩
    have eq : exec (.homeSensor axis bin) s = s.finish (if (s.table.seeking.filter fun a => a != axis) = [] then
        ((s.modLines fun l => { l with home := homeReach l.home axis, bin := bin }).modTable fun x =>
          { x with seeking := s.table.seeking.filter fun a => a != axis }).homingDone
        else (s.modLines fun l => { l with home := homeReach l.home axis, bin := bin }).modTable fun x =>
          { x with seeking := s.table.seeking.filter fun a => a != axis }) := by
      rw [row, execHomeSensor, if_pos homing]
    by_cases last : ∀ a ∈ s.table.seeking, a = axis
    · rw [if_pos (List.filter_eq_nil_iff.2 fun a mem => by simp [last a mem])] at eq
      refine ⟨_, eq, by simp [State.homingDone], fun h => absurd homing h, fun _ => ⟨fun ⟨a, mem, ne⟩ => absurd (last a mem) ne,
        fun _ => State.Homes.of_homed (u := s) s (homeReach s.lines.home axis) bin⟩⟩
    · have more : ¬(s.table.seeking.filter fun a => a != axis) = [] := by
        rw [List.filter_eq_nil_iff]
        simpa using last
      rw [if_neg more] at eq
      refine ⟨_, eq, by simp, fun h => absurd homing h, fun _ => ⟨fun _ => ?_, fun h => absurd h last⟩⟩
      simp only [State.settle_frame]
      exact ⟨rfl, fun a => by simp, State.keepsBut_settle (by simp [State.KeepsBut])⟩

end Sys2Proof.Machine
end

section
/-!
# The head unit and the bookkeeping read no input line

Only the drives' own sensors are read by the operations on the board; a recovery return and a dropped head read none.
-/
namespace Sys2Proof.Machine

namespace State
variable {s t u : State} {f : Lines → Lines}

theorem modLines_setRun (s : State) (f : Lines → Lines) (r : RunState) :
    (s.modLines f).setRun r = (s.setRun r).modLines f := by
  unfold State.setRun
  change (if s.alarm.run = r then _ else if s.alarm.run = .running then _ else _) = _
  split_ifs <;> rfl

theorem modLines_endIfQuiet (s : State) (f : Lines → Lines) : (s.modLines f).endIfQuiet = s.endIfQuiet.modLines f := by
  unfold State.endIfQuiet
  change (if (!s.inFlight && (s.alarm.run == .stopping || (s.alarm.run == .stepping && s.alarm.stepUsed))) = true then _
    else _) = _
  split_ifs
  · exact modLines_setRun s f _
  · rfl

theorem modLines_raise (s : State) (f : Lines → Lines) (r : Raise) : (s.modLines f).raise r = (s.raise r).modLines f := by
  unfold State.raise
  change (if s.live = true then
    if (s.stopBit r.code && (s.alarm.take r (s.stopBit r.code)).run != .alarm) = true then _ else _ else _) =
    State.modLines (if s.live = true then
      if (s.stopBit r.code && (s.alarm.take r (s.stopBit r.code)).run != .alarm) = true then _ else _ else _) f
  split_ifs
  · exact modLines_setRun ((s.modAlarm fun a => a.take r (s.stopBit r.code)).modAlarm fun a =>
      { a with rowHold := false, homingTarget := none }) f .alarm
  · rfl
  · rfl

theorem modLines_evaluate (s : State) (f : Lines → Lines) (id : MonitorId) (v : Nat) :
    (s.modLines f).evaluate id v = (s.evaluate id v).modLines f := by
  by_cases off : s.alarm.run = .configFault
  · rw [evaluate_of_configFault off, evaluate_of_configFault (by exact off)]
  · cases reached : (s.settings id).over (min 65535 v)
    · rw [evaluate_of_not_over off reached, evaluate_of_not_over (s := s.modLines f) off reached]
      change (if (s.alarm.monitor id).alarm = true ∧ (s.settings id).alarmLatch = false then _ else _) = _
      split_ifs <;> rfl
    · rw [evaluate_of_over off reached, evaluate_of_over (s := s.modLines f) off reached]
      change (if ((s.alarm.monitor id).after (s.settings id) (min 65535 v)).count = (s.settings id).p ∧
        ((s.alarm.monitor id).alarm = false ∨ s.alarm.listed id.code = false) then _ else _) = _
      split_ifs
      · exact modLines_raise (s.counted id v) f _
      · rfl

theorem modLines_useStep (s : State) (f : Lines → Lines) : (s.modLines f).useStep = s.useStep.modLines f := by
  unfold State.useStep
  change (if s.alarm.run = .stepping then _ else _) = _
  split_ifs <;> rfl

theorem modLines_decideOldest (s : State) (f : Lines → Lines) :
    (s.modLines f).decideOldest = s.decideOldest.modLines f := by
  unfold State.decideOldest
  rw [modLines_tape]
  cases queue : s.tape.queue with
  | nil => rfl
  | cons e es =>
    change (if s.mayDecide e = true then _ else _) = State.modLines (if s.mayDecide e = true then _ else _) f
    split_ifs <;> rfl

theorem modLines_startBoard (s : State) (f : Lines → Lines) : (s.modLines f).startBoard = s.startBoard.modLines f := by
  by_cases can : s.CanStart
  · obtain ⟨b, e, held, head, -, -, eq⟩ := can.startBoard_eq
    have can' : (s.modLines f).CanStart := can
    obtain ⟨b', e', held', head', -, -, eq'⟩ := can'.startBoard_eq
    obtain rfl := Option.some.inj (held.symm.trans held')
    obtain rfl := Option.some.inj (head.symm.trans head')
    rw [eq, eq']
    rfl
  · rw [startBoard_of_cannot can, startBoard_of_cannot (by exact can)]

theorem modLines_takeRowHold (s : State) (f : Lines → Lines) :
    (s.modLines f).takeRowHold = s.takeRowHold.modLines f := by
  by_cases due : ∃ e b, s.HoldDue e b
  · obtain ⟨e, b, due⟩ := due
    have due' : (s.modLines f).HoldDue e b := due
    have set := modLines_setRun (s.holdNoted e b) f .stopping
    rw [due.takeRowHold_eq, due'.takeRowHold_eq, ← modLines_endIfQuiet, ← set]
    rfl
  · have none : ∀ e b, ¬s.HoldDue e b := by simpa using due
    rw [takeRowHold_of_not_due none, takeRowHold_of_not_due (by exact none)]

theorem modLines_bookkeep (s : State) (f : Lines → Lines) : (s.modLines f).bookkeep = s.bookkeep.modLines f := by
  unfold State.bookkeep
  rw [modLines_startBoard, modLines_takeRowHold, modLines_decideOldest]

theorem modLines_checkFlush (s : State) (f : Lines → Lines) : (s.modLines f).checkFlush = s.checkFlush.modLines f := by
  unfold State.checkFlush
  rw [modLines_tape]
  cases s.tape.flush with
  | none => rfl
  | some l =>
    cases s.tape.queue with
    | nil => rfl
    | cons e es =>
      change (if e.record.lap = l then _ else _) = State.modLines (if e.record.lap = l then _ else _) f
      split_ifs <;> rfl

theorem modLines_tryFeed (s : State) (f : Lines → Lines) : (s.modLines f).tryFeed = s.tryFeed.modLines f := by
  unfold State.tryFeed
  change (if s.feedReady = true then _ else _) = _
  split_ifs <;> rfl

theorem modLines_followOn (s : State) (f : Lines → Lines) : (s.modLines f).followOn = s.followOn.modLines f := by
  unfold State.followOn
  rw [modLines_checkFlush, modLines_bookkeep, modLines_tryFeed]

theorem modLines_takeOutcome (s : State) (f : Lines → Lines) (lap : Lap) (k : Nat) (o : StepOutcome) :
    (s.modLines f).takeOutcome lap k o = (s.takeOutcome lap k o).modLines f := by
  by_cases takes : ∃ b, s.work.board = some b ∧ s.work.state = .working ∧ b.lap = some lap
  · obtain ⟨b, held, working, same⟩ := takes
    have board := workingBoard_iff.2 ⟨working, held⟩
    have counted : (s.modLines f).countOutcome (b.count k o) o = (s.countOutcome (b.count k o) o).modLines f := by
      cases o with
      | inserted => rfl
      | passed => rfl
      | missed r => exact modLines_evaluate (s.modWork fun w => { w with board := some (b.count k (.missed r)) }) f _ _
    rw [takeOutcome_of_working board, takeOutcome_of_working (s := s.modLines f) board, if_pos same, if_pos same, counted]
    change (if k + 1 = panelSteps s.reader.rows then _ else _) = _
    split_ifs <;> rfl
  · have other : ∀ b, s.work.board = some b → ¬(s.work.state = .working ∧ b.lap = some lap) := fun b held h =>
      takes ⟨b, held, h⟩
    rw [takeOutcome_of_other other, takeOutcome_of_other (s := s.modLines f) other]

theorem modLines_returnDone (s : State) (f : Lines → Lines) : (s.modLines f).returnDone = s.returnDone.modLines f := by
  by_cases removes : ∃ e, s.tape.queue.head? = some e ∧ e.attempted = true
  · obtain ⟨e, head, attempted⟩ := removes
    have taken (v : State) : (v.modLines f).outcomeTaken e (jamOutcome e) = (v.outcomeTaken e (jamOutcome e)).modLines f := by
      unfold outcomeTaken
      cases jamOutcome e with
      | none => rfl
      | some o => exact modLines_takeOutcome v f _ _ o
    have up : (s.modLines f).headUp.removeOldest = s.headUp.removeOldest.modLines f := rfl
    rw [returnDone_of_attempted head attempted, returnDone_of_attempted (s := s.modLines f) head attempted, up, taken,
      modLines_useStep, modLines_followOn]
  · have none : ∀ e, s.tape.queue.head? = some e → e.attempted = false := fun e head => by
      simpa using fun h => removes ⟨e, head, h⟩
    rw [returnDone_of_none_attempted none, returnDone_of_none_attempted (s := s.modLines f) none]
    rfl

theorem modLines_dropHead (s : State) (f : Lines → Lines) : (s.modLines f).dropHead = s.dropHead.modLines f :=
  modLines_raise (s.modHead fun h => { h with drive := .off, phase := .halted }) f _

end State
end Sys2Proof.Machine
end

section
/-!
# RUN and STEP (R145, R147)
-/
namespace Sys2Proof.Machine

namespace State
variable {s t u : State} {a : Alarm} {r final : RunState} {top bin : Bool} {e : Entry} {k : OpKind}

/-! ## TOP as the press samples it (log entry 7) -/

/-- The station with TOP and BIN as they read at the press. -/
def pressLines (s : State) (top bin : Bool) : State := s.modLines fun l => l.sampled top bin

theorem sample_of_return (returns : s.head.phase = .returning) :
    s.sample true bin = (s.pressLines true bin).returnDone.endIfQuiet := if_pos ⟨returns, rfl⟩

theorem sample_of_drop (live : s.alarm.run ≠ .configFault) (phase : s.head.phase = .top) :
    s.sample false bin = (s.pressLines false bin).dropHead := by
  have notReturning : ¬((s.pressLines false bin).head.phase = .returning ∧ (s.pressLines false bin).lines.top = true) :=
    fun h => by cases h.2
  exact (if_neg notReturning).trans (if_pos ⟨(live_iff s).2 live, phase, rfl⟩)

theorem sample_of_none (none : ∀ d, ¬s.TopActs top d) : s.sample top bin = s.pressLines top bin := by
  have notReturning : ¬((s.pressLines top bin).head.phase = .returning ∧ (s.pressLines top bin).lines.top = true) := fun h =>
    none .topEdge (.inl ⟨rfl, h⟩)
  have notDropped : ¬((s.pressLines top bin).live = true ∧ (s.pressLines top bin).head.phase = .top ∧
      (s.pressLines top bin).lines.top = false) := fun h =>
    none .headDrop (.inr ⟨rfl, (live_iff s).1 h.1, h.2⟩)
  exact (if_neg notReturning).trans (if_neg notDropped)

/-- What the press samples is what the head unit's own row makes of TOP, but for BIN. -/
theorem sample_of_acts {d : Instr} (acts : s.TopActs top d) (runs : exec d s = .next u) :
    ∃ v, u = s.settle v ∧ s.sample top bin = v.modLines fun l => { l with bin := bin } := by
  rcases acts with ⟨rfl, returns, rfl⟩ | ⟨rfl, live, phase, rfl⟩
  · have row : exec .topEdge s = .next (s.settle (s.modLines fun l => { l with top := true }).returnDone.endIfQuiet) := by
      change execTopEdge s = _
      unfold execTopEdge
      rw [returns]
      rfl
    refine ⟨_, (Host.Outcome.next.inj (row.symm.trans runs)).symm, ?_⟩
    rw [sample_of_return returns, pressLines, modLines_returnDone, modLines_endIfQuiet, modLines_returnDone, modLines_endIfQuiet]
    rfl
  · have row : exec .headDrop s = .next (s.settle (s.modLines fun l => { l with top := false }).dropHead) := by
      change execHeadDrop s = _
      unfold execHeadDrop
      dsimp only
      rw [if_pos ⟨(live_iff s).2 live, phase⟩]
      rfl
    refine ⟨_, (Host.Outcome.next.inj (row.symm.trans runs)).symm, ?_⟩
    rw [sample_of_drop live phase, pressLines, modLines_dropHead, modLines_dropHead]
    rfl

theorem dropHead_run (live : s.alarm.run ≠ .configFault) : s.dropHead.alarm.run = .alarm :=
  (raise_enters_alarm (s := s.modHead fun h => { h with drive := .off, phase := .halted }) live rfl).1

/-! ## The press (R145, R147) -/

/-- The station as the press has cleared its marks. -/
def pressed (s : State) (r : RunState) : State := s.modAlarm fun a =>
  { a with rowHold := false, stepUsed := if r = .stepping then false else a.stepUsed }

/-- RUN or STEP in STOPPED. -/
def press (s : State) (r : RunState) : State :=
  if s.table.homed = true then (s.pressed r).enterWork r else (s.pressed r).enterHoming r

/-- The two rows and the run states that they enter. -/
def Presses (c : Instr) (top bin : Bool) (r : RunState) : Prop :=
  c = .run top bin ∧ r = .running ∨ c = .step ⟨top, bin⟩ ∧ r = .stepping

theorem exec_press {c : Instr} (presses : Presses c top bin r) : exec c s =
    if s.alarm.run = .stopped ∧ (s.sample top bin).alarm.run = .stopped
    then .next (s.settle ((s.sample top bin).press r)) else .next (s.settle (s.sample top bin)) := by
  rcases presses with ⟨rfl, rfl⟩ | ⟨rfl, rfl⟩
  · have same : (s.sample top bin).pressRun = (s.sample top bin).press .running := rfl
    change execRun top bin s = _
    unfold execRun
    dsimp only
    rw [same]
    rfl
  · have same : (s.sample top bin).pressStep = (s.sample top bin).press .stepping := rfl
    change execStep ⟨top, bin⟩ s = _
    unfold execStep
    dsimp only
    rw [same]
    rfl

theorem Presses.works {c : Instr} (presses : Presses c top bin r) : r = .running ∨ r = .stepping := by
  rcases presses with ⟨-, h⟩ | ⟨-, h⟩
  · exact .inl h
  · exact .inr h

theorem press_frame (s : State) (r : RunState) : (s.press r).pending = s.pending ∧ (s.press r).now = s.now ∧
    (s.press r).hdr = s.hdr ∧ (s.press r).lines = s.lines ∧ (s.press r).reader = s.reader ∧
    (s.press r).verifier = s.verifier := by
  unfold press
  split <;> simp [pressed]

/-- With the table homed the press enters work. -/
theorem press_enters (homed : s.table.homed = true) (stopped : s.alarm.run = .stopped)
    (works : r = .running ∨ r = .stepping) (none : s.NoneRemoved s.lines.top [.halted]) :
    s.Enters (u.settle (s.press r)) s.lines.top (s.pressed r).alarm (s.finalRun r) := by
  have notRunning : (s.pressed r).alarm.run ≠ .running := by simp [pressed, stopped]
  have enters := enterWork_enters (s := s.pressed r) (u := u) notRunning works (fun stepping => if_pos stepping) none
  have eq : s.press r = (s.pressed r).enterWork r := if_pos homed
  rw [eq]
  exact Enters.of_source (s := s) (l := s.lines) enters rfl rfl rfl

/-- The station with HOMING entered and homing requested, before the head acts (R65, R145). -/
def homingAsked (s : State) (r : RunState) : State :=
  ((s.modAlarm fun a => { a with homingTarget := some r }).setRun .homing).requestHoming

theorem enterHoming_eq (s : State) (r : RunState) : s.enterHoming r = (s.homingAsked r).recoveryReturn := rfl

/-- What the request for homing changes: the alarm unit, the homing timer, and the last cycle start. -/
structure HomingAsked (s t : State) (r : RunState) : Prop where
  alarm : t.alarm = { s.alarm with run := .homing, homingTarget := some r }
  table : t.table = { s.table with
    homingTimer := if s.table.activity = .homing then s.table.homingTimer else some (1000 * s.header.homeTimeout) }
  phase : t.head.phase = s.head.phase
  tape : t.tape = s.tape
  work : t.work = s.work
  reader : t.reader = s.reader
  lines : t.lines = s.lines
  hdr : t.hdr = s.hdr
  now : t.now = s.now

theorem homingAsked_frame (s : State) (r : RunState) : s.HomingAsked (s.homingAsked r) r where
  alarm := by
    simp only [homingAsked, requestHoming_frame]
    rw [setRun_alarm]
    rfl
  table := by
    unfold homingAsked State.requestHoming
    simp only [setRun_frame]
    change (if s.table.activity = .homing then _ else _ : State).table = _
    split_ifs
    · simp
    · simp [State.header]
  phase := by
    simp only [homingAsked, requestHoming_frame]
    rw [setRun_head]
    unfold State.headAfter
    split <;> rfl
  tape := by simp [homingAsked]
  work := by simp [homingAsked]
  reader := by simp [homingAsked]
  lines := by simp [homingAsked]
  hdr := by simp [homingAsked]
  now := by simp [homingAsked]

/-- Unhomed the press enters HOMING, and homing is requested. -/
theorem press_homing (unhomed : s.table.homed = false) (stopped : s.alarm.run = .stopped)
    (none : s.NoneRemoved s.lines.top [.halted]) :
    (s.press r).alarm = { (s.pressed r).alarm with run := .homing, homingTarget := some r } ∧
      (s.press r).head = s.headEntering s.lines.top ∧
      (s.press r).table = { s.table with
        homingTimer := if s.table.activity = .homing then s.table.homingTimer else some (1000 * s.header.homeTimeout) } ∧
      s.KeepsBut (s.press r) [.table, .head, .alarm] := by
  have eq : s.press r = (s.pressed r).enterHoming r := if_neg (by simp [unhomed])
  have notRunning : (s.pressed r).alarm.run ≠ .running := by simp [pressed, stopped]
  have head : ((s.pressed r).homingAsked r).head = s.head := by
    simp only [homingAsked, requestHoming_frame]
    rw [setRun_head, headAfter_of_not_running (by exact notRunning)]
    rfl
  have frame := homingAsked_frame (s.pressed r) r
  have none' : ((s.pressed r).homingAsked r).NoneRemoved ((s.pressed r).homingAsked r).lines.top [.halted] := by
    unfold State.NoneRemoved
    rw [head, frame.tape, frame.lines]
    exact none
  have entering : ((s.pressed r).homingAsked r).headEntering s.lines.top = s.headEntering s.lines.top := by
    unfold State.headEntering State.header
    rw [head, frame.hdr]
    rfl
  have returns := recoveryReturn_of_none_removed none'
  rw [frame.lines] at returns
  have whole : s.press r = ((s.pressed r).homingAsked r).modHead fun _ => s.headEntering s.lines.top := by
    rw [eq, enterHoming_eq, returns, ← entering]
    rfl
  rw [whole]
  refine ⟨frame.alarm, rfl, frame.table, ?_⟩
  simp [State.KeepsBut, homingAsked, pressed]

end State

end Sys2Proof.Machine
end

section
/-!
# RUN and STEP settled (R145, R147), by what the head unit makes of TOP
-/
namespace Sys2Proof.Machine

namespace State
variable {s t u : State} {a : Alarm} {r final : RunState} {top bin : Bool} {e : Entry} {k : OpKind}

/-! ## No entry removed -/

theorem sample_of_none_removed (stopped : s.alarm.run = .stopped) (stands : s.head.phase = .top → top = true)
    (none : s.NoneRemoved top [.halted, .returning]) : s.sample top bin = (s.returned top).pressLines top bin := by
  by_cases ends : s.head.phase = .returning ∧ top = true
  · obtain ⟨returns, rfl⟩ := ends
    have done : (s.pressLines true bin).returnDone = (s.pressLines true bin).headUp :=
      returnDone_of_none_attempted (none rfl (by simp [returns]))
    have quiet : (s.pressLines true bin).headUp.endIfQuiet = (s.pressLines true bin).headUp :=
      endIfQuiet_of_lasts (by simp [headUp, pressLines, stopped]) (by simp [headUp, pressLines, stopped])
    rw [sample_of_return returns, done, quiet, State.returned, if_pos ⟨returns, rfl⟩]
    rfl
  · rw [State.returned, if_neg ends]
    refine sample_of_none fun d acts => ?_
    rcases acts with ⟨-, returns⟩ | ⟨-, -, phase, low⟩
    · exact ends returns
    · simp [stands phase] at low

theorem returned_frame (s : State) (top : Bool) : (s.returned top).table = s.table ∧ (s.returned top).alarm = s.alarm ∧
    (s.returned top).tape = s.tape ∧ (s.returned top).lines = s.lines ∧ s.KeepsBut (s.returned top) [.head] := by
  unfold State.returned
  split <;> simp [State.KeepsBut]

theorem NoneRemoved.returned (none : s.NoneRemoved top [.halted, .returning]) : (s.returned top).NoneRemoved top [.halted] := by
  intro high halted
  have phase : s.head.phase = .halted := by
    unfold State.returned at halted
    split at halted
    · simp at halted
    · simpa using halted
  rw [(returned_frame s top).2.2.1]
  exact none high (by simp [phase])

/-! ## A return that ends at the press -/

/-- What a return brings about outside RUNNING and STEPPING reads nothing of the lines, the table and the alarm unit. -/
theorem ReturnEnds.of_beside {uses : Prop} (ends : s.ReturnEnds t a uses) (tape : s.tape = u.tape) (work : s.work = u.work)
    (reader : s.reader = u.reader) (hdr : s.hdr = u.hdr) (now : s.now = u.now) (phase : s.head.phase = u.head.phase)
    (idle : a.run = .homing) : u.ReturnEnds t a uses := by
  obtain ⟨up, drive, timer, removes⟩ := ends
  refine ⟨up, drive, timer, fun e head attempted => ?_⟩
  rw [← tape, ← work, ← phase]
  obtain ⟨held, still, -, used, run⟩ := removes e (by rw [tape]; exact head) attempted
  refine ⟨held, fun none => ?_, fun k _ _ runs => by simp [idle] at runs, used, run⟩
  obtain ⟨counts, follows⟩ := still none
  exact ⟨counts.of_beside work reader hdr, fun halted free =>
    (follows halted free).of_source hdr now (by rw [tape]) (by rw [tape])⟩

/-- A return that ends at once in HOMING. -/
theorem returning_returnEnds {uses : Prop} (homing : s.alarm.run = .homing) (notUsed : ¬uses) :
    s.ReturnEnds (u.settle s.returning.returnDone) s.alarm uses := by
  have notMay : ¬s.returning.MayStart := by simp [State.MayStart, returning, homing]
  obtain ⟨phase, drive, timer⟩ := returnDone_head s.returning
  refine ⟨by simpa using phase, by simpa using drive, by simpa using timer, fun e head attempted => ?_⟩
  have held : s.returning.returnDone.tape.queue.map Entry.held = s.tape.queue.tail.map Entry.held :=
    returnDone_held (s := s.returning) head attempted
  have counts : s.Counts s.returning.returnDone _ _ _ := returnDone_counts (s := s.returning) head attempted
  have follows (free : s.tape.feeding = false) : s.FeedFollows s.returning.returnDone :=
    returnDone_feedFollows (s := s.returning) head attempted free
  have run := returnDone_run (s := s.returning) head attempted
  refine ⟨by simpa using held, fun _ => ⟨counts.boardKept (.of_work (by simp)),
    fun _ free => (follows free).settle⟩, fun k _ _ runs => by simp [homing] at runs, fun h => absurd h notUsed, ?_⟩
  simp only [settle_frame]
  exact run.imp_right (.imp_right fun h => absurd h.2.2 notMay)

/-- Unhomed, with a HALTED head and TOP active, the return ends within the entry to HOMING. -/
theorem enterHoming_returnEnds {uses : Prop} (halted : s.head.phase = .halted) (top : s.lines.top = true) (notUsed : ¬uses) :
    s.ReturnEnds (u.settle (s.enterHoming r)) { s.alarm with run := .homing, homingTarget := some r } uses := by
  have asked := homingAsked_frame s r
  rw [enterHoming_eq, recoveryReturn_of_top (asked.phase.trans halted) (by rw [asked.lines]; exact top), ← asked.alarm]
  have homing : (s.homingAsked r).alarm.run = .homing := by rw [asked.alarm]
  exact (returning_returnEnds homing notUsed).of_beside asked.tape asked.work asked.reader asked.hdr asked.now asked.phase
    homing

/-- The press with a HALTED head and TOP active: the return ends within the entry (R96, R97). -/
theorem press_returnEnds (stopped : s.alarm.run = .stopped) (works : r = .running ∨ r = .stepping)
    (halted : s.head.phase = .halted) (top : s.lines.top = true) :
    s.ReturnEnds (u.settle (s.press r))
      (if s.table.homed = true then { (s.pressed r).alarm with run := s.finalRun r }
        else { (s.pressed r).alarm with run := .homing, homingTarget := some r })
      (s.head.phase = .halted ∧ s.table.homed = true ∧ r = .stepping) := by
  have notRunning : (s.pressed r).alarm.run ≠ .running := by simp [pressed, stopped]
  by_cases homed : s.table.homed = true
  · have uses : (s.head.phase = .halted ∧ s.table.homed = true ∧ r = .stepping) = (r = .stepping) := by simp [halted, homed]
    have eq : s.press r = (s.pressed r).enterWork r := if_pos homed
    rw [uses, eq, if_pos homed]
    exact ReturnEnds.of_source (l := s.lines)
      (enterWork_returnEnds (s := s.pressed r) (u := u) notRunning works halted top) rfl rfl rfl
  · have eq : s.press r = (s.pressed r).enterHoming r := if_neg homed
    rw [eq, if_neg homed]
    exact (enterHoming_returnEnds (s := s.pressed r) (u := u) halted top fun h => homed h.2.1).of_beside rfl rfl rfl rfl rfl rfl
      rfl

/-- Once a return has ended, the press takes work up again: the head stands at TOP. -/
theorem press_resumes (homed : s.table.homed = true) (stopped : s.alarm.run = .stopped) (up : s.head.phase = .top) :
    s.press r = ((s.pressed r).entered r).restartOp.bookkeep.endIfQuiet := by
  have kept := (entered_head (s := s.pressed r) (by simp [pressed, stopped]) r).1
  have phase : ((s.pressed r).entered r).head.phase ≠ .halted := by
    rw [kept]
    simp [pressed, up]
  have still : ((s.pressed r).entered r).recoveryReturn = (s.pressed r).entered r := if_neg phase
  have eq : s.press r = ((s.pressed r).entered r).recoveryReturn.restartOp.bookkeep.endIfQuiet := if_pos homed
  rw [eq, still]

/-- The station as a press enters RUNNING or STEPPING, once a return has ended. -/
structure PressEntered (s t : State) (r : RunState) : Prop where
  alarm : t.alarm = { (s.pressed r).alarm with run := s.finalRun r }
  head : s.HeadKept t
  work : t.work = s.work
  tape : t.tape = s.tape
  table : t.table = s.table
  reader : t.reader = s.reader
  lines : t.lines = s.lines
  hdr : t.hdr = s.hdr

theorem pressEntered (stopped : s.alarm.run = .stopped) (works : r = .running ∨ r = .stepping) :
    s.PressEntered ((s.pressed r).entered r) r where
  alarm := entered_alarm works
  head := (entered_head (s := s.pressed r) (by simp [pressed, stopped]) r).1
  work := by simp [entered, pressed]
  tape := by simp [entered, pressed]
  table := by simp [entered, pressed]
  reader := by simp [entered, pressed]
  lines := by simp [entered, pressed]
  hdr := by simp [entered, pressed]

/-- Work taken up at a press after a return that removed its entry. -/
theorem resumed_returnEnds {uses : Prop} {p : State} (returns : s.head.phase = .returning)
    (works : r = .running ∨ r = .stepping)
    (entered : s.returnDone.PressEntered p r) (notUsed : ¬uses) :
    s.ReturnEnds (u.settle p.restartOp.bookkeep.endIfQuiet) { (s.pressed r).alarm with run := s.finalRun r } uses := by
  obtain ⟨lines, hdr, reader⟩ := returnDone_sources s
  have final : s.returnDone.finalRun r = s.finalRun r := by rw [finalRun, finalRun, lines]
  have run : p.alarm.run = s.finalRun r := by rw [entered.alarm, final]
  have unused : s.finalRun r = .stepping → p.alarm.stepUsed = false := fun stepping => by
    rw [entered.alarm]
    exact if_pos (finalRun_stepping stepping)
  obtain ⟨phase, drive, timer⟩ := resumed_head (s := p) (u := u) (by rw [entered.head]; exact returnDone_head s)
  refine ⟨phase, drive, timer, fun e head attempted => ?_⟩
  refine ⟨?_, fun none => ⟨?_, fun halted => by simp [returns] at halted⟩, fun k stalled fits runs => ?_,
    fun h => absurd h notUsed, ?_⟩
  · simp only [settle_frame, endIfQuiet_frame]
    rw [(resumed_tape p).1, entered.tape, returnDone_held head attempted]
  · have op : ∀ k, p.work.op ≠ some (k, .stalled) := by
      rw [entered.work, returnDone_op head attempted]
      exact none
    rw [restartOp_of_none op]
    exact (returnDone_counts head attempted).boardKept ((BoardKept.of_work entered.work).trans
      ((bookkeep_boardKept p).trans (.of_work (by simp))))
  · obtain ⟨notReady, notWorking⟩ := fits.idle stalled
    have work := entered.work.trans (returnDone_of_idle head attempted notReady notWorking).1
    have may : p.MayStart := by
      rw [State.MayStart, run]
      exact runs.imp_right fun h => ⟨h.1, unused h.1⟩
    have stalledP : p.work.op = some (k, .stalled) := by rw [work]; exact stalled
    have fitsP : p.WorkFits := by
      unfold State.WorkFits
      rw [work]
      exact fits
    have restarted := Restarted.of_startOp fitsP stalledP may
    have lets := (resumed_tape p).2
    rw [restartOp_of_stalled stalledP may] at lets ⊢
    have same : p.SameOldest (u.settle (p.startOp k).bookkeep.endIfQuiet) := lets.trans (.of_tape (by simp))
    have beside : State.Restarted { s with tape := (u.settle (p.startOp k).bookkeep.endIfQuiet).tape }
        (p.startOp k).bookkeep k :=
      restarted.of_beside (by rw [entered.lines, lines]) (by rw [entered.lines, lines]) (by rw [entered.lines, lines])
        (entered.hdr.trans hdr) work (entered.reader.trans reader) (entered.table.trans (returnDone_table s)) same.lets_iff
    exact beside.endIfQuiet.settle
  · have cases := resumed_run p
    rw [run] at cases
    have steps : s.finalRun r = .stepping → p.restartOp.bookkeep.alarm.stepUsed = true → uses := fun stepping used => by
      obtain ⟨v, worked, booked⟩ := restartOp_bookkeep_any p
      have alarm : v.alarm = p.alarm := worked.frame.2.2.2.2.2.2.2.2.1
      rw [booked, bookkeep_stepUsed, alarm, unused stepping] at used
      cases used
    simp only [settle_frame]
    exact endIfQuiet_outcome (cases.imp_right .inr)
      (by rcases finalRun_cases s works with h | h | h <;> simp [h]) steps

/-- A return that ends in STOPPED leaves STOPPED, or ALARM by M2's stop alarm. -/
theorem returnDone_stopped (stopped : s.alarm.run = .stopped) :
    s.returnDone.alarm.run = .stopped ∨ s.returnDone.alarm.run = .alarm := by
  by_cases removes : ∃ e, s.tape.queue.head? = some e ∧ e.attempted = true
  · obtain ⟨e, head, attempted⟩ := removes
    rcases returnDone_run head attempted with same | alarm | held
    · exact .inl (same.trans stopped)
    · exact .inr alarm
    · exact absurd held.2.2 (by simp [State.MayStart, stopped])
  · rw [returnDone_of_none_attempted fun e head => by simpa using fun h => removes ⟨e, head, h⟩]
    exact .inl stopped

/-- The press in a recovery return with TOP active: the return ends first, as its edge ends it (R97). -/
theorem pressReturning_returnEnds {uses : Prop} (stopped : s.alarm.run = .stopped)
    (returns : s.head.phase = .returning) (works : r = .running ∨ r = .stepping) (notUsed : ¬uses) :
    s.ReturnEnds (if s.returnDone.alarm.run = .stopped then u.settle (s.returnDone.press r) else u.settle s.returnDone)
      (if s.table.homed = true then { (s.pressed r).alarm with run := s.finalRun r }
        else { (s.pressed r).alarm with run := .homing, homingTarget := some r }) uses := by
  obtain ⟨phase, drive, timer⟩ := returnDone_head s
  have table := returnDone_table s
  by_cases ran : s.returnDone.alarm.run = .stopped
  case pos =>
    rw [if_pos ran]
    by_cases homed : s.table.homed = true
    · rw [if_pos homed, press_resumes (by rw [table]; exact homed) ran phase]
      exact resumed_returnEnds returns works (pressEntered ran works) notUsed
    · rw [if_neg homed]
      obtain ⟨alarm, up, -, kept⟩ := press_homing (s := s.returnDone) (r := r) (by rw [table]; simpa using homed) ran
        (fun _ halted => by simp [phase] at halted)
      have still : s.returnDone.headEntering s.returnDone.lines.top = s.returnDone.head := if_neg (by simp [phase])
      obtain ⟨-, -, -, -, -, -, tape, -, -, work, -⟩ := kept
      replace tape := tape.resolve_left (by simp)
      replace work := work.resolve_left (by simp)
      refine ⟨?_, ?_, ?_, fun e head attempted => ⟨?_, fun _ => ⟨?_, fun halted => by simp [returns] at halted⟩,
        fun k _ _ runs => by simp at runs, fun h => absurd h notUsed, .inl ?_⟩⟩
      iterate 3
        · simp only [settle_frame]
          rw [up, still]
          assumption
      · simp only [settle_frame]
        rw [tape, returnDone_held head attempted]
      · exact (returnDone_counts head attempted).boardKept (.of_work (by simpa using work))
      · simp only [settle_frame]
        rw [alarm]
  case neg =>
    rw [if_neg ran]
    refine ⟨by simpa using phase, by simpa using drive, by simpa using timer, fun e head attempted => ?_⟩
    have run := (returnDone_stopped stopped).resolve_left ran
    refine ⟨by simpa using returnDone_held head attempted, fun _ => ⟨?_, fun halted => by simp [returns] at halted⟩,
      fun k stalled fits _ => ?_, fun h => absurd h notUsed, .inr (.inl (by simpa using run))⟩
    · exact (returnDone_counts head attempted).boardKept (.of_work (by simp))
    · obtain ⟨notReady, notWorking⟩ := fits.idle stalled
      have alarm := (returnDone_of_idle head attempted notReady notWorking).2 (by simp [stopped])
      exact absurd ((congrArg Alarm.run alarm).trans stopped) ran

/-! ## The rows -/

/-- What RUN or STEP leaves, by the run state before and after the head unit has acted on TOP. -/
def pressRow (s : State) (top bin : Bool) (r : RunState) : State :=
  if s.alarm.run = .stopped ∧ (s.sample top bin).alarm.run = .stopped then s.settle ((s.sample top bin).press r)
  else s.settle (s.sample top bin)

theorem sample_frame (s : State) (top bin : Bool) : (s.sample top bin).pending = s.pending ∧ (s.sample top bin).now = s.now ∧
    (s.sample top bin).hdr = s.hdr ∧ (s.sample top bin).lines = { s.lines with top := top, bin := bin } ∧
    (s.sample top bin).reader = s.reader ∧ (s.sample top bin).verifier = s.verifier := by
  simp [State.sample, Lines.sampled]

theorem pressRow_frame (s : State) (top bin : Bool) (r : RunState) : (s.pressRow top bin r).pending = s.pending ∧
    (s.pressRow top bin r).now = s.now ∧ (s.pressRow top bin r).hdr = s.hdr ∧
    (s.pressRow top bin r).lines = { s.lines with top := top, bin := bin } ∧ (s.pressRow top bin r).reader = s.reader ∧
    (s.pressRow top bin r).verifier = s.verifier := by
  unfold pressRow
  split
  · simp only [settle_frame, press_frame, sample_frame]
    simp
  · simp only [settle_frame, sample_frame]
    simp

theorem pressRow_of_sample {v : State} (stopped : s.alarm.run = .stopped) (sampled : s.sample top bin = v)
    (still : v.alarm.run = .stopped) : s.pressRow top bin r = s.settle (v.press r) := by
  subst sampled
  exact if_pos ⟨stopped, still⟩

/-- What the press does where no return removes an entry. -/
theorem pressRow_starts (stopped : s.alarm.run = .stopped) (stands : s.head.phase = .top → top = true)
    (works : r = .running ∨ r = .stepping) (none : s.NoneRemoved top [.halted, .returning]) :
    (s.table.homed = false →
      (s.pressRow top bin r).alarm = { (s.pressed r).alarm with run := .homing, homingTarget := some r } ∧
      (s.pressRow top bin r).head = (s.returned top).headEntering top ∧
      (s.pressRow top bin r).table = { s.table with
        homingTimer := if s.table.activity = .homing then s.table.homingTimer else some (1000 * s.header.homeTimeout) } ∧
      s.KeepsBut (s.pressRow top bin r) [.lines, .table, .head, .alarm]) ∧
    (s.table.homed = true →
      (s.returned top).Enters (s.pressRow top bin r) top (s.pressed r).alarm (s.finalRun r)) := by
  obtain ⟨table, alarm, -, lines, kept⟩ := returned_frame s top
  have hdr := kept.2.2.1
  have stoppedW : ((s.returned top).pressLines top bin).alarm.run = .stopped := (congrArg Alarm.run alarm).trans stopped
  have tableW : ((s.returned top).pressLines top bin).table = s.table := table
  have topW : ((s.returned top).pressLines top bin).lines.top = top := rfl
  have alarmW : (((s.returned top).pressLines top bin).pressed r).alarm = (s.pressed r).alarm := by
    simp [pressed, pressLines, alarm]
  rw [pressRow_of_sample stopped (sample_of_none_removed stopped stands none) stoppedW]
  refine ⟨fun unhomed => ?_, fun homed => ?_⟩
  · obtain ⟨alarm, head, table', keptW⟩ := press_homing (r := r) (by rw [tableW]; exact unhomed) stoppedW none.returned
    simp only [settle_frame]
    refine ⟨?_, head, ?_, keepsBut_settle ?_⟩
    · rw [alarm, alarmW]
    · rw [table', tableW, State.header, State.header]
      rw [show ((s.returned top).pressLines top bin).hdr = s.hdr from hdr]
    · have seen : s.KeepsBut ((s.returned top).pressLines top bin) [.lines, .table, .head, .alarm] := by
        have first := kept.mono (qs := [.lines, .table, .head, .alarm]) (by simp)
        unfold State.KeepsBut at *
        simpa [pressLines] using first
      exact seen.trans_of_head (by simp) (keptW.mono (by simp))
  · have enters := press_enters (u := s) (by rw [tableW]; exact homed) stoppedW works none.returned
    have final : ((s.returned top).pressLines top bin).finalRun r = s.finalRun r := by
      simp [finalRun, pressLines, lines, Lines.sampled]
    rw [alarmW, final] at enters
    exact Enters.of_source (l := ((s.returned top).pressLines top bin).lines) (al := (s.returned top).alarm) enters rfl rfl rfl

/-- What the press does where a return ends at it. -/
theorem pressRow_returnEnds (stopped : s.alarm.run = .stopped) (works : r = .running ∨ r = .stepping)
    (phase : s.head.phase = .halted ∨ s.head.phase = .returning) :
    s.ReturnEnds (s.pressRow true bin r)
      (if s.table.homed = true then { (s.pressed r).alarm with run := s.finalRun r }
        else { (s.pressed r).alarm with run := .homing, homingTarget := some r })
      (s.head.phase = .halted ∧ s.table.homed = true ∧ r = .stepping) := by
  rcases phase with halted | returns
  · have sampled : s.sample true bin = s.pressLines true bin := sample_of_none fun d acts => by
      rcases acts with ⟨-, returns, -⟩ | ⟨-, -, -, low⟩
      · simp [halted] at returns
      · cases low
    rw [pressRow_of_sample stopped sampled stopped]
    exact ReturnEnds.of_source (l := (s.pressLines true bin).lines) (al := s.alarm)
      (press_returnEnds (s := s.pressLines true bin) (u := s) stopped works halted rfl) rfl rfl rfl
  · have ends := pressReturning_returnEnds (s := s.pressLines true bin) (u := s)
      (uses := s.head.phase = .halted ∧ s.table.homed = true ∧ r = .stepping) stopped returns works
      fun h => by simp [returns] at h
    have quiet : (s.pressLines true bin).returnDone.endIfQuiet = (s.pressLines true bin).returnDone := by
      rcases returnDone_stopped (s := s.pressLines true bin) stopped with ran | ran <;>
        exact endIfQuiet_of_lasts (by simp [ran]) (by simp [ran])
    have row : s.pressRow true bin r = if (s.pressLines true bin).returnDone.alarm.run = .stopped
        then s.settle ((s.pressLines true bin).returnDone.press r) else s.settle (s.pressLines true bin).returnDone := by
      unfold pressRow
      rw [sample_of_return returns, quiet]
      exact if_congr (and_iff_right stopped) rfl rfl
    rw [row]
    exact ReturnEnds.of_source (l := (s.pressLines true bin).lines) (al := s.alarm) ends rfl rfl rfl

end State

/-- Settles O48: what the head unit makes of TOP first, then the press with the table homed or not. -/
theorem runAndStepLeaveStopped : Obligations.RunAndStepLeaveStopped := by
  intro s top bin c r final command
  have presses : State.Presses c top bin r := command.imp (fun h => ⟨h.1, h.2.1⟩) fun h => ⟨h.1, h.2.1⟩
  have finals : final = s.finalRun r := by
    unfold State.finalRun
    rcases command with ⟨-, rfl, h⟩ | ⟨-, rfl, h⟩ <;> simpa using h
  have works := presses.works
  have row := State.exec_press (s := s) presses
  obtain ⟨pending, now, hdr, lines, reader, verifier⟩ := State.pressRow_frame s top bin r
  refine ⟨s.pressRow top bin r, row.trans (apply_ite _ _ _ _).symm, lines, fun stopped stands => ⟨pending, now, hdr, reader,
    verifier, ?_⟩, fun not none => ?_, fun d u acts other runs => ?_⟩
  · rintro a rfl
    rw [finals]
    refine ⟨fun unhomed none => (State.pressRow_starts stopped stands works none).1 unhomed,
      fun homed none => (State.pressRow_starts stopped stands works none).2 homed, ?_⟩
    rintro rfl phase
    exact State.pressRow_returnEnds stopped works phase
  · have eq : s.pressRow top bin r = s.settle (s.pressLines top bin) := by
      unfold State.pressRow
      rw [if_neg fun h => not h.1, State.sample_of_none none]
    rw [eq]
    exact State.keepsBut_settle (State.Only.modLines s _ (by simp)).keepsBut
  · obtain ⟨v, rfl, sampled⟩ := State.sample_of_acts (bin := bin) acts runs
    have still : ¬(s.alarm.run = .stopped ∧ (s.sample top bin).alarm.run = .stopped) := by
      rintro ⟨stopped, still⟩
      have drop := other.resolve_left fun not => not stopped
      obtain ⟨-, live, phase, low⟩ := acts.resolve_left fun edge => by simp [drop] at edge
      rw [low, State.sample_of_drop live phase, State.dropHead_run (by exact live)] at still
      cases still
    have eq : s.pressRow top bin r = s.settle (v.modLines fun l => { l with bin := bin }) := by
      unfold State.pressRow
      rw [if_neg still, sampled]
    have kept : v.KeepsBut (v.modLines fun l => { l with bin := bin }) [.lines] :=
      (State.Only.modLines v _ (by simp)).keepsBut
    rw [eq]
    unfold State.KeepsBut at *
    simpa only [State.settle_frame, State.headAfter] using kept

end Sys2Proof.Machine
end

section
/-!
# REMOTE and its results (R155, R178)
-/
namespace Sys2Proof.Machine

namespace State
variable {s t u v w : State} {f : Frame} {rest : List Frame} {payload : List Byte} {ps : List Part} {code : Byte}
  {act : State → State} {top bin : Bool} {result : RemoteResult}

/-! ## The report of an operation that does not read the link unit -/

theorem KeepsBut.settled (kept : v.KeepsBut w ps) : (s.settle v).KeepsBut (s.settle w) ps := by
  unfold State.KeepsBut at *
  simpa only [settle_frame, State.headAfter] using kept

theorem sameUnits_handDone (s : State) : s.SameUnits s.handDone := ⟨_, rfl⟩

theorem SameUnits.only (same : v.SameUnits w) (link : .link ∈ ps) : v.Only w ps := by
  obtain ⟨l, rfl⟩ := same
  exact ⟨by simp [State.KeepsBut, withLink, link], id⟩

theorem SameUnits.report (same : v.SameUnits w) (payload : List Byte) : v.SameUnits (w.report payload) := by
  obtain ⟨l, rfl⟩ := same
  unfold State.report State.queueFrame
  split <;> exact ⟨_, rfl⟩

/-- What the report leaves alone, after the same operation on either station. -/
theorem SameUnits.reported (same : v.SameUnits w) (payload : List Byte) :
    (s.settle v).KeepsBut (s.settle (w.report payload)) [.lines, .link] :=
  ((same.report payload).only (by simp)).keepsBut.settled

theorem sample_blind (top bin : Bool) : Blind fun s => s.sample top bin := by
  rintro s _ ⟨l, rfl⟩
  exact seeTop_blind ⟨l, rfl⟩

/-- The link unit and the own address of `v` are as the handing on leaves them. -/
def HandedLink (s v : State) : Prop := v.link.butSlot = s.handDone.link.butSlot ∧ v.ownAddr = s.ownAddr

theorem HandedLink.answers (handed : s.HandedLink v) (queue : s.link.rx = f :: rest) (room : s.link.tx.length < 4)
    (payload : List Byte) : s.Answers (u.settle (v.report payload)) rest payload := by
  obtain ⟨link, own⟩ := handed
  rw [handDone_link queue] at link
  have free : v.link.tx.length < 4 := by
    have tx : v.link.butSlot.tx = s.link.tx := by rw [link]; rfl
    exact (congrArg List.length tx).trans_lt room
  have noted : (u.settle (v.queueFrame 5 31 payload)).link.butSlot =
      { v.link.butSlot with tx := v.link.butSlot.tx ++ [⟨v.ownByte, 5, 31, payload⟩] } := by
    simp only [settle_frame]
    rfl
  rw [report_of_room free, State.Answers, noted, link, State.ownByte, own]
  rfl

theorem HandedLink.unanswered (handed : s.HandedLink v) (queue : s.link.rx = f :: rest) (full : 4 ≤ s.link.tx.length)
    (payload : List Byte) : s.Unanswered (u.settle (v.report payload)) rest := by
  obtain ⟨link, -⟩ := handed
  rw [handDone_link queue] at link
  have none : 4 ≤ v.link.tx.length := by
    have tx : v.link.butSlot.tx = s.link.tx := by rw [link]; rfl
    exact full.trans_eq (congrArg List.length tx).symm
  have noted : (u.settle (v.modLink fun l =>
      { l with counters := { l.counters with unanswered := bump l.counters.unanswered } })).link.butSlot =
      { v.link.butSlot with counters :=
        { v.link.butSlot.counters with unanswered := bump v.link.butSlot.counters.unanswered } } := by
    simp only [settle_frame]
    rfl
  rw [report_of_full none, State.Unanswered, noted, link]
  rfl

/-! ## The rows -/

theorem commanded_of (queue : s.link.rx = f :: rest) (handing : s.link.handing = true) (kind : f.kind = 6) :
    s.commanded (f.payload.getD 0 0) = true := by
  unfold State.commanded
  rw [handed_of queue handing (kind := kindRemote) kind]
  exact beq_self_eq_true _

theorem commanded_eq_false (other : ∀ f rest, s.link.rx = f :: rest → s.link.handing = true → f.kind = 6 →
    f.payload.getD 0 0 ≠ code) : s.commanded code = false := by
  unfold State.commanded
  split
  next f handed =>
    obtain ⟨handing, kind, rest, queue⟩ := front_of_handed handed
    exact beq_eq_false_iff_ne.2 (other f rest queue handing kind)
  next => rfl

/-- What a REMOTE of the code brings about in `t`, as R155 and R178 say it. -/
def RemoteActs (s t : State) (code : Byte) (top bin : Bool) (rest : List Frame) : Prop :=
  (code = 1 → t.lines = { s.lines with top := top, bin := bin }) ∧ (code ≠ 1 → t.lines = s.lines) ∧
  (4 ≤ s.link.tx.length → s.Unanswered t rest) ∧
  (s.localStrap = true →
    (s.TopSeen code top ∨ s.KeepsBut t [.lines, .link]) ∧
    (s.link.tx.length < 4 → s.Answers t rest [2, code, 2])) ∧
  (s.localStrap = false → s.Ignores code →
    (s.TopSeen code top ∨ s.KeepsBut t [.lines, .link]) ∧
    (s.link.tx.length < 4 →
      s.Answers t rest [2, code, if code = 1 ∧ s.alarm.run = .alarm then 3 else 4])) ∧
  ((s.localStrap = true ∨ s.Ignores code) → code = 1 →
    ∀ d u, s.TopActs top d → exec d s = .next u → u.KeepsBut t [.lines, .link]) ∧
  (s.localStrap = false → ¬s.Ignores code →
    (s.link.tx.length < 4 → s.Answers t rest [2, code, 1] ∨
      s.TopSeen code top ∧ t.alarm.run = .alarm ∧ s.Answers t rest [2, code, 3]) ∧
    (code = 1 → s.TopActs top .headDrop → t.alarm.run = .alarm ∧
      (s.link.tx.length < 4 → s.Answers t rest [2, code, 3])) ∧
    ∀ u, exec (State.buttonOf code top bin) s = .next u → u.KeepsBut t [.lines, .link])

/-- The result of STOP and CLEAR by REMOTE. -/
def plainResult (s : State) (acts : Bool) : RemoteResult :=
  if s.localStrap then .local else if acts then .taken else .notNow

/-- STOP and CLEAR by REMOTE: neither samples TOP. -/
theorem RemoteActs.of_plain {acts : Bool} (queue : s.link.rx = f :: rest) (notRun : code ≠ 1)
    (ignores : s.Ignores code ↔ acts = false) (blind : Blind act) (frame : ∀ v, (act v).lines = v.lines ∧
      (act v).link.butSlot = v.link.butSlot ∧ (act v).ownAddr = v.ownAddr)
    (button : exec (buttonOf code top bin) s = if acts = true then .next (s.settle (act s)) else .next s) :
    s.RemoteActs (s.settle (s.handDone.remote code (s.plainResult acts) act)) code top bin rest := by
  have handed : s.HandedLink s.handDone := ⟨rfl, rfl⟩
  have after : s.HandedLink (act s.handDone) := ⟨(frame _).2.1, (frame _).2.2⟩
  have ignored (no : s.plainResult acts ≠ .taken) : s.handDone.remote code (s.plainResult acts) act =
      s.handDone.report [2, code, (s.plainResult acts).code] := by
    unfold State.remote
    rw [if_neg no]
    rfl
  have taken (yes : s.plainResult acts = .taken) : s.handDone.remote code (s.plainResult acts) act =
      (act s.handDone).report [2, code, 1] := by
    unfold State.remote
    rw [if_pos yes, yes]
    rfl
  have still (no : s.plainResult acts ≠ .taken) :
      s.KeepsBut (s.settle (s.handDone.remote code (s.plainResult acts) act)) [.lines, .link] := by
    rw [ignored no]
    exact (s.handDone_report_keepsBut _).mono (by simp)
  refine ⟨fun is => absurd is notRun, fun _ => ?lines, fun full => ?full, fun strap => ?strapped, fun clear no => ?ignores,
    fun _ is => absurd is notRun, fun clear yes => ⟨fun room => .inl ?_, fun is => absurd is notRun, fun u runs => ?_⟩⟩
  case lines =>
    by_cases yes : s.plainResult acts = .taken
    · rw [taken yes]
      simp [(frame s.handDone).1]
    · rw [ignored yes]
      simp
  case full =>
    by_cases yes : s.plainResult acts = .taken
    · rw [taken yes]
      exact after.unanswered queue full _
    · rw [ignored yes]
      exact handed.unanswered queue full _
  case strapped =>
    have result : s.plainResult acts = .local := if_pos strap
    refine ⟨.inr (still (by simp [result])), fun room => ?_⟩
    rw [ignored (by simp [result]), result]
    exact handed.answers queue room _
  case ignores =>
    have result : s.plainResult acts = .notNow := by simp [plainResult, clear, ignores.1 no]
    refine ⟨.inr (still (by simp [result])), fun room => ?_⟩
    rw [ignored (by simp [result]), result, if_neg fun h => notRun h.1]
    exact handed.answers queue room _
  all_goals
    have does : acts = true := by simpa using mt ignores.2 yes
    have result : s.plainResult acts = .taken := by simp [plainResult, clear, does]
    rw [taken result]
  · exact after.answers queue room _
  · have acted : s.settle (act s) = u := Host.Outcome.next.inj ((button.trans (if_pos does)).symm.trans runs)
    rw [← acted]
    exact (blind s.sameUnits_handDone).reported _

/-! ## RUN by REMOTE -/

theorem sample_run_of_stopped (stopped : s.alarm.run = .stopped) : (s.sample top bin).alarm.run = .stopped ∨
    (s.sample top bin).alarm.run = .alarm ∧ ∃ d, s.TopActs top d := by
  by_cases acts : ∃ d, s.TopActs top d
  · obtain ⟨d, ⟨rfl, returns, rfl⟩ | ⟨rfl, live, phase, rfl⟩⟩ := acts
    · rw [sample_of_return returns]
      rcases returnDone_stopped (s := s.pressLines true bin) stopped with ran | ran
      · rw [endIfQuiet_of_lasts (by simp [ran]) (by simp [ran])]
        exact .inl ran
      · rw [endIfQuiet_of_lasts (by simp [ran]) (by simp [ran])]
        exact .inr ⟨ran, .topEdge, .inl ⟨rfl, returns, rfl⟩⟩
    · rw [sample_of_drop live phase]
      exact .inr ⟨dropHead_run (by exact live), .headDrop, .inr ⟨rfl, live, phase, rfl⟩⟩
  · rw [sample_of_none fun d is => acts ⟨d, is⟩]
    exact .inl stopped

/-- RUN by REMOTE, once TOP has been sampled and the head unit has acted on it. -/
theorem RemoteActs.of_run {v : State} {result : RemoteResult} (queue : s.link.rx = f :: rest)
    (sampled : v = s.handDone.sample top bin)
    (results : result = if s.alarm.run = .stopped then v.runResult else s.runResult) :
    s.RemoteActs (s.settle (v.remote 1 result pressRun)) 1 top bin rest := by
  have same : (s.sample top bin).SameUnits v := by
    rw [sampled]
    exact sample_blind top bin s.sameUnits_handDone
  have alarm : v.alarm = (s.sample top bin).alarm := by
    obtain ⟨l, eq⟩ := same
    rw [eq]
    rfl
  have link : v.link.butSlot = s.handDone.link.butSlot := by
    rw [sampled]
    simp [State.sample]
  have reader : v.reader = s.reader := by
    rw [sampled, (sample_frame _ _ _).2.2.2.2.1]
    rfl
  have lines : v.lines = { s.lines with top := top, bin := bin } := by
    rw [sampled, (sample_frame _ _ _).2.2.2.1]
    rfl
  have own : v.ownAddr = s.ownAddr := by
    unfold State.ownAddr
    rw [reader]
  have strapSame : v.localStrap = s.localStrap := by
    unfold State.localStrap
    rw [reader]
  have handed : s.HandedLink v := ⟨link, own⟩
  have pressed : s.HandedLink v.pressRun := ⟨by simpa using link, by
    unfold State.ownAddr
    rw [(pressRun_frame v).2.2.2.2.2.1]
    exact own⟩
  have ignored (no : result ≠ .taken) : v.remote 1 result pressRun = v.report [2, 1, result.code] := by
    unfold State.remote
    rw [if_neg no]
    rfl
  have taken (yes : result = .taken) : v.remote 1 result pressRun = v.pressRun.report [2, 1, 1] := by
    unfold State.remote
    rw [if_pos yes, yes]
    rfl
  have still (none : ∀ d, ¬s.TopActs top d) (payload : List Byte) :
      s.KeepsBut (s.settle (v.report payload)) [.lines, .link] := by
    rw [sample_of_none none] at same
    exact keepsBut_settle ((Only.modLines s _ (by simp)).trans ((same.report payload).only (by simp))).keepsBut
  have seen (payload : List Byte) : s.TopSeen 1 top ∨ s.KeepsBut (s.settle (v.report payload)) [.lines, .link] := by
    by_cases acts : ∃ d, s.TopActs top d
    · exact .inl ⟨rfl, acts⟩
    · exact .inr (still (by simpa using acts) payload)
  have ignores : s.Ignores 1 ↔ s.alarm.run ≠ .stopped := by simp [State.Ignores]
  refine ⟨fun _ => ?lines, fun h => absurd rfl h, fun full => ?full, fun strap => ?strapped, fun clear no => ?ignores,
    fun none _ d u acts runs => ?acts, fun clear yes => ?does⟩
  case lines =>
    by_cases yes : result = .taken
    · rw [taken yes]
      simpa using lines
    · rw [ignored yes]
      simpa using lines
  case full =>
    by_cases yes : result = .taken
    · rw [taken yes]
      exact pressed.unanswered queue full _
    · rw [ignored yes]
      exact handed.unanswered queue full _
  case strapped =>
    have is : result = .local := by
      rw [results]
      split
      · exact if_pos (strapSame.trans strap)
      · exact if_pos strap
    rw [ignored (by simp [is]), is]
    exact ⟨seen _, fun room => handed.answers queue room _⟩
  case ignores =>
    have not := ignores.1 no
    have is : result = if s.alarm.run = .alarm then .alarmListed else .notNow := by
      rw [results, if_neg not, State.runResult, if_neg (by simp [clear])]
      cases run : s.alarm.run <;> simp_all
    have other : result ≠ .taken := by
      rw [is]
      split <;> simp
    rw [ignored other]
    refine ⟨seen _, fun room => ?_⟩
    have code : result.code = if (1 : Byte) = 1 ∧ s.alarm.run = .alarm then 3 else 4 := by
      rw [is]
      split <;> simp_all [RemoteResult.code]
    rw [code]
    exact handed.answers queue room _
  case acts =>
    obtain ⟨w, rfl, sample⟩ := sample_of_acts (bin := bin) acts runs
    have no : result ≠ .taken := by
      rw [results]
      rcases none with strap | no
      · rw [State.runResult, State.runResult, strapSame, if_pos strap, if_pos strap]
        simp
      · rw [if_neg (ignores.1 no), State.runResult]
        split
        · simp
        · cases run : s.alarm.run <;> simp_all
    rw [ignored no]
    rw [sample] at same
    exact ((Only.modLines w _ (by simp)).trans ((same.report _).only (by simp))).keepsBut.settled
  case does =>
    have stopped : s.alarm.run = .stopped := by simpa using mt ignores.2 yes
    have vResult : result = v.runResult := by rw [results, if_pos stopped]
    have button := exec_press (s := s) (c := buttonOf 1 top bin) (top := top) (bin := bin) (r := .running) (.inl ⟨rfl, rfl⟩)
    rcases sample_run_of_stopped (top := top) (bin := bin) stopped with ran | ⟨ran, acts⟩
    · have is : result = .taken := by
        rw [vResult, State.runResult, strapSame, if_neg (by simp [clear]), alarm, ran]
      rw [taken is]
      refine ⟨fun room => .inl (pressed.answers queue room _), fun _ drop => ?_, fun u runs => ?_⟩
      · obtain ⟨-, live, phase, low⟩ := drop.resolve_left nofun
        rw [low, sample_of_drop live phase, dropHead_run (by exact live)] at ran
        cases ran
      · rw [if_pos ⟨stopped, ran⟩] at button
        rw [← Host.Outcome.next.inj (button.symm.trans runs)]
        exact (pressRun_blind same).reported _
    · have is : result = .alarmListed := by
        rw [vResult, State.runResult, strapSame, if_neg (by simp [clear]), alarm, ran]
      rw [ignored (by simp [is]), is]
      have stands : (s.settle (v.report [2, 1, RemoteResult.alarmListed.code])).alarm.run = .alarm := by
        have kept : (v.report [2, 1, RemoteResult.alarmListed.code]).alarm = v.alarm := by simp
        simp only [settle_frame]
        rw [kept, alarm, ran]
      refine ⟨fun room => .inr ⟨⟨rfl, acts⟩, stands, handed.answers queue room _⟩,
        fun _ _ => ⟨stands, fun room => handed.answers queue room _⟩, fun u runs => ?_⟩
      rw [if_neg fun h => by simp [ran] at h] at button
      rw [← Host.Outcome.next.inj (button.symm.trans runs)]
      exact same.reported _

/-! ## STOP and CLEAR -/

theorem ownAddr_of_straps (straps : w.reader.straps = v.reader.straps) : w.ownAddr = v.ownAddr := by
  unfold State.ownAddr
  rw [straps]

theorem rewind_straps (s : State) (lap : Lap) (k : Nat) : (s.rewind lap k).reader.straps = s.reader.straps := by
  unfold State.rewind State.issueRead
  split <;> rfl

theorem recoverTape_straps (s : State) : s.recoverTape.reader.straps = s.reader.straps := by
  unfold State.recoverTape
  dsimp only
  rw [(checkFlush_frame _).2.2.2.2.2.1]
  split
  next => simp [rewind_straps]
  next => simp [rewind_straps]
  next => simp

theorem pressClear_straps (s : State) : s.pressClear.reader.straps = s.reader.straps := by
  have alarms : s.clearAlarms.reader = s.reader := by simp
  have tape : s.clearAlarms.clearTape.reader.straps = s.clearAlarms.reader.straps := by
    unfold State.clearTape
    split
    · rfl
    · split
      · rfl
      · rfl
      · exact recoverTape_straps _
  exact tape.trans (congrArg Reader.straps alarms)

theorem remoteStop_acts (queue : s.link.rx = f :: rest) :
    s.RemoteActs (s.settle (s.handDone.remote 2 s.stopResult pressStop)) 2 top bin rest := by
  refine RemoteActs.of_plain (acts := s.alarm.run.stops) queue (by decide) ?_ pressStop_blind (fun v => ?_) rfl
  · cases run : s.alarm.run <;> simp [State.Ignores, RunState.stops, run]
  · exact ⟨by simp, by simp, ownAddr_of_straps (by simp)⟩

theorem remoteClear_acts (queue : s.link.rx = f :: rest) :
    s.RemoteActs (s.settle (s.handDone.remote 3 s.clearResult pressClear)) 3 top bin rest := by
  refine RemoteActs.of_plain (acts := s.live) queue (by decide) ?_ pressClear_blind (fun v => ?_) rfl
  · rw [← Bool.not_eq_true, live_iff]
    simp [State.Ignores]
  · exact ⟨by simp, by simp, ownAddr_of_straps (pressClear_straps v)⟩

/-- The three rows differ in their code, their result and the button that they act as. -/
theorem exec_remote {c : Instr} (row : (code, c) ∈ [((1 : Byte), Instr.remoteRun top bin), (2, .remoteStop), (3, .remoteClear)]) :
    (s.commanded code = false → exec c s = .next s) ∧
    (s.commanded code = true → s.link.rx = f :: rest →
      ∃ t, exec c s = .next t ∧ s.RemoteActs t code top bin rest) := by
  simp only [List.mem_cons, List.not_mem_nil, or_false, Prod.mk.injEq] at row
  rcases row with ⟨rfl, rfl⟩ | ⟨rfl, rfl⟩ | ⟨rfl, rfl⟩
  · exact ⟨fun no => if_neg (Bool.not_eq_true _ ▸ no), fun yes queue => ⟨_, if_pos yes, .of_run queue rfl rfl⟩⟩
  · exact ⟨fun no => if_neg (Bool.not_eq_true _ ▸ no), fun yes queue => ⟨_, if_pos yes, remoteStop_acts queue⟩⟩
  · exact ⟨fun no => if_neg (Bool.not_eq_true _ ▸ no), fun yes queue => ⟨_, if_pos yes, remoteClear_acts queue⟩⟩

end State

/-- Settles O60: STOP and CLEAR by one argument, RUN with TOP sampled first. -/
theorem remotesActAsTheirButtons : Obligations.RemotesActAsTheirButtons := by
  intro s
  refine ⟨fun top bin code c row => ⟨fun other => ?idle, fun f rest queue handing kind names => ?acts⟩, fun other => ?known,
    fun f rest queue handing kind outside => ?unknown⟩
  case idle => exact (State.exec_remote (s := s) (f := default) (rest := []) row).1 (State.commanded_eq_false other)
  case acts =>
    have commanded := State.commanded_of queue handing kind
    rw [names] at commanded
    exact (State.exec_remote row).2 commanded queue
  case known =>
    change execRemoteOther s = _
    unfold execRemoteOther
    split
    next f handed =>
      obtain ⟨handing, kind, rest, queue⟩ := State.front_of_handed handed
      exact if_pos (by simpa [knownCommand, within] using other f rest queue handing kind)
    next => rfl
  case unknown =>
    have row : exec .remoteOther s = .next (s.settle (s.handDone.report [2, f.payload.getD 0 0, 4])) := by
      change execRemoteOther s = _
      unfold execRemoteOther
      rw [State.handed_of queue handing (kind := kindRemote) kind]
      refine if_neg ?_
      simp only [knownCommand, within, Bool.and_eq_true, decide_eq_true_eq]
      omega
    exact ⟨_, row, s.handDone_report_keepsBut _, fun full => .of_report queue full _, fun room => .of_report queue room _⟩

end Sys2Proof.Machine
end

section
/-!
# What every step leaves of the bookkeeping: the decision table and the relations (R46, R47, R53, R117, R118)

`State.Fair s t` says of one event what is asked of every step: nothing of the bookkeeping is left undone that was done
before, and what it did follows the rules. `State.Still` tells of an operation that the bookkeeping has nothing to do with,
`State.Prepares` of one that the bookkeeping follows.
-/
namespace Sys2Proof.Machine

/-! ## The decision table (R47) -/

theorem missReasonOf_code {v : Verdict} (notPending : v ≠ .pending) (notPass : v ≠ .pass) :
    (missReasonOf v).code = v.code := by
  cases v <;> first | rfl | contradiction

theorem Entry.tableGives_decisionOf {e : Entry} (notPending : e.verdict ≠ .pending) (o : Options) (mask : Mask) :
    e.TableGives o mask (decisionOf o false mask e) := by
  unfold Entry.TableGives decisionOf
  refine ⟨fun bad => by simp [bad], fun good => ⟨fun pass => by simp [good, pass], fun unchecked strict => ?_,
    fun reversed polarity => ?_, fun notPass strict polarity => ?_⟩⟩
  · simp [good, unchecked, strict]
  · simp [good, reversed, polarity]
  · refine ⟨missReasonOf e.verdict, ?_, missReasonOf_code notPending notPass⟩
    have notStrict : ¬(e.verdict = .unchecked ∧ o.strict = false) := fun h => by simp [strict h.1] at h
    have notPolarity : ¬(e.verdict = .reversed ∧ o.polarity = true) := fun h => by simp [polarity h.1] at h
    rw [if_neg (by simp), if_neg (by simp [good]), if_neg notPass, if_neg notStrict, if_neg notPolarity]

namespace State
variable {s t u : State} {e : Entry} {b : Board} {d : Decision}

/-- The decision that the bookkeeping makes is the one that R46 and R47 give. -/
theorem decisionFits_of_can (can : s.CanDecide e) (flush : t.tape.flush = s.tape.flush) (work : t.work = s.work)
    (rows : t.reader.rows = s.reader.rows) (hdr : t.hdr = s.hdr) :
    t.DecisionFits e (decisionOf s.options (s.tape.flush == some e.record.lap) ((s.workingBoard.map Board.mask).getD 0) e) := by
  obtain ⟨-, notPending, -, way⟩ := can
  unfold State.DecisionFits
  rw [flush, work, rows]
  refine ⟨notPending, fun flushed => by rw [flushed, beq_self_eq_true]; rfl, fun other => ?_⟩
  obtain ⟨b, working, held, lap, carries⟩ := way.resolve_left other
  have board : s.workingBoard = some b := workingBoard_iff.2 ⟨working, held⟩
  have options : t.options = s.options := by rw [State.options, State.header, hdr]; rfl
  have unflushed : (s.tape.flush == some e.record.lap) = false := beq_eq_false_iff_ne.2 other
  rw [options, board, unflushed]
  exact ⟨b, working, held, lap, carries, e.tableGives_decisionOf notPending _ _⟩

/-- The oldest entry after its decision is as it was, or has the decision that R46 and R47 give it. -/
theorem decideOldest_decided (head : s.decideOldest.tape.queue.head? = some e) (decision : e.decision = some d) :
    s.tape.queue.head? = some e ∨ s.decideOldest.DecisionFits e d := by
  by_cases can : ∃ e' es, s.tape.queue = e' :: es ∧ s.CanDecide e'
  · obtain ⟨e', es, queue, can⟩ := can
    have fits := decisionFits_of_can (t := s.decideOldest) can (by rw [decideOldest_rest]) (by simp) (by simp) (by simp)
    rw [decideOldest_of_can queue can] at head
    cases head
    cases decision
    exact .inr fits
  · have cannot : ∀ e, s.tape.queue.head? = some e → ¬s.CanDecide e := fun e head decides => by
      obtain ⟨es, queue⟩ := List.head?_eq_some_iff.1 head
      exact can ⟨e, es, queue, decides⟩
    rw [decideOldest_of_cannot cannot] at head
    exact .inl head

theorem bookkeep_decided (head : s.bookkeep.tape.queue.head? = some e) (decision : e.decision = some d) :
    s.tape.queue.head? = some e ∨ s.bookkeep.DecisionFits e d := by
  have tape : s.startBoard.takeRowHold.tape = s.tape := by simp
  exact tape ▸ decideOldest_decided head decision

/-! ## The relations -/

/-- An armed flush names the lap of the oldest entry (R53). -/
def FlushFits (s : State) : Prop :=
  ∀ e, s.tape.queue.head? = some e → s.tape.flush = none ∨ s.tape.flush = some e.record.lap

/-- Nothing is left for the bookkeeping, and an armed flush names the oldest entry's lap. -/
def Tidy (s : State) : Prop := s.BooksQuiet ∧ s.FlushFits

/-- A row hold that an event takes is taken as R118 says, where start-up reading has ended, no match is awaited and the work
position stands as R105 says. -/
def HoldsFair (s t : State) : Prop :=
  ∀ b b', s.WorkFits → s.trav.takeOpen = false → s.reader.scan = .idle → s.work.board = some b →
    s.work.state = .working → t.work.board = some b' → t.work.state = .working → b'.holds ≠ b.holds →
    t.HoldTaken b.holds

/-- What an event from `s` to `t` makes of the bookkeeping. -/
structure Fair (s t : State) : Prop where
  tidy : (s.ReadingUp → s.tape.queue = []) → s.Tidy → t.Tidy
  decided : s.WorkFits → s.DecidedIn t
  started : s.work.state ≠ .working → t.work.state = .working → t.BoardStarted
  held : s.HoldsFair t
  early : t.ReadingUp → s.ReadingUp

/-- From `s` to `t` nothing has changed that the bookkeeping reads, but that less may start. -/
structure Still (s t : State) : Prop where
  queue : t.tape.queue = s.tape.queue
  flush : t.tape.flush = s.tape.flush
  state : t.work.state = s.work.state
  board : t.work.board = s.work.board
  rows : t.reader.rows = s.reader.rows
  hdr : t.hdr = s.hdr
  early : t.ReadingUp → s.ReadingUp
  may : t.MayStart → s.MayStart

/-- From `s` to `u` no entry has been decided, no board started, no row hold taken. -/
structure Prepares (s u : State) : Prop where
  decisions : ∀ e ∈ u.tape.queue, ∀ d, e.decision = some d →
    ∃ e' ∈ s.tape.queue, e'.record = e.record ∧ e'.decision = some d
  working : u.work.state = .working →
    s.work.state = .working ∧ u.work.board.map Board.holds = s.work.board.map Board.holds
  past : s.work.state = .working ∨ s.work.state = .done → u.work.state = .working ∨ u.work.state = .done
  early : u.ReadingUp → s.ReadingUp

/-! ## An operation that the bookkeeping has nothing to do with -/

namespace Still

theorem refl (s : State) : s.Still s := ⟨rfl, rfl, rfl, rfl, rfl, rfl, id, id⟩

theorem trans (h : s.Still t) (k : t.Still u) : s.Still u :=
  ⟨k.queue.trans h.queue, k.flush.trans h.flush, k.state.trans h.state, k.board.trans h.board, k.rows.trans h.rows,
    k.hdr.trans h.hdr, h.early ∘ k.early, h.may ∘ k.may⟩

theorem ite {c : Prop} [Decidable c] (yes : c → s.Still t) (no : ¬c → s.Still u) : s.Still (if c then t else u) := by
  split
  · exact yes ‹_›
  · exact no ‹_›

theorem canStart (still : s.Still t) (can : t.CanStart) : s.CanStart := by
  unfold CanStart State.TapeLetsStart at *
  rw [still.state, still.board, still.queue, still.flush] at can
  exact can

theorem canDecide (still : s.Still t) (can : t.CanDecide e) : s.CanDecide e := by
  unfold State.CanDecide at *
  rw [still.state, still.board, still.flush, still.rows] at can
  exact can

theorem quiet (still : s.Still t) (quiet : s.BooksQuiet) : t.BooksQuiet := by
  obtain ⟨cannot, noneDue, decided⟩ := quiet
  unfold BooksQuiet
  refine ⟨fun can => cannot (still.canStart can), fun e b due => noneDue e b ?_, fun e head can =>
    decided e (still.queue ▸ head) (still.canDecide can)⟩
  · unfold State.HoldDue at *
    rw [still.state, still.board, still.queue, still.flush, still.rows] at due
    obtain ⟨a1, a2, a3, a4, a5, a6, a7, a8, a9, a10, a11, may⟩ := due
    exact ⟨a1, a2, a3, a4, a5, a6, a7, a8, a9, a10, a11, still.may may⟩

theorem flushFits (still : s.Still t) (fits : s.FlushFits) : t.FlushFits := by
  unfold FlushFits
  rw [still.queue, still.flush]
  exact fits

theorem decisionFits (still : s.Still t) (fits : s.DecisionFits e d) : t.DecisionFits e d := by
  unfold State.DecisionFits State.options State.header at *
  rw [still.state, still.board, still.flush, still.rows, still.hdr]
  exact fits

theorem fair (still : s.Still t) : s.Fair t where
  tidy _ tidy := ⟨still.quiet tidy.1, still.flushFits tidy.2⟩
  decided _ e d head decision := .inl ⟨e, List.mem_of_head? (still.queue ▸ head), rfl, decision⟩
  started not working := absurd (still.state.symm.trans working) not
  held b b' _ _ _ before _ after _ other := by
    rw [still.board, before] at after
    cases after
    exact absurd rfl other
  early := still.early

theorem prepares (still : s.Still t) : s.Prepares t where
  decisions e mem d decision := ⟨e, still.queue ▸ mem, rfl, decision⟩
  working working := ⟨still.state.symm.trans working, by rw [still.board]⟩
  past := by
    rw [still.state]
    exact id
  early := still.early

end Still

/-! ## An event followed by what the bookkeeping has nothing to do with -/

namespace Fair

theorem refl (s : State) : s.Fair s := (Still.refl s).fair

/-- An event that leaves the work position alone starts no board and takes no row hold. -/
theorem of_work (work : t.work = s.work) (tidy : (s.ReadingUp → s.tape.queue = []) → s.Tidy → t.Tidy)
    (decided : s.WorkFits → s.DecidedIn t) (early : t.ReadingUp → s.ReadingUp) : s.Fair t where
  tidy := tidy
  decided := decided
  started not working := absurd (work ▸ working) not
  held b b' _ _ _ before _ after _ other := by
    rw [work, before] at after
    cases after
    exact absurd rfl other
  early := early

/-- An event after which no board is WORKING has started none and held none. -/
theorem of_not_working (not : t.work.state ≠ .working) (tidy : (s.ReadingUp → s.tape.queue = []) → s.Tidy → t.Tidy)
    (decided : s.WorkFits → s.DecidedIn t) (early : t.ReadingUp → s.ReadingUp) : s.Fair t :=
  ⟨tidy, decided, fun _ working => absurd working not, fun _ _ _ _ _ _ _ _ working => absurd working not, early⟩

theorem then_still (fair : s.Fair t) (still : t.Still u) (started : t.BoardStarted → u.BoardStarted)
    (held : ∀ h, t.HoldTaken h → u.HoldTaken h) : s.Fair u where
  tidy empty tidy := ⟨still.quiet (fair.tidy empty tidy).1, still.flushFits (fair.tidy empty tidy).2⟩
  decided fits e d head decision := by
    rw [still.queue] at head
    exact (fair.decided fits e d head decision).imp_right still.decisionFits
  started not working := started (fair.started not (still.state ▸ working))
  held b b' fits shut idle before working after working' other :=
    held _ (fair.held b b' fits shut idle before working (still.board ▸ after) (still.state ▸ working') other)
  early := fair.early ∘ still.early

theorem endIfQuiet (fair : s.Fair t) : s.Fair t.endIfQuiet :=
  fair.then_still ⟨by simp, by simp, by simp, by simp, by simp, by simp, by simp [ReadingUp], endIfQuiet_mayStart⟩
    BoardStarted.endIfQuiet fun _ => HoldTaken.endIfQuiet

theorem settle (fair : s.Fair t) : s.Fair (u.settle t) :=
  fair.then_still ⟨by simp, by simp, by simp, by simp, by simp, by simp, by simp [ReadingUp], by simp [State.MayStart]⟩
    BoardStarted.settle fun _ => HoldTaken.settle

theorem tryFeed (fair : s.Fair t) : s.Fair t.tryFeed :=
  fair.then_still ⟨by rw [tryFeed_tape], by rw [tryFeed_tape], by simp, by simp, by simp, by simp, by simp [ReadingUp],
      by simp [State.MayStart]⟩
    (fun started => started.of_same ⟨by rw [tryFeed_tape], by rw [tryFeed_tape]⟩ (by simp) (by simp) (by simp) (by simp))
    fun _ taken => taken.of_same ⟨by rw [tryFeed_tape], by rw [tryFeed_tape]⟩ (by simp) (by simp) (by simp) (by simp)

theorem modHead (fair : s.Fair t) {f : Head → Head} (last : (f t.head).lastCycle = t.head.lastCycle) :
    s.Fair (t.modHead f) :=
  fair.then_still ⟨rfl, rfl, rfl, rfl, rfl, rfl, id, id⟩
    (fun started => started.of_same (.of_tape rfl) rfl rfl rfl fun gone => last.trans gone)
    fun _ taken => taken.of_same (.of_tape rfl) rfl rfl rfl (.inl rfl)

end Fair

/-! ## The bookkeeping after an operation that prepares it -/

theorem FlushFits.of_same (same : s.SameOldest t) (fits : s.FlushFits) : t.FlushFits := fun e head => by
  obtain ⟨e', head', record⟩ := same.symm.head head
  rw [same.2, ← record]
  exact fits e' head'

theorem bookkeep_state (cannot : ¬s.CanStart) : s.bookkeep.work.state = s.work.state := by
  have kept : s.bookkeep.work = s.startBoard.takeRowHold.work := by simp [State.bookkeep]
  rw [kept, (takeRowHold_board _).1, startBoard_of_cannot cannot]

/-- A row hold that the bookkeeping takes. -/
theorem bookkeep_holdTaken {b' : Board} (cannot : ¬s.CanStart) (before : s.work.board = some b)
    (after : s.bookkeep.work.board = some b') (other : b'.holds ≠ b.holds) : s.bookkeep.HoldTaken b.holds := by
  by_cases due : ∃ e c, s.HoldDue e c
  · obtain ⟨e, c, due⟩ := due
    obtain rfl : b = c := Option.some.inj (before.symm.trans due.2.1)
    exact due.bookkeep
  · have kept : s.bookkeep.work.board = s.work.board := by
      rw [bookkeep_of_neither cannot (by simpa using due)]
      simp
    rw [kept, before] at after
    cases after
    exact absurd rfl other

/-- The bookkeeping after an operation that has decided nothing, started no board and taken no row hold. -/
theorem Fair.of_bookkeep (decisions : ∀ e ∈ u.tape.queue, ∀ d, e.decision = some d →
      ∃ e' ∈ s.tape.queue, e'.record = e.record ∧ e'.decision = some d)
    (kept : u.work.state = .working → s.work.state = .working ∧ u.work.board.map Board.holds = s.work.board.map Board.holds)
    (notReady : s.WorkFits → s.trav.takeOpen = false → s.reader.scan = .idle → s.work.state = .working →
      u.work.state ≠ .ready)
    (flush : s.FlushFits → u.FlushFits) (early : u.ReadingUp → s.ReadingUp) : s.Fair u.bookkeep where
  tidy _ tidy := ⟨bookkeep_quiet u, .of_same (bookkeep_sameOldest u) (flush tidy.2)⟩
  decided _ e d head decision := by
    rcases bookkeep_decided head decision with old | fits
    · exact .inl (decisions e (List.mem_of_head? old) d decision)
    · exact .inr fits
  started not working := by
    by_cases can : u.CanStart
    · exact can.bookkeep
    · exact absurd (kept ((bookkeep_state can).symm.trans working)).1 not
  held b b' fits shut idle before isWorking after working other := by
    have cannot : ¬u.CanStart := fun can => notReady fits shut idle isWorking can.1
    have holds := (kept ((bookkeep_state cannot).symm.trans working)).2
    rw [before, Option.map_some, Option.map_eq_some_iff] at holds
    obtain ⟨c, held, same⟩ := holds
    rw [← same] at other ⊢
    exact bookkeep_holdTaken cannot held after other
  early up := early (by simpa [ReadingUp] using up)

namespace Prepares

theorem trans (h : s.Prepares t) (k : t.Prepares u) : s.Prepares u where
  decisions e mem d decision := by
    obtain ⟨e₁, mem₁, record₁, decision₁⟩ := k.decisions e mem d decision
    obtain ⟨e₂, mem₂, record₂, decision₂⟩ := h.decisions e₁ mem₁ d decision₁
    exact ⟨e₂, mem₂, record₂.trans record₁, decision₂⟩
  working working := by
    obtain ⟨working₁, holds₁⟩ := k.working working
    obtain ⟨working₂, holds₂⟩ := h.working working₁
    exact ⟨working₂, holds₁.trans holds₂⟩
  past := k.past ∘ h.past
  early := h.early ∘ k.early

theorem ite {c : Prop} [Decidable c] (yes : c → s.Prepares t) (no : ¬c → s.Prepares u) :
    s.Prepares (if c then t else u) := by
  split
  · exact yes ‹_›
  · exact no ‹_›

theorem bookkeep (prepares : s.Prepares u) (flush : s.FlushFits → u.FlushFits) : s.Fair u.bookkeep :=
  .of_bookkeep prepares.decisions prepares.working (fun _ _ _ working ready => by
    rcases prepares.past (.inl working) with h | h <;> simp [ready] at h) flush prepares.early

/-- A verdict given, the row hold and the decision without the start of a board. -/
theorem hold (prepares : s.Prepares u) (flush : s.FlushFits → u.FlushFits) (cannot : u.CanStart → s.CanStart)
    (state : u.work.state = s.work.state) :
    s.Fair u.takeRowHold.decideOldest := by
  by_cases can : u.CanStart
  case neg =>
    have same : u.takeRowHold.decideOldest = u.bookkeep := by rw [State.bookkeep, startBoard_of_cannot can]
    rw [same]
    exact prepares.bookkeep flush
  have ready := (cannot can).1
  refine ⟨fun _ tidy => absurd (cannot can) tidy.1.1, fun _ e d head decision => ?_, fun not working => ?_,
    fun b b' _ _ _ _ working => by simp [ready] at working, fun up => prepares.early (by simpa [ReadingUp] using up)⟩
  · rcases decideOldest_decided head decision with old | fits
    · exact .inl (prepares.decisions e (List.mem_of_head? (by simpa using old)) d decision)
    · exact .inr fits
  · simp only [decideOldest_frame] at working
    rw [(takeRowHold_board u).1, state] at working
    exact absurd working not

end Prepares

end State

end Sys2Proof.Machine
end

section
/-!
# The operations that the bookkeeping has nothing to do with, and those that prepare it
-/
namespace Sys2Proof.Machine

namespace State
variable {s t u : State} {e : Entry} {b : Board} {ps : List Part}

/-! ## Less may start -/

/-- Less may start where the run state stays, or is none in which work starts, and the step used stays. -/
theorem mayStart_of_run (run : t.alarm.run = s.alarm.run ∨ t.alarm.run ≠ .running ∧ t.alarm.run ≠ .stepping)
    (used : t.alarm.stepUsed = s.alarm.stepUsed) (may : t.MayStart) : s.MayStart := by
  rcases run with run | ⟨notRunning, notStepping⟩
  · unfold State.MayStart at *
    rwa [run, used] at may
  · rcases may with h | ⟨h, -⟩
    · exact absurd h notRunning
    · exact absurd h notStepping

theorem raise_mayStart (r : Raise) (may : (s.raise r).MayStart) : s.MayStart :=
  mayStart_of_run ((raise_run s r).imp_right fun h => by simp [h]) (raise_stepUsed s r) may

theorem evaluate_mayStart (id : MonitorId) (v : Nat) (may : (s.evaluate id v).MayStart) : s.MayStart :=
  mayStart_of_run ((evaluate_run s id v).imp_right fun h => by simp [h]) (evaluate_stepUsed s id v) may

theorem useStep_mayStart (may : s.useStep.MayStart) : s.MayStart := by
  unfold State.MayStart at *
  rw [useStep_run, useStep_alarm] at may
  by_cases stepping : s.alarm.run = .stepping
  · simp [stepping] at may
  · simpa [stepping] using may

theorem setRun_mayStart {r : RunState} (running : r ≠ .running) (stepping : r ≠ .stepping) (may : (s.setRun r).MayStart) :
    s.MayStart := by
  simp [State.MayStart, running, stepping] at may

namespace Still

theorem of_keepsBut (kept : s.KeepsBut t ps) (tape : .tape ∉ ps) (work : .work ∉ ps) (reader : .reader ∉ ps)
    (may : t.MayStart → s.MayStart) : s.Still t := by
  obtain ⟨-, -, hdr, -, readerSame, -, tapeSame, -, -, workSame, -⟩ := kept
  have reader' := readerSame.resolve_left reader
  have tape' := tapeSame.resolve_left tape
  have work' := workSame.resolve_left work
  exact ⟨by rw [tape'], by rw [tape'], by rw [work'], by rw [work'], by rw [reader'], hdr,
    by unfold ReadingUp; rw [reader']; exact id, may⟩

theorem modLines (s : State) (f : Lines → Lines) : s.Still (s.modLines f) := ⟨rfl, rfl, rfl, rfl, rfl, rfl, id, id⟩
theorem modVerifier (s : State) (f : Verifier → Verifier) : s.Still (s.modVerifier f) :=
  ⟨rfl, rfl, rfl, rfl, rfl, rfl, id, id⟩
theorem modTable (s : State) (f : Table → Table) : s.Still (s.modTable f) := ⟨rfl, rfl, rfl, rfl, rfl, rfl, id, id⟩
theorem modHead (s : State) (f : Head → Head) : s.Still (s.modHead f) := ⟨rfl, rfl, rfl, rfl, rfl, rfl, id, id⟩
theorem modTrav (s : State) (f : Trav → Trav) : s.Still (s.modTrav f) := ⟨rfl, rfl, rfl, rfl, rfl, rfl, id, id⟩
theorem modLink (s : State) (f : Link → Link) : s.Still (s.modLink f) := ⟨rfl, rfl, rfl, rfl, rfl, rfl, id, id⟩

theorem modAlarm {f : Alarm → Alarm} (run : (f s.alarm).run = s.alarm.run)
    (used : (f s.alarm).stepUsed = s.alarm.stepUsed) : s.Still (s.modAlarm f) :=
  ⟨rfl, rfl, rfl, rfl, rfl, rfl, id, mayStart_of_run (.inl run) used⟩

theorem modTape {f : Tape → Tape} (queue : (f s.tape).queue = s.tape.queue) (flush : (f s.tape).flush = s.tape.flush) :
    s.Still (s.modTape f) := ⟨queue, flush, rfl, rfl, rfl, rfl, id, id⟩

theorem modReader {f : Reader → Reader} (rows : (f s.reader).rows = s.reader.rows)
    (straps : (f s.reader).straps = s.reader.straps) (scan : (f s.reader).scan = s.reader.scan) :
    s.Still (s.modReader f) :=
  ⟨rfl, rfl, rfl, rfl, rows, rfl, by unfold ReadingUp; rw [modReader_reader, straps, scan]; exact id, id⟩

theorem modWork {f : Work → Work} (state : (f s.work).state = s.work.state) (board : (f s.work).board = s.work.board) :
    s.Still (s.modWork f) := ⟨rfl, rfl, state, board, rfl, rfl, id, id⟩

theorem raise (s : State) (r : Raise) : s.Still (s.raise r) :=
  of_keepsBut (raise_only s r (ps := [.alarm]) (by simp)).keepsBut (by simp) (by simp) (by simp) (raise_mayStart r)

theorem evaluate (s : State) (id : MonitorId) (v : Nat) : s.Still (s.evaluate id v) :=
  of_keepsBut (evaluate_only s id v (ps := [.alarm]) (by simp)).keepsBut (by simp) (by simp) (by simp)
    (evaluate_mayStart id v)

theorem setRun {r : RunState} (running : r ≠ .running) (stepping : r ≠ .stepping) : s.Still (s.setRun r) :=
  of_keepsBut (setRun_only running (ps := [.alarm]) (by simp)).keepsBut (by simp) (by simp) (by simp)
    (setRun_mayStart running stepping)

theorem endIfQuiet (s : State) : s.Still s.endIfQuiet :=
  of_keepsBut (endIfQuiet_only s (ps := [.alarm]) (by simp)).keepsBut (by simp) (by simp) (by simp) endIfQuiet_mayStart

theorem useStep (s : State) : s.Still s.useStep :=
  of_keepsBut (useStep_only s (ps := [.alarm]) (by simp)).keepsBut (by simp) (by simp) (by simp) useStep_mayStart

theorem reportCondition (s : State) (c : AlarmCode) (active : Bool) : s.Still (s.reportCondition c active) :=
  modAlarm rfl rfl

theorem tryFeed (s : State) : s.Still s.tryFeed :=
  ⟨by rw [tryFeed_tape], by rw [tryFeed_tape], by simp, by simp, by simp, by simp, by simp [ReadingUp],
    by simp [State.MayStart]⟩

theorem abandon (s : State) : s.Still s.abandon := ite (fun _ => refl s) fun _ => modVerifier s _

theorem issueRead (s : State) : s.Still s.issueRead := ite (fun _ => modReader rfl rfl rfl) fun _ => refl s

theorem rewind (s : State) (lap : Lap) (k : Nat) : s.Still (s.rewind lap k) := (modReader rfl rfl rfl).trans (issueRead _)

theorem breakTape (s : State) : s.Still s.breakTape := (modTape rfl rfl).trans (raise _ _)

theorem dropHead (s : State) : s.Still s.dropHead := (modHead s _).trans (raise _ _)

theorem followStopline (s : State) : s.Still s.followStopline := ite (fun _ => setRun (by simp) (by simp)) fun _ => refl s

theorem handDone (s : State) : s.Still s.handDone := modLink s _

theorem report (s : State) (payload : List Byte) : s.Still (s.report payload) :=
  ite (fun _ => modLink s _) fun _ => modLink s _

theorem pressStop (s : State) : s.Still s.pressStop :=
  (modAlarm rfl rfl).trans ((setRun (by simp) (by simp)).trans (endIfQuiet _))

theorem askAgain (s : State) (p : Purpose) : s.Still (s.askAgain p) := by
  unfold State.askAgain
  split
  · exact modTable s _
  · exact refl s

theorem hitLimit (s : State) : s.Still s.hitLimit := by
  unfold State.hitLimit
  split
  · exact (modTable s _).trans (raise _ _)
  · exact ((modTable s _).trans (raise _ _)).trans (askAgain _ _)
  · exact reportCondition s _ _

theorem refuseMove (s : State) (k : Option Nat) : s.Still (s.refuseMove k) := (modTable s _).trans (raise _ _)

theorem tryInsertMove (s : State) : s.Still s.tryInsertMove := by
  unfold State.tryInsertMove
  split
  · exact refl s
  · exact ite (fun _ => refuseMove s _) fun _ => modTable s _

theorem clearAlarms (s : State) : s.Still s.clearAlarms := by
  unfold State.clearAlarms
  dsimp only
  split
  · exact (modAlarm rfl rfl).trans ((setRun (by simp) (by simp)).trans (endIfQuiet _))
  · exact modAlarm rfl rfl

theorem expire (s : State) (serial : Serial) : s.Still (s.expire serial) := by
  unfold State.expire
  dsimp only
  split
  · exact (modTrav s _).trans (modLink _ _)
  · exact (modTrav s _).trans (modTrav _ _)

/-! ## Characters and frames -/

theorem testContents (s : State) (f : Frame) : s.Still (s.testContents f) :=
  ite (fun _ => modLink s _) fun _ => ite (fun _ => (modLink s _).trans (raise _ _)) fun _ =>
    ite (fun _ => modLink s _) fun _ => refl s

theorem testFrame (s : State) (own : Bool) (bytes : List Byte) : s.Still (s.testFrame own bytes) := by
  refine ite (fun _ => refl s) fun _ => ite (fun _ => modLink s _) fun _ => ?_
  split
  · exact testContents s _
  · exact refl s

theorem takeByte (s : State) (b : Byte) : s.Still (s.takeByte b) := by
  unfold State.takeByte
  split
  · exact modLink s _
  · exact refl s
  · exact ite (fun _ => modLink s _) fun _ => ite (fun _ => (modLink s _).trans (testFrame _ _ _)) fun _ => modLink s _

theorem characterEnds (s : State) (ch : Character) : s.Still (s.characterEnds ch) := by
  have hunted : s.Still ((s.modLines fun l => { l with link := ch.stop }).modLink
      fun l => { l with inCharacter := false, idle := 0, idlePart := 0 }) := (modLines s _).trans (modLink _ _)
  unfold State.characterEnds
  dsimp only
  split
  · exact hunted.trans (takeByte _ _)
  · unfold State.takeBroken
    split
    · exact hunted
    · exact hunted.trans (modLink _ _)

end Still

end State
end Sys2Proof.Machine
end

section
/-!
# What the bookkeeping follows: removals, verdicts, outcomes, and the operations on the board
-/
namespace Sys2Proof.Machine

theorem Board.count_holds (b : Board) (k : Nat) (o : StepOutcome) : (b.count k o).holds = b.holds := by
  unfold Board.count
  split
  · rfl
  · rfl
  · split <;> rfl

namespace State
variable {s t u v : State} {e : Entry} {b : Board}

/-! ## The tape -/

theorem checkFlush_flushFits (s : State) : s.checkFlush.FlushFits := by
  intro e head
  rw [(checkFlush_queue_fault s).1] at head
  obtain ⟨es, isQueue⟩ := List.head?_eq_some_iff.1 head
  cases flush : s.tape.flush with
  | none =>
    have same : s.checkFlush = s := by simp [State.checkFlush, flush]
    exact .inl (by rw [same, flush])
  | some l =>
    rw [checkFlush_tape_cons isQueue flush]
    by_cases lap : e.record.lap = l
    · exact .inr (by simp [lap])
    · exact .inl (by simp [lap])

namespace Prepares

/-- A change of the tape that decides no entry. -/
theorem modTape {f : Tape → Tape} (decisions : ∀ e ∈ (f s.tape).queue, ∀ d, e.decision = some d →
    ∃ e' ∈ s.tape.queue, e'.record = e.record ∧ e'.decision = some d) : s.Prepares (s.modTape f) :=
  ⟨decisions, fun working => ⟨working, rfl⟩, id, id⟩

theorem checkFlush (s : State) : s.Prepares s.checkFlush where
  decisions e mem _ decision := ⟨e, (checkFlush_queue_fault s).1 ▸ mem, rfl, decision⟩
  working working := ⟨by simpa using working, by simp⟩
  past := by
    simp only [checkFlush_frame]
    exact id
  early := by simp [ReadingUp]

theorem removeOldest (s : State) : s.Prepares s.removeOldest :=
  modTape fun e mem _ decision => ⟨e, List.mem_of_mem_tail mem, rfl, decision⟩

theorem followOn (prepares : s.Prepares u) : s.Fair u.followOn :=
  ((prepares.trans (.checkFlush u)).bookkeep fun _ => checkFlush_flushFits u).tryFeed

/-- A change of the work position at which the board stays, but for what its record counts, or is DONE. -/
theorem modWork {f : Work → Work} (way : (f s.work).state = s.work.state ∨ (f s.work).state = .done)
    (holds : (f s.work).board.map Board.holds = s.work.board.map Board.holds) : s.Prepares (s.modWork f) where
  decisions e mem d decision := ⟨e, mem, rfl, decision⟩
  working working := ⟨way.elim (fun same => same.symm.trans working) fun done => (nomatch done.symm.trans working), holds⟩
  past past := by
    rcases way with same | done
    · rw [← same] at past
      exact past
    · exact .inr done
  early := id

theorem countOutcome {b : Board} (held : s.work.board = some b) (k : Nat) (o : StepOutcome) :
    s.Prepares (s.countOutcome (b.count k o) o) := by
  have counted : s.Prepares (s.modWork fun w => { w with board := some (b.count k o) }) :=
    modWork (.inl rfl) (by rw [held]; simp [Board.count_holds])
  cases o with
  | inserted => exact counted
  | passed => exact counted
  | missed r => exact counted.trans (Still.evaluate _ _ _).prepares

theorem takeOutcome (s : State) (lap : Lap) (k : Nat) (o : StepOutcome) : s.Prepares (s.takeOutcome lap k o) := by
  cases working : s.workingBoard with
  | none =>
    unfold State.takeOutcome
    rw [working]
    exact (Still.refl s).prepares
  | some b =>
    obtain ⟨-, held⟩ := workingBoard_eq_some working
    rw [takeOutcome_of_working working]
    have counted := countOutcome held k o
    refine ite (fun _ => ite (fun _ => counted.trans (modWork (.inr rfl) ?_)) fun _ => counted) fun _ =>
      (Still.refl s).prepares
    simp [Board.complete]

end Prepares

/-! ## The operations on the board -/

/-- From `s` to `t` an operation has worked on the board, which is neither made READY nor WORKING. -/
def Shifts (s t : State) : Prop :=
  s.Worked (fun _ => True) t ∧
    (t.work.state = .ready ∨ t.work.state = .working → t.work.state = s.work.state ∧ t.work.board = s.work.board)

/-- From `s` to `t` an operation has worked on the board; where it has made it READY, the bookkeeping followed. -/
def Places (s t : State) : Prop :=
  s.Shifts t ∨ ∃ u, s.Worked (fun _ => True) u ∧ u.work.state = .ready ∧ t = u.bookkeep

namespace Shifts

theorem refl (s : State) : s.Shifts s := ⟨.refl fun _ _ => trivial, fun _ => ⟨rfl, rfl⟩⟩

theorem trans (h : s.Shifts t) (k : t.Shifts u) : s.Shifts u := by
  refine ⟨h.1.trans k.1, fun is => ?_⟩
  obtain ⟨state, board⟩ := k.2 is
  rw [state] at is
  exact ⟨state.trans (h.2 is).1, board.trans (h.2 is).2⟩

theorem ite {c : Prop} [Decidable c] (yes : c → s.Shifts t) (no : ¬c → s.Shifts u) : s.Shifts (if c then t else u) := by
  split
  · exact yes ‹_›
  · exact no ‹_›

theorem modTrav (s : State) (f : Trav → Trav) : s.Shifts (s.modTrav f) :=
  ⟨.modTrav f fun _ _ => trivial, fun _ => ⟨rfl, rfl⟩⟩

theorem modWork_same {f : Work → Work} (state : (f s.work).state = s.work.state) (board : (f s.work).board = s.work.board) :
    s.Shifts (s.modWork f) := ⟨.modWork f fun _ _ => trivial, fun _ => ⟨state, board⟩⟩

theorem modWork_off {f : Work → Work} (notReady : (f s.work).state ≠ .ready) (notWorking : (f s.work).state ≠ .working) :
    s.Shifts (s.modWork f) := ⟨.modWork f fun _ _ => trivial, fun is => is.elim (absurd · notReady) (absurd · notWorking)⟩

theorem drive (s : State) (k : OpKind) : s.Shifts (s.drive k) := modWork_same (by cases k <;> rfl) (by cases k <;> rfl)

theorem boardCleared (s : State) : s.Shifts s.boardCleared := ite (fun _ => modTrav s _) fun _ => refl s

theorem conveyorOutDone (s : State) : s.Shifts s.conveyorOutDone := by
  have cleared : s.Shifts (if s.role = .lineEnd then s else s.boardCleared) := ite (fun _ => refl s) fun _ => boardCleared s
  exact cleared.trans (modWork_off (f := fun w => { w with
    convOut := false, op := none, opTimer := none, board := none, state := .empty }) (by simp) (by simp))

theorem startConveyorOut (s : State) : s.Shifts s.startConveyorOut :=
  ite (fun _ => (drive s _).trans (conveyorOutDone _)) fun _ => drive s _

theorem toConveyorOut (s : State) : s.Shifts s.toConveyorOut :=
  ite (fun _ => (modWork_same rfl rfl).trans (startConveyorOut _)) fun _ => modWork_same rfl rfl

theorem startUnclamp (s : State) : s.Shifts s.startUnclamp :=
  ite (fun _ => (drive s _).trans (toConveyorOut _)) fun _ => drive s _

theorem releaseBoard (s : State) : s.Shifts s.releaseBoard :=
  ite (fun _ => (modWork_off (by simp) (by simp)).trans (startUnclamp _)) fun _ =>
    (modWork_off (by simp) (by simp)).trans (toConveyorOut _)

theorem places (h : s.Shifts t) (k : t.Places u) : s.Places u :=
  k.imp h.trans fun ⟨v, worked, ready, eq⟩ => ⟨v, h.1.trans worked, ready, eq⟩

end Shifts

/-- Quiet books stay so where an operation has made no board READY or WORKING. -/
theorem BooksQuiet.of_kept (quiet : s.BooksQuiet) (worked : s.Worked (fun _ => True) t)
    (kept : t.work.state = .ready ∨ t.work.state = .working → t.work.state = s.work.state ∧ t.work.board = s.work.board) :
    t.BooksQuiet := by
  obtain ⟨-, -, -, -, reader, -, tape, -, alarm, -⟩ := worked.frame
  obtain ⟨cannot, noneDue, decided⟩ := quiet
  unfold BooksQuiet CanStart State.TapeLetsStart State.HoldDue State.CanDecide State.MayStart at *
  rw [tape, reader, alarm]
  refine ⟨fun can => ?_, fun e b due => ?_, fun e head can => ?_⟩
  · obtain ⟨state, board⟩ := kept (.inl can.1)
    rw [state, board] at can
    exact cannot can
  · obtain ⟨state, board⟩ := kept (.inr due.1)
    rw [state, board] at due
    exact noneDue e b due
  · obtain ⟨a1, a2, a3, flushed | ⟨b, working, rest⟩⟩ := can
    · exact decided e head ⟨a1, a2, a3, .inl flushed⟩
    · obtain ⟨state, board⟩ := kept (.inr working)
      rw [board] at rest
      exact decided e head ⟨a1, a2, a3, .inr ⟨b, state ▸ working, rest⟩⟩

namespace Places

theorem ite {c : Prop} [Decidable c] (yes : c → s.Places t) (no : ¬c → s.Places u) : s.Places (if c then t else u) := by
  split
  · exact yes ‹_›
  · exact no ‹_›

/-- The board made READY. -/
theorem ready {f : Work → Work} (ready : (f s.work).state = .ready) : s.Places (s.modWork f).bookkeep :=
  .inr ⟨s.modWork f, .modWork f fun _ _ => trivial, ready, rfl⟩

theorem scanFrom (s : State) (start : Nat) : s.Places (s.scanFrom start) := by
  unfold State.scanFrom
  split
  · exact .inl ((Shifts.modWork_same rfl rfl).trans ⟨.markRequest _ fun _ _ => trivial, fun _ => ⟨rfl, rfl⟩⟩)
  · exact ready rfl

theorem clampDone (s : State) : s.Places s.clampDone := by
  unfold State.clampDone
  dsimp only
  split
  · have scanning := Shifts.modWork_off (s := s) (f := fun w =>
      { w with clamped := true, clampOn := true, op := none, opTimer := none, state := .scanning }) (by simp) (by simp)
    exact scanning.places (scanFrom _ 0)
  · exact ready (s := s) (f := fun w =>
      { w with clamped := true, clampOn := true, op := none, opTimer := none, state := .ready }) rfl

theorem startClamp (s : State) : s.Places s.startClamp :=
  ite (fun _ => (Shifts.drive s _).places (clampDone _)) fun _ => .inl (.drive s _)

theorem boardMade (s : State) (b : Board) : s.Places (s.boardMade b) := by
  have done := Shifts.modWork_off (s := s) (f := fun w =>
    { w with board := some b, matchTimer := none, op := none, opTimer := none, state := .done }) (by simp) (by simp)
  have clamping := Shifts.modWork_off (s := s) (f := fun w =>
    { w with board := some b, matchTimer := none, opTimer := none, state := .clamping, op := some (.clamp, .waiting) })
    (by simp) (by simp)
  exact ite (fun _ => .inl done) fun _ => ite (fun _ => clamping.places (startClamp _)) fun _ => .inl clamping

theorem makeOwnBoard (s : State) (reject : Option RejectReason) : s.Places (s.makeOwnBoard reject) :=
  (Shifts.modWork_same rfl rfl).places (boardMade _ _)

theorem beginMatching (s : State) : s.Places s.beginMatching := by
  refine ite (fun _ => makeOwnBoard s _) fun _ => ?_
  split
  · exact (Shifts.modTrav s _).places (boardMade _ _)
  · exact ite (fun _ => makeOwnBoard s _) fun _ => .inl ((Shifts.modWork_same rfl rfl).trans (.modTrav _ _))

theorem arrive (s : State) : s.Places s.arrive :=
  (Shifts.modWork_off (by simp) (by simp)).places (beginMatching _)

theorem startConveyorIn (s : State) : s.Places s.startConveyorIn :=
  ite (fun _ => (Shifts.drive s _).places (arrive _)) fun _ => .inl (.drive s _)

theorem startOp (s : State) (k : OpKind) : s.Places (s.startOp k) := by
  cases k with
  | conveyorIn => exact startConveyorIn s
  | clamp => exact startClamp s
  | unclamp => exact .inl (.startUnclamp s)
  | conveyorOut => exact .inl (.startConveyorOut s)

theorem restartOp (s : State) : s.Places s.restartOp := by
  unfold State.restartOp
  split
  · exact ite (fun _ => startOp s _) fun _ => .inl (.refl s)
  · exact .inl (.refl s)

/-- The bookkeeping once more. -/
theorem bookkeep (places : s.Places t) : ∃ u, s.Worked (fun _ => True) u ∧ (s.Shifts u ∨ u.work.state = .ready) ∧
    t.bookkeep = u.bookkeep := by
  rcases places with shifts | ⟨u, worked, ready, rfl⟩
  · exact ⟨t, shifts.1, .inl shifts, rfl⟩
  · exact ⟨u, worked, .inr ready, bookkeep_bookkeep u⟩

/-- What an operation on the board makes of the bookkeeping, past what keeps the queue and leaves nothing undone. -/
theorem fair_of_tidy (places : t.Places u) (tidy : (s.ReadingUp → s.tape.queue = []) → s.Tidy → t.Tidy)
    (queue : t.tape.queue = s.tape.queue) (state : t.work.state = s.work.state) (early : t.ReadingUp → s.ReadingUp)
    (notWorking : s.WorkFits → s.trav.takeOpen = false → s.reader.scan = .idle → s.work.state ≠ .working) : s.Fair u := by
  have none (t' : State) : s.HoldsFair t' := fun _ _ fits shut idle _ working => absurd working (notWorking fits shut idle)
  rcases places with ⟨worked, kept⟩ | ⟨v, worked, ready, rfl⟩
  · obtain ⟨-, -, -, -, reader, -, tape, -, alarm, -⟩ := worked.frame
    refine ⟨fun empty before => ?_, fun _ e d head decision => ?_, fun not working => ?_, none u, fun up => early ?_⟩
    · exact ⟨(tidy empty before).1.of_kept worked kept, .of_same (.of_tape tape) (tidy empty before).2⟩
    · rw [tape, queue] at head
      exact .inl ⟨e, List.mem_of_head? head, rfl, decision⟩
    · exact absurd (state.symm.trans ((kept (.inr working)).1.symm.trans working)) not
    · unfold ReadingUp at *
      rwa [reader] at up
  · obtain ⟨-, -, -, -, reader, -, tape, -, -, -⟩ := worked.frame
    refine ⟨fun empty before => ?_, fun _ e d head decision => ?_, fun not working => ?_, none _, fun up => early ?_⟩
    · have fits : v.FlushFits := .of_same (.of_tape tape) (tidy empty before).2
      exact ⟨bookkeep_quiet v, fits.of_same (bookkeep_sameOldest v)⟩
    · rcases bookkeep_decided head decision with old | fits
      · rw [tape, queue] at old
        exact .inl ⟨e, List.mem_of_head? old, rfl, decision⟩
      · exact .inr fits
    · by_cases can : v.CanStart
      · exact can.bookkeep
      · rw [bookkeep_state can, ready] at working
        cases working
    · unfold ReadingUp at *
      simpa [reader] using up

/-- What an operation on the board makes of the bookkeeping, where none is WORKING. -/
theorem fair (places : t.Places u) (still : s.Still t)
    (notWorking : s.WorkFits → s.trav.takeOpen = false → s.reader.scan = .idle → s.work.state ≠ .working) : s.Fair u :=
  places.fair_of_tidy still.fair.tidy still.queue still.state still.early notWorking

end Places

end State

end Sys2Proof.Machine
end

section
/-!
# The events of the tape and the head, by what they make of the bookkeeping
-/
namespace Sys2Proof.Machine

namespace State
variable {s t u v : State} {e : Entry} {b : Board}

/-! ## Verdicts and the end of a feed -/

/-- Every entry changed alike, none decided by it. -/
theorem Prepares.modTape_map {g : Entry → Entry} {f : Tape → Tape} (queue : (f s.tape).queue = s.tape.queue.map g)
    (keeps : ∀ e, (g e).record = e.record ∧ ∀ d, (g e).decision = some d → e.decision = some d) :
    s.Prepares (s.modTape f) := by
  refine .modTape fun e mem d decision => ?_
  rw [queue] at mem
  obtain ⟨e', mem', rfl⟩ := List.mem_map.1 mem
  exact ⟨e', mem', (keeps e').1.symm, (keeps e').2 d decision⟩

theorem SameOldest.of_map {g : Entry → Entry} (queue : t.tape.queue = s.tape.queue.map g)
    (record : ∀ e, (g e).record = e.record) (flush : t.tape.flush = s.tape.flush) : s.SameOldest t := by
  refine ⟨?_, flush⟩
  rw [queue, List.head?_map, Option.map_map]
  exact congrArg (Option.map · _) (funext record)

theorem judged_keeps (lap : Lap) (k : Nat) (v : Verdict) (codes : List Nat) (e : Entry) :
    (e.judged lap k v codes).record = e.record ∧
      ∀ d, (e.judged lap k v codes).decision = some d → e.decision = some d := by
  unfold Entry.judged
  split <;> exact ⟨rfl, fun _ => id⟩

theorem giveVerdict_prepares (s : State) (lap : Lap) (k : Nat) (v : Verdict) (codes : List Nat) :
    s.Prepares (s.giveVerdict lap k v codes) ∧ s.SameOldest (s.giveVerdict lap k v codes) := by
  refine ⟨?_, .of_map (by rw [giveVerdict_tape]) (fun e => (judged_keeps lap k v codes e).1) (by rw [giveVerdict_tape])⟩
  have given : s.Prepares (s.modTape fun t => { t with queue := t.queue.map (Entry.judged lap k v codes) }) :=
    .modTape_map rfl (judged_keeps lap k v codes)
  exact (given.trans (Still.modVerifier _ _).prepares).trans (Still.evaluate _ _ _).prepares

theorem measure_prepares (s : State) (pres : Bool) (r : Record) :
    s.Prepares (s.measure pres r) ∧ s.SameOldest (s.measure pres r) := by
  unfold State.measure
  split
  · exact giveVerdict_prepares s _ _ _ _
  · split
    · exact giveVerdict_prepares s _ _ _ _
    · exact ⟨(Still.modVerifier s _).prepares, .of_tape rfl⟩

theorem recordTaken_prepares (s : State) (r : Record) (rest : List Record) : s.Prepares (s.recordTaken r rest) := by
  have appended : s.Prepares (s.modTape fun t =>
      { t with feeding := false, timer := none, queue := t.queue ++ [newEntry r] }) := by
    refine .modTape fun e mem d decision => ?_
    rcases List.mem_append.1 mem with old | new
    · exact ⟨e, old, rfl, decision⟩
    · obtain rfl := List.mem_singleton.1 new
      cases decision
  exact (appended.trans (Still.modReader rfl rfl rfl).prepares).trans (Still.issueRead _).prepares

theorem feedEnds_fair (s : State) (pres : Bool) (r : Record) (rest : List Record) : s.Fair (s.feedEnds pres r rest) := by
  have taken := recordTaken_prepares s r rest
  obtain ⟨measured, same⟩ := measure_prepares (s.recordTaken r rest) pres r
  have timed : s.Prepares ((s.appended pres r rest).evaluate .m3 (s.now - s.tape.startedAt)) :=
    (taken.trans measured).trans (Still.evaluate _ _ _).prepares
  rw [feedEnds_eq]
  unfold feedTimed
  dsimp only
  split
  · exact ((timed.trans (.checkFlush _)).bookkeep fun _ => checkFlush_flushFits _).endIfQuiet
  next some =>
    refine (timed.bookkeep fun fits => (Still.evaluate _ _ _).flushFits (FlushFits.of_same same ?_)).endIfQuiet
    have sameHead : s.SameOldest (s.recordTaken r rest) := by
      obtain ⟨tape, -⟩ := recordTaken_frame s r rest
      refine ⟨?_, by rw [tape]⟩
      rw [tape]
      rcases queue : s.tape.queue with _ | ⟨e, es⟩
      · simp [queue] at some
      · rfl
    exact fits.of_same sameHead

/-- A conversion gives its verdict: the row hold and the decision follow, no board starts. -/
theorem judge_fair (s : State) (lap : Lap) (k : Nat) (v : Verdict) (codes : List Nat) : s.Fair (s.judge lap k v codes) := by
  have free : s.Still s.converted := .modVerifier s _
  obtain ⟨given, same⟩ := giveVerdict_prepares s.converted lap k v codes
  have sameS : s.SameOldest (s.converted.giveVerdict lap k v codes) := same
  exact (free.prepares.trans given).hold (fun fits => fits.of_same sameS)
    (fun can => can.of_same (t := s) sameS (by simp [converted]) (by simp [converted])) (by simp [converted])

/-! ## Removals -/

theorem Prepares.removeCounted (prepares : s.Prepares t) (e : Entry) (o : StepOutcome) :
    s.Prepares (if e.toInsert then t.removeOldest.takeOutcome e.record.lap e.record.ordinal o else t.removeOldest) :=
  .ite (fun _ => prepares.trans ((removeOldest t).trans (takeOutcome _ _ _ _))) fun _ => prepares.trans (removeOldest t)

theorem strokeDone_fair (s : State) : s.Fair s.strokeDone := by
  have timed : s.Prepares ((s.modHead fun h => { h with timer := none, drive := .off, phase := .top }).evaluate .m4
      (s.now - s.head.strokeStart.getD s.now)) := ((Still.modHead s _).trans (Still.evaluate _ _ _)).prepares
  unfold State.strokeDone
  dsimp only
  refine Fair.modHead ?_ rfl
  split
  next e l _ _ =>
    unfold State.strokeOutcome
    dsimp only
    split
    · exact (timed.removeCounted e _).followOn
    · exact ((timed.removeCounted e _).trans (Still.raise _ _).prepares).followOn
  next => exact ((Still.modHead s _).trans (Still.evaluate _ _ _)).fair

theorem returnDone_fair (s : State) : s.Fair s.returnDone := by
  have ended := Still.modHead s fun h => { h with timer := none, drive := .off, phase := .top }
  unfold State.returnDone
  dsimp only
  split
  next e _ =>
    split
    · exact ((ended.prepares.removeCounted e _).trans (Still.useStep _).prepares).followOn
    · exact ended.fair
  next => exact ended.fair

/-! ## Jams, CLEAR and PURGE -/

/-- With no entry in the queue nothing is left for the bookkeeping. -/
theorem tidy_of_empty (empty : s.tape.queue = []) : s.Tidy := by
  have none (e : Entry) : s.tape.queue.head? ≠ some e := by simp [empty]
  exact ⟨⟨fun ⟨_, _, e, head, _⟩ => none e head, fun e _ ⟨_, _, head, _⟩ => none e head,
      fun e head => absurd head (none e)⟩,
    fun e head => absurd head (none e)⟩

theorem unchecked_keeps (e : Entry) : e.unchecked.record = e.record ∧
    ∀ d, e.unchecked.decision = some d → e.decision = some d := by
  refine ⟨rfl, fun d decision => ?_⟩
  unfold Entry.unchecked at decision
  dsimp only at decision
  split at decision
  · exact decision
  · cases decision

/-- The stop bit of alarm 41 ends work (R54, R151): no row hold is due after it. -/
theorem tapeJam_fair (r : Raise) (code : r.code = .tapeJam) : s.Fair (s.jamTape.raise r) := by
  have jammed : s.Prepares (s.abandon.modTape Tape.jam) :=
    (Still.abandon s).prepares.trans (.modTape_map rfl unchecked_keeps)
  have same : s.SameOldest (s.abandon.modTape Tape.jam) :=
    .of_map (g := Entry.unchecked) (by simp [Tape.jam]) (fun _ => rfl) (by simp [Tape.jam])
  have sameJam : s.SameOldest (s.jamTape.raise r) :=
    same.trans ((decideOldest_sameOldest _).trans (.of_tape (by simp [jamTape])))
  have raised := Still.raise s.jamTape r
  have work : (s.jamTape.raise r).work = s.work := by simp [jamTape]
  have reader : (s.jamTape.raise r).reader = s.reader := by simp [jamTape]
  have idle : ¬(s.jamTape.raise r).MayStart := by
    intro may
    have before := raise_mayStart r may
    have on : s.jamTape.alarm.run ≠ .configFault := by
      intro off
      simp [State.MayStart, off] at before
    have alarm := (raise_enters_alarm (s := s.jamTape) on (by rw [code]; rfl)).1
    simp [State.MayStart, alarm] at may
  refine .of_work work (fun _ tidy => ⟨⟨fun can => ?_, fun e b due => ?_, fun e head can => ?_⟩, tidy.2.of_same sameJam⟩)
    (fun _ e d head decision => ?_) fun up => ?_
  · exact tidy.1.1 (can.of_same sameJam (by rw [work]) (by rw [work]))
  · obtain ⟨-, -, -, -, -, -, -, -, -, -, -, may⟩ := due
    exact idle may
  · have queue : s.jamTape.tape.queue.head? = some e := raised.queue ▸ head
    rcases decideOldest_cases (s.abandon.modTape Tape.jam) with ⟨still, cannot⟩ | decided
    · have stands : s.jamTape = s.abandon.modTape Tape.jam := still
      exact cannot e (stands ▸ queue) (stands ▸ raised.canDecide can)
    · exact decided e queue can.1
  · rw [raised.queue] at head
    rcases decideOldest_decided head decision with old | fits
    · exact .inl (jammed.decisions e (List.mem_of_head? old) d decision)
    · exact .inr (raised.decisionFits fits)
  · unfold ReadingUp at *
    rwa [reader] at up

/-- An oldest entry that is marked attempted is neither decided nor held for. -/
theorem markAttempted_fair (s : State) : s.Fair s.markAttempted := by
  have head? (e : Entry) (head : s.markAttempted.tape.queue.head? = some e) :
      ∃ e', s.tape.queue.head? = some e' ∧ e = { e' with attempted := true } := by
    simp only [State.markAttempted, modTape_tape] at head
    split at head
    next e' es queue => exact ⟨e', by simp [queue], (Option.some.inj head).symm⟩
    next => cases head
  have same : s.SameOldest s.markAttempted := by
    refine ⟨?_, rfl⟩
    simp only [State.markAttempted, modTape_tape]
    split
    next e' es queue => simp [queue]
    next queue => simp [queue]
  refine .of_work rfl (fun _ tidy => ⟨⟨fun can => ?_, fun e b due => ?_, fun e head can => ?_⟩, tidy.2.of_same same⟩)
    (fun _ e d head decision => ?_) id
  · exact tidy.1.1 (can.of_same same rfl rfl)
  · obtain ⟨-, -, head, -, -, -, -, -, -, fresh, -⟩ := due
    obtain ⟨e', -, rfl⟩ := head? e head
    cases fresh
  · obtain ⟨e', -, rfl⟩ := head? e head
    cases can.2.2.1
  · obtain ⟨e', old, rfl⟩ := head? e head
    exact .inl ⟨e', List.mem_of_head? old, rfl, decision⟩

/-- Before the head and the alarm unit there is nothing between the parts of a jam that the bookkeeping reads. -/
theorem headJam_fair (s : State) (f : Head → Head) (r : Raise) : s.Fair ((s.modHead f).markAttempted.raise r) := by
  have marked := markAttempted_fair (s.modHead f)
  have raised := Still.raise (s.modHead f).markAttempted r
  refine .of_work (by simp [State.markAttempted]) (fun empty tidy => ?_) (fun fits e d head decision => ?_)
    (raised.early ·)
  · have after := marked.tidy empty ((Still.modHead s f).fair.tidy empty tidy)
    exact ⟨raised.quiet after.1, raised.flushFits after.2⟩
  · rw [raised.queue] at head
    exact (marked.decided fits e d head decision).imp_right raised.decisionFits

/-- With the oldest entry, the marker, the board and the row table as they were, and no more work to start, the bookkeeping
stays done. -/
theorem Tidy.of_head (tidy : s.Tidy) (head : t.tape.queue.head? = s.tape.queue.head?) (flush : t.tape.flush = s.tape.flush)
    (work : t.work = s.work) (rows : t.reader.rows = s.reader.rows) (may : t.MayStart → s.MayStart) : t.Tidy := by
  unfold Tidy BooksQuiet FlushFits CanStart State.TapeLetsStart State.HoldDue State.CanDecide at *
  rw [head, flush, work, rows]
  obtain ⟨⟨cannot, noneDue, decided⟩, fits⟩ := tidy
  exact ⟨⟨cannot, fun e b ⟨a1, a2, a3, a4, a5, a6, a7, a8, a9, a10, a11, mayStart⟩ =>
    noneDue e b ⟨a1, a2, a3, a4, a5, a6, a7, a8, a9, a10, a11, may mayStart⟩, decided⟩, fits⟩

theorem recoverTape_reader (s : State) : s.recoverTape.reader.rows = s.reader.rows ∧
    (s.recoverTape.ReadingUp → s.ReadingUp) := by
  have still (u : State) (lap : Lap) (k : Nat) := Still.rewind (u.abandon.modTape fun t =>
    { t with queue := if s.head.phase.stroking then s.tape.queue.take 1 else [] }) lap k
  unfold State.recoverTape ReadingUp
  dsimp only
  rw [(checkFlush_frame _).2.2.2.2.2.1]
  split
  next e _ _ => exact ⟨(still s _ _).rows.trans (by simp), fun up => by simpa [ReadingUp] using (still s _ _).early up⟩
  next => exact ⟨(still s _ _).rows.trans (by simp), fun up => by simpa [ReadingUp] using (still s _ _).early up⟩
  next => simp

theorem checkFlush_of_fits (fits : s.FlushFits) : s.checkFlush = s := by
  unfold State.checkFlush
  split
  next l e es flush queue =>
    have named := fits e (by simp [queue])
    exact if_pos (by simpa [flush, eq_comm] using named)
  next => rfl

/-- The marker of a recovered tape: checked against the entry that stays. -/
theorem recoverTape_flush (s : State) (fits : s.FlushFits) (stays : s.recoverTape.tape.queue ≠ []) :
    s.recoverTape.tape.flush = s.tape.flush := by
  obtain ⟨p, eq, tape⟩ : ∃ p : State, s.recoverTape = p.checkFlush ∧ p.tape = { s.tape with
      fault := .none, queue := if s.head.phase.stroking then s.tape.queue.take 1 else [] } := by
    refine ⟨_, rfl, ?_⟩
    split <;> simp
  have queue : p.tape.queue.head? = s.tape.queue.head? := by
    rw [eq, (checkFlush_queue_fault p).1] at stays
    rw [tape] at stays ⊢
    dsimp only at stays ⊢
    split
    · cases s.tape.queue <;> rfl
    · simp_all
  have fitsP : p.FlushFits := by
    unfold FlushFits
    rw [queue, tape]
    exact fits
  rw [eq, checkFlush_of_fits fitsP, tape]

/-- CLEAR keeps at most the entry under a stroke, and starts no work. -/
theorem recoverTape_fair (s : State) : s.Fair s.recoverTape := by
  obtain ⟨-, -, queue⟩ := recoverTape_tape s
  obtain ⟨rows, early⟩ := recoverTape_reader s
  have stays (some : s.recoverTape.tape.queue ≠ []) : s.recoverTape.tape.queue.head? = s.tape.queue.head? := by
    rw [queue] at some ⊢
    split
    · cases s.tape.queue <;> rfl
    · simp_all
  refine .of_work (by simp) (fun _ tidy => ?_) (fun _ e d head decision => ?_) early
  · by_cases empty : s.recoverTape.tape.queue = []
    · exact tidy_of_empty empty
    · exact tidy.of_head (stays empty) (recoverTape_flush s tidy.2 empty) (by simp) rows (by simp [State.MayStart])
  · have some : s.recoverTape.tape.queue ≠ [] := fun empty => by simp [empty] at head
    exact .inl ⟨e, List.mem_of_head? (stays some ▸ head), rfl, decision⟩

theorem clearTape_fair (s : State) : s.Fair s.clearTape := by
  unfold State.clearTape
  split
  · exact .refl s
  · split
    · exact .refl s
    · exact (Still.modTape rfl rfl).fair
    · exact recoverTape_fair s

theorem pressClear_fair (s : State) : s.Fair s.pressClear := by
  have cleared := Still.clearAlarms s
  have tape := clearTape_fair s.clearAlarms
  refine .of_work (by simp) (fun empty tidy => ?_) (fun fits e d head decision => ?_) (fun up => cleared.early (tape.early up))
  · exact tape.tidy (fun up => cleared.queue.trans (empty (cleared.early up))) (cleared.fair.tidy empty tidy)
  · have fitsC : s.clearAlarms.WorkFits := by
      unfold State.WorkFits at *
      simpa using fits
    have decided := tape.decided fitsC e d head decision
    rw [cleared.queue] at decided
    exact decided

theorem purgeBoard_fair (s : State) : s.Fair s.purgeBoard := by
  have work := purgeBoard_work s
  have state : s.purgeBoard.work.state = .empty := by rw [work]; rfl
  have reader : s.purgeBoard.reader = s.reader := by simp
  have early (up : s.purgeBoard.ReadingUp) : s.ReadingUp := by
    unfold ReadingUp at *
    rwa [reader] at up
  -- with the work position EMPTY an entry is decided under the flush marker alone
  have quiet (none : ∀ e, s.purgeBoard.tape.queue.head? = some e → e.decision = none → e.verdict ≠ .pending →
      e.attempted = false → s.purgeBoard.tape.flush ≠ some e.record.lap) : s.purgeBoard.BooksQuiet := by
    refine ⟨fun can => ?_, fun e b due => ?_, fun e head ⟨undecided, final, fresh, way⟩ => ?_⟩
    · simp [CanStart, state] at can
    · simp [State.HoldDue, state] at due
    · rcases way with flushed | ⟨b, working, -⟩
      · exact none e head undecided final fresh flushed
      · simp [state] at working
  cases lap : s.workingBoard.bind Board.lap with
  | none =>
    have tape : s.purgeBoard.tape = s.tape := by
      unfold State.purgeBoard
      rw [lap]
      dsimp only
      (repeat' split) <;> simp
    refine .of_not_working (by simp [state]) (fun _ tidy => ⟨quiet fun e head undecided final fresh flushed => ?_, ?_⟩)
      (fun _ e d head decision => ?_) early
    · rw [tape] at head flushed
      exact tidy.1.2.2 e head ⟨undecided, final, fresh, .inl flushed⟩
    · exact tidy.2.of_same (.of_tape tape)
    · exact .inl ⟨e, List.mem_of_head? (tape ▸ head), rfl, decision⟩
  | some l =>
    obtain ⟨b, board, ofLap⟩ := Option.bind_eq_some_iff.1 lap
    obtain ⟨working, held⟩ := workingBoard_iff.1 board
    have tape := purgeBoard_tape_of_working working held ofLap
    have armed := armFlush_eq s l
    have marked : s.Prepares (s.markFlush l) := .modTape_map (g := Entry.undecidedFor l) rfl fun e => by
      unfold Entry.undecidedFor
      split
      · exact ⟨rfl, nofun⟩
      · exact ⟨rfl, fun _ => id⟩
    have checked := marked.trans (.checkFlush _)
    refine .of_not_working (by simp [state]) (fun _ tidy => ⟨quiet fun e head undecided final fresh flushed => ?_, ?_⟩)
      (fun _ e d head decision => ?_) early
    · rw [tape, armed] at head flushed
      rcases decideOldest_cases (s.markFlush l).checkFlush with ⟨still, cannot⟩ | decided
      · rw [still] at head flushed
        exact cannot e head ⟨undecided, final, fresh, .inl flushed⟩
      · exact decided e head undecided
    · exact (checkFlush_flushFits (s.markFlush l)).of_same ((decideOldest_sameOldest _).trans (.of_tape tape))
    · rw [tape, armed] at head
      rcases decideOldest_decided head decision with old | ⟨final, flushed, onBoard⟩
      · exact .inl (checked.decisions e (List.mem_of_head? old) d decision)
      · have marker : s.purgeBoard.tape.flush = (s.markFlush l).checkFlush.decideOldest.tape.flush := by rw [tape, armed]
        refine .inr ⟨final, by rw [marker]; exact flushed, fun other => ?_⟩
        rw [marker] at other
        obtain ⟨c, -, heldC, lapC, -⟩ := onBoard other
        -- the entry is of the flushed lap, which the marker then names
        have same : c = b := by
          have workC : (s.markFlush l).checkFlush.decideOldest.work = s.work := by simp [markFlush]
          rw [workC, held] at heldC
          exact (Option.some.inj heldC).symm
        rw [same, ofLap] at lapC
        obtain ⟨e', head', record⟩ := (decideOldest_sameOldest (s.markFlush l).checkFlush).symm.head head
        rw [(checkFlush_queue_fault _).1] at head'
        obtain ⟨es, queue⟩ := List.head?_eq_some_iff.1 head'
        have named := congrArg Tape.flush (checkFlush_tape_cons queue (l := l) rfl)
        refine absurd ?_ other
        rw [(decideOldest_sameOldest _).2, named, record]
        simp [Option.some.inj lapC]

end State

end Sys2Proof.Machine
end

section
/-!
# Work taken up: the restart of an operation and the bookkeeping that waited (R96, R108, R145 to R149)
-/
namespace Sys2Proof.Machine

namespace State
variable {s t u v p : State} {e : Entry} {b : Board} {d : Decision} {r : RunState}

/-! ## What happened before the station's own row has acted -/

/-- From `s` to `v` nothing has changed that the bookkeeping or its claims read, but that less may start. -/
structure Beside (s v : State) : Prop where
  work : v.work = s.work
  takeOpen : v.trav.takeOpen = s.trav.takeOpen
  reader : v.reader = s.reader
  tape : v.tape = s.tape
  hdr : v.hdr = s.hdr
  may : v.MayStart → s.MayStart

theorem Beside.trans (h : s.Beside t) (k : t.Beside u) : s.Beside u :=
  ⟨k.work.trans h.work, k.takeOpen.trans h.takeOpen, k.reader.trans h.reader, k.tape.trans h.tape, k.hdr.trans h.hdr,
    h.may ∘ k.may⟩

theorem readingUp_of_reader (reader : t.reader = s.reader) (up : t.ReadingUp) : s.ReadingUp := by
  unfold ReadingUp at *
  rwa [← reader]

theorem workFits_of_work (work : t.work = s.work) (fits : s.WorkFits) : t.WorkFits := by
  unfold State.WorkFits
  rw [work]
  exact fits

theorem Beside.still (beside : s.Beside v) : s.Still v :=
  ⟨by rw [beside.tape], by rw [beside.tape], by rw [beside.work], by rw [beside.work], by rw [beside.reader], beside.hdr,
    readingUp_of_reader beside.reader, beside.may⟩

theorem Beside.fair (beside : s.Beside v) (fair : v.Fair t) : s.Fair t where
  tidy empty tidy := by
    refine fair.tidy (fun up => ?_) (beside.still.fair.tidy empty tidy)
    rw [beside.tape]
    exact empty (beside.still.early up)
  decided fits e d head decision := by
    have decided := fair.decided (workFits_of_work beside.work fits) e d head decision
    rw [beside.tape] at decided
    exact decided
  started not := fair.started (by rw [beside.work]; exact not)
  held b b' fits shut idle before working :=
    fair.held b b' (workFits_of_work beside.work fits) (by rw [beside.takeOpen]; exact shut)
      (by rw [beside.reader]; exact idle) (by rw [beside.work]; exact before) (by rw [beside.work]; exact working)
  early := beside.still.early ∘ fair.early

/-! ## A station whose bookkeeping waits for the run state -/

/-- From `s` to `p` what has been decided or started was so by the rules, and no row hold has been taken. -/
structure Awaits (s p : State) : Prop where
  flush : (s.ReadingUp → s.tape.queue = []) → s.Tidy → p.FlushFits
  decided : s.WorkFits → s.DecidedIn p
  started : s.work.state ≠ .working → p.work.state = .working → p.BoardStarted
  past : s.WorkFits → s.work.state = .working → p.work.state = .working ∨ p.work.state = .done
  holds : s.WorkFits → s.work.state = .working → p.work.state = .working →
    p.work.board.map Board.holds = s.work.board.map Board.holds
  fits : s.WorkFits → p.WorkFits
  early : p.ReadingUp → s.ReadingUp

/-- An operation that decides nothing, with the flush checked and the work position fitting its rules. -/
theorem Prepares.awaits (prepares : s.Prepares p) (flush : s.FlushFits → p.FlushFits) (fits : s.WorkFits → p.WorkFits) :
    s.Awaits p where
  flush _ tidy := flush tidy.2
  decided _ e d head decision := .inl (prepares.decisions e (List.mem_of_head? head) d decision)
  started not working := absurd (prepares.working working).1 not
  past _ working := prepares.past (.inl working)
  holds _ _ working := (prepares.working working).2
  fits := fits
  early := prepares.early

/-- A station that awaits the bookkeeping goes on to do so past what that does not read. -/
theorem Awaits.then (awaits : s.Awaits t) (work : u.work = t.work) (tape : u.tape = t.tape) (reader : u.reader = t.reader)
    (hdr : u.hdr = t.hdr) (m2 : u.alarm.m2.value = t.alarm.m2.value)
    (last : t.head.lastCycle = none → u.head.lastCycle = none) :
    s.Awaits u where
  flush empty tidy := FlushFits.of_same (.of_tape tape) (awaits.flush empty tidy)
  decided fits e d head decision := by
    rw [tape] at head
    refine (awaits.decided fits e d head decision).imp_right fun fitsD => ?_
    unfold State.DecisionFits State.options State.header at *
    rwa [work, tape, reader, hdr]
  started not working := (awaits.started not (by rwa [← work])).of_same (.of_tape tape) (by rw [work]) (by rw [work]) m2 last
  past := by
    rw [work]
    exact awaits.past
  holds := by
    rw [work]
    exact awaits.holds
  fits h := workFits_of_work work (awaits.fits h)
  early := awaits.early ∘ readingUp_of_reader reader

/-- Where the bookkeeping has nothing to do, nothing is left undone. -/
theorem Awaits.fair (awaits : s.Awaits p) (quiet : s.Tidy → p.BooksQuiet) : s.Fair p where
  tidy empty tidy := ⟨quiet tidy, awaits.flush empty tidy⟩
  decided := awaits.decided
  started := awaits.started
  held b b' fits _ _ before working after working' other := by
    have same := awaits.holds fits working working'
    rw [before, after, Option.map_some, Option.map_some, Option.some.injEq] at same
    exact absurd same other
  early := awaits.early

/-! ## The bookkeeping of such a station -/

/-- A decision that fits still fits after the bookkeeping, which only adds a row's hold. -/
theorem DecisionFits.bookkeep (fits : s.DecisionFits e d) : s.bookkeep.DecisionFits e d := by
  obtain ⟨final, flushed, onBoard⟩ := fits
  have flush : s.bookkeep.tape.flush = s.tape.flush := by rw [bookkeep_tape]
  have reader : s.bookkeep.reader = s.reader := by simp
  have options : s.bookkeep.options = s.options := by simp [State.options, State.header]
  unfold State.DecisionFits
  rw [flush, reader, options]
  refine ⟨final, flushed, fun other => ?_⟩
  obtain ⟨b, working, held, lap, carries, table⟩ := onBoard other
  have cannot : ¬s.CanStart := fun can => by simp [can.1] at working
  have work : s.bookkeep.work = s.takeRowHold.work := by
    simp [State.bookkeep, startBoard_of_cannot cannot]
  rw [work]
  by_cases due : ∃ e b, s.HoldDue e b
  · obtain ⟨e', b', due⟩ := due
    obtain rfl : b = b' := Option.some.inj (held.symm.trans due.2.1)
    rw [due.takeRowHold_work]
    refine ⟨_, working, rfl, lap, fun first row => ?_, table⟩
    rw [BitVec.getLsbD_or, carries first row, Bool.true_or]
  · rw [takeRowHold_of_not_due (by simpa using due)]
    exact ⟨b, working, held, lap, carries, table⟩

theorem BoardStarted.bookkeep (started : s.BoardStarted) : s.bookkeep.BoardStarted := by
  have cannot : ¬s.CanStart := fun can => by
    obtain ⟨b, e, working, -⟩ := started
    simp [can.1] at working
  unfold State.bookkeep
  rw [startBoard_of_cannot cannot]
  exact started.takeRowHold.decideOldest

/-- The bookkeeping at a station that awaits it. -/
theorem Awaits.bookkeep (awaits : s.Awaits p) : s.Fair p.bookkeep where
  tidy empty tidy := ⟨bookkeep_quiet p, .of_same (bookkeep_sameOldest p) (awaits.flush empty tidy)⟩
  decided fits e d head decision := by
    rcases bookkeep_decided head decision with old | now
    · exact (awaits.decided fits e d old decision).imp_right DecisionFits.bookkeep
    · exact .inr now
  started not working := by
    by_cases can : p.CanStart
    · exact can.bookkeep
    · exact (awaits.started not ((bookkeep_state can).symm.trans working)).bookkeep
  held b b' fits _ _ before isWorking after working other := by
    have cannot : ¬p.CanStart := fun can => by
      rcases awaits.past fits isWorking with h | h <;> simp [can.1] at h
    have holds := awaits.holds fits isWorking ((bookkeep_state cannot).symm.trans working)
    rw [before, Option.map_some, Option.map_eq_some_iff] at holds
    obtain ⟨c, held, same⟩ := holds
    rw [← same] at other ⊢
    exact bookkeep_holdTaken cannot held after other
  early up := awaits.early (readingUp_of_reader (by simp) up)

/-- A STALLED operation that restarts finds neither a READY nor a WORKING board, so that no row hold is taken. -/
theorem Awaits.restart {k : OpKind} (awaits : s.Awaits p) (stalled : p.work.op = some (k, .stalled))
    (worked : p.Worked (fun _ => True) u) (way : p.Shifts u ∨ u.work.state = .ready) : s.Fair u.bookkeep := by
  obtain ⟨-, -, hdr, -, reader, -, tape, head, alarm, -⟩ := worked.frame
  have idle (fits : s.WorkFits) := (awaits.fits fits).idle stalled
  refine ⟨fun empty tidy => ⟨bookkeep_quiet u, ?_⟩, fun fits e d first decision => ?_, fun not working => ?_,
    fun _ _ fits _ _ _ working => ?_, fun up => awaits.early (readingUp_of_reader (by simp [reader]) up)⟩
  · exact .of_same (bookkeep_sameOldest u) (FlushFits.of_same (.of_tape tape) (awaits.flush empty tidy))
  · rcases bookkeep_decided first decision with old | now
    · rw [tape] at old
      refine (awaits.decided fits e d old decision).imp_right fun ⟨final, flushed, onBoard⟩ => ?_
      have flush : u.tape.flush = some e.record.lap := by
        by_contra other
        obtain ⟨b, working, -⟩ := onBoard (tape ▸ other)
        exact (idle fits).2 working
      exact DecisionFits.bookkeep ⟨final, fun _ => flushed (tape ▸ flush), fun other => absurd flush other⟩
    · exact .inr now
  · by_cases can : u.CanStart
    · exact can.bookkeep
    · have state := (bookkeep_state can).symm.trans working
      rcases way with shifts | ready
      · obtain ⟨same, board⟩ := shifts.2 (.inr state)
        have started := awaits.started not (same ▸ state)
        exact (started.of_same (.of_tape tape) same (by rw [board]) (by rw [alarm]) (by rw [head]; exact id)).bookkeep
      · simp [ready] at state
  · rcases awaits.past fits working with h | h
    · exact absurd h (idle fits).2
    · have fitsP := awaits.fits fits
      obtain ⟨-, entering, clamping, releasing⟩ := fitsP
      rw [h] at entering clamping releasing
      simp only [reduceCtorEq, false_iff] at entering clamping releasing
      cases k with
      | conveyorIn => exact absurd ⟨_, stalled⟩ entering
      | clamp => exact absurd ⟨_, stalled⟩ clamping
      | unclamp => exact absurd ⟨_, .inl stalled⟩ releasing
      | conveyorOut => exact absurd ⟨_, .inr stalled⟩ releasing

/-- Work taken up at a station whose bookkeeping awaits it. -/
theorem Awaits.resume (awaits : s.Awaits p) : s.Fair p.restartOp.bookkeep := by
  by_cases stalled : ∃ k, p.work.op = some (k, .stalled)
  · obtain ⟨k, stalled⟩ := stalled
    obtain ⟨u, worked, way, eq⟩ := (Places.restartOp p).bookkeep
    rw [eq]
    exact awaits.restart stalled worked way
  · rw [restartOp_of_none (by simpa using stalled)]
    exact awaits.bookkeep

end State
end Sys2Proof.Machine
end

section
/-!
# The entries to the run states and what they bring about (R65, R96, R97, R142, R145 to R149)
-/
namespace Sys2Proof.Machine

namespace State
variable {s t u v p : State} {e : Entry} {b : Board} {r : RunState} {top bin : Bool}

/-! ## The recovery return -/

/-- The station once a recovery return has removed its entry, before the follow-on (R97). -/
def returnRemoved (s : State) (e : Entry) : State := (s.headUp.removeOldest.outcomeTaken e (jamOutcome e)).useStep

theorem returnRemoved_prepares (s : State) (e : Entry) : s.Prepares (s.returnRemoved e) := by
  have removed : s.Prepares s.headUp.removeOldest := (Still.modHead s _).prepares.trans (.removeOldest _)
  refine .trans ?_ (Still.useStep _).prepares
  cases jamOutcome e with
  | none => exact removed
  | some o => exact removed.trans (.takeOutcome _ _ _ o)

theorem returnRemoved_mayStart (may : (s.returnRemoved e).MayStart) : s.MayStart :=
  mayStart_of_run (s := s) (t := s.headUp.removeOldest.outcomeTaken e (jamOutcome e))
    ((outcomeTaken_run s.headUp.removeOldest e (jamOutcome e)).imp_right fun stop => by simp [stop])
    (outcomeTaken_stepUsed s.headUp.removeOldest e (jamOutcome e)) (useStep_mayStart may)

/-- Where no work may start the follow-on leaves a WORKING board's record alone. -/
theorem followOn_work_of_not_may (notReady : u.work.state ≠ .ready) (notMay : ¬u.MayStart) : u.followOn.work = u.work := by
  have noneDue (e : Entry) (b : Board) : ¬u.checkFlush.HoldDue e b := fun due => by
    obtain ⟨-, -, -, -, -, -, -, -, -, -, -, may⟩ := due
    exact notMay ((checkFlush_mayStart u).1 may)
  unfold State.followOn
  rw [bookkeep_of_neither (fun can => notReady (by simpa using can.1)) noneDue]
  simp

/-- What an event has made of the bookkeeping, where no row hold is among it. -/
theorem Fair.awaits (fair : s.Fair p) (fits : s.WorkFits → p.WorkFits)
    (past : s.WorkFits → s.work.state = .working → p.work.state = .working ∨ p.work.state = .done)
    (holds : s.WorkFits → s.work.state = .working → p.work.state = .working →
      p.work.board.map Board.holds = s.work.board.map Board.holds) : s.Awaits p :=
  ⟨fun empty tidy => (fair.tidy empty tidy).2, fair.decided, fair.started, past, holds, fits, fair.early⟩

/-- A recovery return that ends where no work may start (R97). -/
theorem returnDone_awaits (notMay : ¬s.MayStart) : s.Awaits s.returnDone := by
  have fits : s.WorkFits → s.returnDone.WorkFits := (returnDone_kept s).work
  by_cases removes : ∃ e, s.tape.queue.head? = some e ∧ e.attempted = true
  · obtain ⟨e, head, attempted⟩ := removes
    have prepares := returnRemoved_prepares s e
    have work (working : s.work.state = .working) : s.returnDone.work = (s.returnRemoved e).work := by
      have notReady : (s.returnRemoved e).work.state ≠ .ready := fun ready => by
        rcases prepares.past (.inl working) with h | h <;> simp [ready] at h
      rw [returnDone_of_attempted head attempted]
      exact followOn_work_of_not_may notReady (notMay ∘ returnRemoved_mayStart)
    refine (returnDone_fair s).awaits fits (fun _ working => ?_) fun _ working => ?_
    · rw [work working]
      exact prepares.past (.inl working)
    · rw [work working]
      exact fun still => (prepares.working still).2
  · rw [returnDone_of_none_attempted fun e head => by simpa using fun h => removes ⟨e, head, h⟩]
    exact (Still.modHead s _).prepares.awaits id (workFits_of_work rfl)

/-! ## The entry to RUNNING or STEPPING -/

theorem entered_prepares (s : State) (r : RunState) : s.Prepares (s.entered r) :=
  ⟨fun e mem _ decision => ⟨e, by simpa [entered] using mem, rfl, decision⟩,
    fun working => ⟨by simpa [entered] using working, by simp [entered]⟩, fun past => by simpa [entered] using past,
    readingUp_of_reader (by simp [entered])⟩

theorem entered_calm (s : State) (r : RunState) : (s.entered r).work = s.work ∧ (s.entered r).tape = s.tape ∧
    (s.entered r).reader = s.reader ∧ (s.entered r).hdr = s.hdr ∧ (s.entered r).alarm.m2 = s.alarm.m2 ∧
    (s.head.lastCycle = none → (s.entered r).head.lastCycle = none) := by
  refine ⟨by simp [entered], by simp [entered], by simp [entered], by simp [entered], ?_, fun gone => ?_⟩
  · unfold entered State.followStopline
    split
    · rw [setRun_alarm, setRun_alarm]
    · rw [setRun_alarm]
  · have first : (s.setRun r).head.lastCycle = none := by
      rw [setRun_head]
      exact headAfter_lastCycle s r gone
    unfold entered State.followStopline
    split
    · rw [setRun_head]
      exact headAfter_lastCycle _ _ first
    · exact first

theorem Awaits.entered (awaits : s.Awaits p) (r : RunState) : s.Awaits (p.entered r) := by
  obtain ⟨work, tape, reader, hdr, m2, last⟩ := entered_calm p r
  exact awaits.then work tape reader hdr (by rw [m2]) last

theorem Awaits.modHead (awaits : s.Awaits p) {f : Head → Head} (last : (f p.head).lastCycle = p.head.lastCycle) :
    s.Awaits (p.modHead f) := awaits.then rfl rfl rfl rfl rfl fun gone => last.trans gone

/-- The entry to RUNNING or STEPPING (log entry 11). -/
theorem enterWork_fair (s : State) (r : RunState) : s.Fair (s.enterWork r) := by
  obtain ⟨work, tape, -⟩ := entered_calm s r
  have awaits : s.Awaits (s.entered r) := Awaits.entered ((Still.refl s).prepares.awaits id id) r
  have returning : s.Awaits (s.entered r).returning := awaits.modHead rfl
  refine Fair.endIfQuiet (t := (s.entered r).recoveryReturn.restartOp.bookkeep) ?_
  by_cases halted : (s.entered r).head.phase = .halted
  case neg =>
    have up : (s.entered r).recoveryReturn = s.entered r := if_neg halted
    rw [up]
    exact awaits.resume
  by_cases top : (s.entered r).lines.top = true
  case neg =>
    have up : (s.entered r).recoveryReturn = (s.entered r).returning := (if_pos halted).trans (if_neg top)
    rw [up]
    exact returning.resume
  rw [recoveryReturn_of_top halted top]
  by_cases removes : ∃ e, (s.entered r).returning.tape.queue.head? = some e ∧ e.attempted = true
  case neg =>
    rw [returnDone_of_none_attempted fun e head => by simpa using fun h => removes ⟨e, head, h⟩]
    have ended : s.Awaits (s.entered r).returning.headUp := returning.modHead rfl
    exact ended.resume
  obtain ⟨e, head, attempted⟩ := removes
  have returned : s.Fair (s.entered r).returning.returnDone := by
    rw [returnDone_of_attempted head attempted]
    exact (((entered_prepares s r).trans (Still.modHead _ _).prepares).trans (returnRemoved_prepares _ e)).followOn
  by_cases stalled : ∃ k, s.work.op = some (k, .stalled)
  · obtain ⟨k, stalled⟩ := stalled
    have notWorking (fits : s.WorkFits) : s.work.state ≠ .working := (fits.idle stalled).2
    exact (returned.awaits (fun fits => (returnDone_kept _).work (workFits_of_work (by exact work) fits))
      (fun fits working => absurd working (notWorking fits)) fun fits working => absurd working (notWorking fits)).resume
  · have none (k : OpKind) : (s.entered r).returning.returnDone.work.op ≠ some (k, .stalled) := fun op => by
      rw [returnDone_op head attempted] at op
      exact stalled ⟨k, work ▸ op⟩
    rw [restartOp_of_none none, bookkeep_of_quiet (returnDone_quiet head attempted)]
    exact returned

end State
end Sys2Proof.Machine
end

section
/-!
# The press of RUN or STEP after the head unit has acted on TOP (R86, R97, R145, R147)
-/
namespace Sys2Proof.Machine

namespace State
variable {s t u v p : State} {r : RunState} {top bin : Bool}

theorem recoveryReturn_fair (s : State) : s.Fair s.recoveryReturn := by
  have up := Still.modHead s fun h =>
    { h with phase := .returning, drive := .up, clinchOn := false, timer := some s.header.upTimeout }
  have beside : s.Beside s.returning := ⟨rfl, rfl, rfl, rfl, rfl, id⟩
  unfold State.recoveryReturn
  split
  · dsimp only
    split
    · exact beside.fair (returnDone_fair s.returning)
    · exact up.fair
  · exact .refl s

theorem homingAsked_not_may (s : State) (r : RunState) : ¬(s.homingAsked r).MayStart := by
  simp [State.MayStart, (homingAsked_frame s r).alarm]

theorem homingAsked_beside (s : State) (r : RunState) : s.Beside (s.homingAsked r) :=
  have frame := homingAsked_frame s r
  ⟨frame.work, by simp [homingAsked], frame.reader, frame.tape, frame.hdr, fun may => absurd may (homingAsked_not_may s r)⟩

theorem pressed_beside (stopped : s.alarm.run = .stopped) (r : RunState) : s.Beside (s.pressed r) :=
  ⟨rfl, rfl, rfl, rfl, rfl, fun may => by simp [State.MayStart, pressed, stopped] at may⟩

/-- The press with no return ended before it. -/
theorem press_fair (stopped : s.alarm.run = .stopped) (r : RunState) : s.Fair (s.press r) := by
  have pressed := pressed_beside stopped r
  refine pressed.fair ?_
  unfold press
  split
  · exact enterWork_fair _ r
  · exact (homingAsked_beside (s.pressed r) r).fair (recoveryReturn_fair _)

/-- The press where a return has ended before it, in STOPPED: the bookkeeping has found what it could. -/
theorem Awaits.press (awaits : s.Awaits p) (quiet : s.Tidy → p.BooksQuiet) (stopped : p.alarm.run = .stopped)
    (up : p.head.phase = .top) (r : RunState) : s.Fair (p.press r) := by
  have pressed : s.Awaits (p.pressed r) := awaits.then rfl rfl rfl rfl rfl id
  by_cases homed : p.table.homed = true
  · rw [press_resumes homed stopped up]
    exact (pressed.entered r).resume.endIfQuiet
  · have asked := homingAsked_beside (p.pressed r) r
    have frame := homingAsked_frame (p.pressed r) r
    have phase : ((p.pressed r).homingAsked r).head.phase ≠ .halted := by
      rw [frame.phase]
      simp [State.pressed, up]
    have eq : p.press r = (p.pressed r).homingAsked r := by
      have entered : p.press r = ((p.pressed r).homingAsked r).recoveryReturn := if_neg homed
      rw [entered]
      exact if_neg phase
    rw [eq]
    refine (pressed.then asked.work asked.tape asked.reader asked.hdr (by rw [frame.alarm]) fun gone => ?_).fair
      fun tidy => asked.still.quiet ((pressed_beside stopped r).still.quiet (quiet tidy))
    simp only [homingAsked, requestHoming_frame]
    rw [setRun_head]
    exact headAfter_lastCycle _ _ gone

/-- The head unit on TOP as it reads. -/
theorem seeTop_fair (s : State) : s.Fair s.seeTop := by
  unfold State.seeTop
  split
  · exact (returnDone_fair s).endIfQuiet
  · split
    · exact (Still.dropHead s).fair
    · exact .refl s

/-- A press that finds the station in STOPPED before and after the head unit has acted on TOP. -/
theorem seeTop_press_fair (stopped : s.alarm.run = .stopped) (still : s.seeTop.alarm.run = .stopped) (r : RunState) :
    s.Fair (s.seeTop.press r) := by
  by_cases returns : s.head.phase = .returning ∧ s.lines.top = true
  · have eq : s.seeTop = s.returnDone.endIfQuiet := if_pos returns
    rw [eq] at still ⊢
    have notMay : ¬s.MayStart := by simp [State.MayStart, stopped]
    have awaits : s.Awaits s.returnDone.endIfQuiet :=
      (returnDone_awaits notMay).then (by simp) (by simp) (by simp) (by simp) (by rw [endIfQuiet_alarm]) (by simp)
    have fair := (returnDone_fair s).endIfQuiet
    refine awaits.press (fun tidy => ?_) still (by simp [returnDone_head]) r
    by_cases removes : ∃ e, s.tape.queue.head? = some e ∧ e.attempted = true
    · obtain ⟨e, head, attempted⟩ := removes
      exact (returnDone_quiet head attempted).endIfQuiet
    · rw [returnDone_of_none_attempted fun e head => by simpa using fun h => removes ⟨e, head, h⟩]
      exact BooksQuiet.endIfQuiet ((Still.modHead s _).quiet tidy.1)
  · have eq : s.seeTop = s := by
      refine (if_neg returns).trans (if_neg fun drops => ?_)
      have dropped : s.seeTop = s.dropHead := (if_neg returns).trans (if_pos drops)
      rw [dropped, dropHead_run ((live_iff s).1 drops.1)] at still
      cases still
    rw [eq]
    exact press_fair stopped r

theorem pressLines_beside (s : State) (top bin : Bool) : s.Beside (s.pressLines top bin) := ⟨rfl, rfl, rfl, rfl, rfl, id⟩

theorem sample_fair (s : State) (top bin : Bool) : s.Fair (s.sample top bin) :=
  (pressLines_beside s top bin).fair (seeTop_fair _)

theorem sample_press_fair (stopped : s.alarm.run = .stopped) (still : (s.sample top bin).alarm.run = .stopped)
    (r : RunState) : s.Fair ((s.sample top bin).press r) :=
  (pressLines_beside s top bin).fair (seeTop_press_fair (s := s.pressLines top bin) stopped still r)

theorem homingReported_fair (s : State) : s.Fair s.homingReported := by
  by_cases target : ∃ r, s.alarm.run = .homing ∧ s.alarm.homingTarget = some r
  · obtain ⟨r, homing, target⟩ := target
    rw [homingReported_of_target homing target]
    have beside : s.Beside (s.modAlarm fun a =>
        { a with homingTarget := none, stepUsed := if r = .stepping then false else a.stepUsed }) :=
      ⟨rfl, rfl, rfl, rfl, rfl, fun may => by simp [State.MayStart, homing] at may⟩
    exact beside.fair (enterWork_fair _ r)
  · rw [homingReported_of_other (by
      by_cases homing : s.alarm.run = .homing
      · exact .inr (Option.eq_none_iff_forall_ne_some.2 fun r h => target ⟨r, homing, h⟩)
      · exact .inl homing)]
    exact (Still.endIfQuiet s).fair

theorem homingDone_fair (s : State) : s.Fair s.homingDone := by
  have beside : s.Beside (s.modTable fun t => { t with
      homingTimer := none, seeking := [], activity := .idle, homed := true, commanded := ⟨0, 0, 0, s.header.spanMin⟩ }) :=
    ⟨rfl, rfl, rfl, rfl, rfl, id⟩
  exact beside.fair (homingReported_fair _)

end State
end Sys2Proof.Machine
end

section
/-!
# Start-up reading, which finds the queue empty (R7 to R14)
-/
namespace Sys2Proof.Machine

namespace State
variable {s t u : State}

/-- Until start-up reading has ended the queue is empty, and nothing is left for the bookkeeping. -/
theorem fair_of_reading (early : s.ReadingUp) (queue : t.tape.queue = s.tape.queue) (work : t.work = s.work) : s.Fair t :=
  .of_work work (fun empty _ => tidy_of_empty (queue.trans (empty early)))
    (fun _ e _ head decision => .inl ⟨e, List.mem_of_head? (queue ▸ head), rfl, decision⟩) fun _ => early

theorem sensorReads_still (s : State) : s.Still s.sensorReads := by
  have tape : s.Still s.tapeBreakRead := .ite (fun _ => .breakTape s) fun _ => .refl s
  have low : s.tapeBreakRead.Still s.tapeBreakRead.tapeLowRead := .ite (fun _ => .raise _ _) fun _ => .refl _
  exact tape.trans (low.trans (.ite (fun _ => .modHead _ _) fun _ => .refl _))

theorem startUpEnds_fair (early : s.reader.scan ≠ .idle) : s.Fair s.startUpEnds := by
  have still : s.handedOn.Still s.handedOn.issueRead.sensorReads := (Still.issueRead _).trans (sensorReads_still _)
  rw [startUpEnds_eq, startUpReads_eq]
  generalize s.handedOn.issueRead.sensorReads = u at still ⊢
  have queue : u.tape.queue = s.tape.queue := by rw [still.queue]; simp
  have state : u.work.state = s.work.state := by rw [still.state]; simp
  unfold boardRead
  split
  · have places : u.Places u.makeUntracked := Places.makeOwnBoard _ _
    exact places.fair_of_tidy (fun empty _ => tidy_of_empty (queue.trans (empty (.inr early)))) queue state
      (fun _ => .inr early) fun _ _ idle => absurd idle early
  · exact ⟨fun empty _ => tidy_of_empty (queue.trans (empty (.inr early))),
      fun _ e _ head decision => .inl ⟨e, List.mem_of_head? (queue ▸ head), rfl, decision⟩,
      fun not working => absurd (state.symm.trans working) not, fun _ _ _ _ idle => absurd idle early, fun _ => .inr early⟩

theorem execResetRelease_fair (asserted : s.released = false) (addr : BitVec 5) (role : Role) (localStrap : Bool)
    (t : State) (h : execResetRelease addr role localStrap s = .next t) : s.Fair t := by
  have early : s.ReadingUp := .inl (by simpa [State.released] using asserted)
  unfold execResetRelease at h
  rw [if_neg (by simp [asserted])] at h
  dsimp only at h
  cases h
  refine Fair.settle ?_
  split <;> exact fair_of_reading early rfl rfl

theorem takeStartUp_fair (s : State) (ws : List Word) : s.Fair (s.takeStartUp ws) := by
  have reading (early : s.reader.scan ≠ .idle) {t : State} (same : t.tape = s.tape ∧ t.work = s.work) : s.Fair t :=
    fair_of_reading (.inr early) (by rw [same.1]) same.2
  unfold State.takeStartUp
  split
  next => exact .refl s
  next scan => exact reading (by simp [scan]) (by simp)
  next addr scan =>
    have early : s.reader.scan ≠ .idle := by simp [scan]
    unfold State.takeRowHead
    split
    · split
      · exact reading early (by simp)
      · exact startUpEnds_fair early
    · split
      · exact reading early (by simp)
      · split <;> exact reading early (by simp)
  next addr w0 scan => exact reading (by simp [scan]) (by simp)
  next e rowAddr addr seen scan => exact reading (by simp [scan]) (by simp)

theorem takeWalk_still (s : State) (d : Read) (c : Cursor) (ws : List Word) : s.Still (s.takeWalk d c ws) :=
  (Still.modReader rfl rfl rfl).trans (.issueRead _)

end State
end Sys2Proof.Machine
end

section
/-!
# What each row makes of the bookkeeping: the program, the tape, the table and the head
-/
namespace Sys2Proof.Machine

/-- A command that began in `s` ends in a state in which the bookkeeping has been done by the rules. -/
def State.FairEnds (s : State) (o : Host.Outcome State Fault Refusal) : Prop := ∀ t, o = .next t → s.Fair t

namespace State
variable {s t u v : State}

theorem FairEnds.same (s : State) : s.FairEnds (.next s) := fun t h => by
  cases h
  exact .refl s

theorem FairEnds.fault (s : State) (f : Fault) : s.FairEnds (.fault f) := fun t h => by cases h

theorem Fair.ends (h : s.Fair t) : s.FairEnds (s.finish t) := fun u hu => by
  cases hu
  exact h.settle

theorem Still.ends (h : s.Still t) : s.FairEnds (s.finish t) := h.fair.ends

theorem FairEnds.ite {c : Prop} [Decidable c] {o p : Host.Outcome State Fault Refusal} (yes : c → s.FairEnds o)
    (no : ¬c → s.FairEnds p) : s.FairEnds (if c then o else p) := by
  split
  · exact yes ‹_›
  · exact no ‹_›

theorem Fair.ite {c : Prop} [Decidable c] (yes : c → s.Fair t) (no : ¬c → s.Fair u) : s.Fair (if c then t else u) := by
  split
  · exact yes ‹_›
  · exact no ‹_›

theorem Beside.modLines (s : State) (f : Lines → Lines) : s.Beside (s.modLines f) := ⟨rfl, rfl, rfl, rfl, rfl, id⟩
theorem Beside.modTable (s : State) (f : Table → Table) : s.Beside (s.modTable f) := ⟨rfl, rfl, rfl, rfl, rfl, id⟩
theorem Beside.modLink (s : State) (f : Link → Link) : s.Beside (s.modLink f) := ⟨rfl, rfl, rfl, rfl, rfl, id⟩

/-! ## Reset and the program reader -/

theorem execResetRelease_fairEnds (addr : BitVec 5) (role : Role) (localStrap : Bool) (s : State) :
    s.FairEnds (execResetRelease addr role localStrap s) := by
  by_cases asserted : s.released = true
  · have row : execResetRelease addr role localStrap s = .next s := if_pos asserted
    rw [row]
    exact .same s
  · exact execResetRelease_fair (by simpa using asserted) addr role localStrap

theorem execPmemReadCompletion_fairEnds (words : List Word) (s : State) : s.FairEnds (execPmemReadCompletion words s) := by
  unfold execPmemReadCompletion
  split
  next => exact .same s
  next d _ =>
    refine .ite (fun _ => .fault s _) fun _ => ?_
    split
    next c _ => exact (takeWalk_still s d c words).ends
    next =>
      have started := takeStartUp_fair (s.modReader fun r => { r with read := none }) words
      exact Fair.ends ⟨started.tidy, started.decided, started.started, started.held, started.early⟩

/-! ## The tape and the verifier -/

theorem execFeedStart_fairEnds (s : State) : s.FairEnds (execFeedStart s) := by
  refine .ite (fun ready => ?_) fun _ => .same s
  have fed := Still.tryFeed s
  unfold State.tryFeed at fed
  rw [if_pos ready] at fed
  exact fed.ends

theorem execIndexEvent_fairEnds (pres : Bool) (s : State) : s.FairEnds (execIndexEvent pres s) := by
  have noted := Beside.modLines s fun l => { l with pres := pres }
  unfold execIndexEvent
  refine .ite (fun _ => ?_) fun _ => noted.still.ends
  split
  · exact (noted.fair (feedEnds_fair _ pres _ _)).ends
  · exact (noted.still.trans ((Still.modTape rfl rfl).trans (.endIfQuiet _))).ends

theorem execConversionCompletion_fairEnds (code : BitVec 12) (s : State) :
    s.FairEnds (execConversionCompletion code s) := by
  have free := Still.modVerifier s fun v => { v with conversion := none }
  unfold execConversionCompletion
  split
  next => exact .same s
  next c _ =>
    refine .ite (fun _ => ?_) fun _ => ?_
    · split
      · exact (free.trans (.modVerifier _ _)).ends
      · exact free.ends
    · split
      · exact .ite (fun _ => (free.trans (.modVerifier _ _)).ends) fun _ => (judge_fair s _ _ _ _).ends
      · exact (judge_fair s _ _ _ _).ends
      · exact free.ends

theorem execPassExecution_fairEnds (s : State) : s.FairEnds (execPassExecution s) := by
  unfold execPassExecution
  split
  next e _ _ =>
    have removed := Prepares.removeOldest s
    refine Fair.ends (Fair.endIfQuiet (Prepares.followOn (.trans ?_ (Still.useStep _).prepares)))
    split
    · exact removed.trans (.takeOutcome _ _ _ _)
    · exact removed.trans (.takeOutcome _ _ _ _)
    · exact removed
  next => exact .same s

theorem execTapeJam_fairEnds (s : State) : s.FairEnds (execTapeJam s) := by
  by_cases feeding : s.tape.feeding = true
  · have row : execTapeJam s = .next (s.settle (s.jamTape.raise
      ⟨.tapeJam, s.workingSerial, s.reader.buffer.head?.map Record.ordinal, false⟩)) := exec_tapeJam s feeding
    rw [row]
    exact (tapeJam_fair _ rfl).ends
  · have row : execTapeJam s = .next s := if_neg feeding
    rw [row]
    exact .same s

theorem execTapeBreak_fairEnds (s : State) : s.FairEnds (execTapeBreak s) :=
  Still.ends (.ite (fun _ => (Still.modLines s _).trans (.breakTape _)) fun _ => .modLines s _)

theorem execTbrkInactive_fairEnds (s : State) : s.FairEnds (execTbrkInactive s) :=
  ((Still.modLines s _).trans (.reportCondition _ _ _)).ends

theorem execTapeLow_fairEnds (s : State) : s.FairEnds (execTapeLow s) := ((Still.modLines s _).trans (.raise _ _)).ends

theorem execTendInactive_fairEnds (s : State) : s.FairEnds (execTendInactive s) :=
  ((Still.modLines s _).trans (.reportCondition _ _ _)).ends

/-! ## The table -/

theorem execHomingBegin_fairEnds (home : HomeLevels) (bin : Bool) (s : State) :
    s.FairEnds (execHomingBegin home bin s) := by
  refine .ite (fun _ => .ite (fun _ => ?_) fun _ => Fair.ends ?_) fun _ => (Still.modLines s _).ends
  · exact ((Still.modLines s _).trans ((Still.modTable _ _).trans (.raise _ _))).ends
  · have begun := (Beside.modLines s fun l => { l with home := home, bin := bin }).trans (.modTable _ fun x =>
      { x with activity := .homing, seeking := homeSeek home })
    exact .ite (fun _ => begun.fair (homingDone_fair _)) fun _ => begun.still.fair

theorem execHomeSensor_fairEnds (axis : Axis) (bin : Bool) (s : State) : s.FairEnds (execHomeSensor axis bin s) := by
  refine .ite (fun _ => Fair.ends ?_) fun _ => (Still.modLines s _).ends
  have reached := (Beside.modLines s fun l => { l with home := homeReach l.home axis, bin := bin }).trans
    (.modTable _ fun x => { x with seeking := s.table.seeking.filter fun a => a != axis })
  exact .ite (fun _ => reached.fair (homingDone_fair _)) fun _ => reached.still.fair

theorem execHomeFail_fairEnds (s : State) : s.FairEnds (execHomeFail s) :=
  .ite (fun _ => ((Still.modTable s _).trans (.raise _ _)).ends) fun _ => .same s

theorem execTableLimit_fairEnds (axis : LimitAxis) (s : State) : s.FairEnds (execTableLimit axis s) :=
  Still.ends (.ite (fun _ => (Still.modLines s _).trans (.hitLimit _)) fun _ => .modLines s _)

theorem execLimitInactive_fairEnds (s : State) : s.FairEnds (execLimitInactive s) :=
  ((Still.modLines s _).trans (.reportCondition _ _ _)).ends

theorem execInsertMoveStart_fairEnds (s : State) : s.FairEnds (execInsertMoveStart s) := by
  unfold execInsertMoveStart
  split
  · exact .same s
  · exact (Still.tryInsertMove s).ends

/-- An arrival samples MARK on a SCANNING board, which may become READY (R116). -/
theorem markArrival_fair (s : State) (g : Nat) (mark : Bool) : s.Fair (s.markArrival g mark) := by
  unfold State.markArrival
  split
  · exact .refl s
  next b _ =>
    refine .ite (fun scanning => ?_) fun _ => .refl s
    have sampled : s.Shifts (s.modWork fun w =>
        { w with board := some { b with mask := if mark then b.mask ||| BitVec.ofNat 32 (2 ^ g) else b.mask } }) :=
      .modWork_off (by simp [scanning.1]) (by simp [scanning.1])
    have used := Still.useStep (s.modWork fun w =>
        { w with board := some { b with mask := if mark then b.mask ||| BitVec.ofNat 32 (2 ^ g) else b.mask } })
    refine (Places.scanFrom _ (g + 1)).fair_of_tidy (fun _ tidy => ⟨used.quiet ?_, used.flushFits tidy.2⟩) (by simp) (by simp)
      (readingUp_of_reader (by simp)) fun _ _ _ => by simp [scanning.1]
    exact tidy.1.of_kept sampled.1 sampled.2

theorem markArrival_cases (s : State) (g : Nat) (mark : Bool) : s.markArrival g mark = s ∨ s.work.state = .scanning := by
  unfold State.markArrival
  split
  · exact .inl rfl
  · split
    next scanning => exact .inr scanning.1
    next => exact .inl rfl

theorem BoardStarted.raise (started : s.BoardStarted) (r : Raise) : (s.raise r).BoardStarted := by
  refine started.of_same (.of_tape (by simp)) (by simp) (by simp) (congrArg Monitor.value (raise_monitor s r .m2))
    fun gone => ?_
  rw [raise_head]
  exact headAfter_lastCycle _ _ gone

theorem BoardStarted.tryInsertMove (started : s.BoardStarted) : s.tryInsertMove.BoardStarted := by
  have moved (f : Table → Table) : (s.modTable f).BoardStarted := started.of_same (.of_tape rfl) rfl rfl rfl id
  unfold State.tryInsertMove
  split
  · exact started
  · split
    · exact (moved _).raise _
    · exact moved _

/-- What follows an event that finds no WORKING board, and that the bookkeeping has nothing to do with. -/
theorem Fair.then_still_of_idle (fair : s.Fair t) (still : t.Still u) (started : t.BoardStarted → u.BoardStarted)
    (idle : s.work.state ≠ .working) : s.Fair u where
  tidy empty tidy := ⟨still.quiet (fair.tidy empty tidy).1, still.flushFits (fair.tidy empty tidy).2⟩
  decided fits e d head decision := by
    rw [still.queue] at head
    exact (fair.decided fits e d head decision).imp_right still.decisionFits
  started not working := started (fair.started not (still.state ▸ working))
  held _ _ _ _ _ _ working := absurd working idle
  early := fair.early ∘ still.early

theorem execMarkMoveStart_fairEnds (mark : Bool) (s : State) : s.FairEnds (execMarkMoveStart mark s) := by
  unfold execMarkMoveStart
  have sampled := Beside.modLines s fun l => { l with mark := mark }
  split
  next => exact sampled.still.ends
  next g _ =>
    refine .ite (fun _ => ?_) fun _ => .ite (fun _ => ?_) fun _ => ?_
    · exact ((sampled.trans (.modTable _ _)).fair (markArrival_fair _ _ _)).endIfQuiet.ends
    · exact (sampled.still.trans (.refuseMove _ _)).ends
    · exact (sampled.still.trans ((Still.modTable _ _).trans (.modTable _ _))).ends

theorem execMoveComplete_fairEnds (mark : Bool) (s : State) : s.FairEnds (execMoveComplete mark s) := by
  unfold execMoveComplete
  have sampled := Beside.modLines s fun l => { l with mark := mark }
  split
  next m _ _ =>
    have freed := sampled.trans (.modTable _ fun x => { x with activity := .idle, slot := none })
    refine Fair.ends (.endIfQuiet ?_)
    split
    next g _ =>
      generalize ((s.modLines fun l => { l with mark := mark }).modTable fun x => { x with activity := .idle, slot := none })
        = w at freed ⊢
      have arrived := markArrival_fair w g mark
      rcases markArrival_cases w g mark with same | scanning
      · rw [same]
        exact (freed.still.trans (.tryInsertMove _)).fair
      · exact freed.fair (arrived.then_still_of_idle (.tryInsertMove _) BoardStarted.tryInsertMove (by simp [scanning]))
    next => exact (freed.still.trans (.tryInsertMove _)).fair
  next => exact sampled.still.ends

/-! ## The head -/

theorem execStrokeStart_fairEnds (s : State) : s.FairEnds (execStrokeStart s) := by
  unfold execStrokeStart
  split
  next => exact .same s
  next e _ =>
    refine Still.ends (.trans (.trans ?_ (.useStep _)) (.modHead _ _))
    split
    · exact (Still.modHead s _).trans (.evaluate _ _ _)
    · exact .modHead s _

theorem execBottomEdge_fairEnds (s : State) : s.FairEnds (execBottomEdge s) :=
  .ite (fun _ => (Still.modHead s _).ends) fun _ => .same s

theorem execClinchDoneEdge_fairEnds (cla clb : Bool) (s : State) : s.FairEnds (execClinchDoneEdge cla clb s) :=
  .ite (fun _ => ((Still.modLines s _).trans (.modHead _ _)).ends) fun _ => .same s

theorem execConfirmSample_fairEnds (cla clb : Bool) (s : State) : s.FairEnds (execConfirmSample cla clb s) := by
  unfold execConfirmSample
  split
  · exact ((Still.modLines s _).trans (.modHead _ _)).ends
  · exact .same s

theorem execTopEdge_fairEnds (s : State) : s.FairEnds (execTopEdge s) := by
  have noted := Beside.modLines s fun l => { l with top := true }
  unfold execTopEdge
  dsimp only
  split
  · exact (noted.fair (strokeDone_fair _)).endIfQuiet.ends
  · exact (noted.fair (returnDone_fair _)).endIfQuiet.ends
  · exact noted.still.ends

theorem execHeadJam_fairEnds (s : State) : s.FairEnds (execHeadJam s) :=
  .ite (fun _ => (headJam_fair s _ _).ends) fun _ =>
    .ite (fun _ => ((Still.modHead s _).trans (.raise _ _)).ends) fun _ => .same s

theorem execHeadDrop_fairEnds (s : State) : s.FairEnds (execHeadDrop s) :=
  Still.ends (.ite (fun _ => (Still.modLines s _).trans (.dropHead _)) fun _ => .modLines s _)

end State
end Sys2Proof.Machine
end

section
/-!
# What each row makes of the bookkeeping: the board, the travellers, the operator and the link
-/
namespace Sys2Proof.Machine

namespace State
variable {s t u v : State} {k : OpKind} {r : RunState} {top bin : Bool}

/-! ## The board at the work position -/

/-- A board whose operation is under way or waits is not WORKING (R105). -/
theorem HasOp.notWorking (has : s.HasOp k) (fits : s.WorkFits) : s.work.state ≠ .working := by
  obtain ⟨c, op⟩ := has
  exact (fits.idle op).2

/-- An operation that works on a board under an operation. -/
theorem Places.fair_of_op (places : t.Places u) (still : s.Still t) (has : s.HasOp k) : s.Fair u :=
  places.fair still fun fits _ _ => has.notWorking fits

/-- An operation that works on a board of another state than WORKING. -/
theorem Places.fair_of_state (places : t.Places u) (still : s.Still t) (other : s.work.state ≠ .working) : s.Fair u :=
  places.fair still fun _ _ _ => other

theorem execConveyorInStart_fairEnds (s : State) : s.FairEnds (execConveyorInStart s) := by
  have noted := Still.modLines s fun l => { l with bin := true }
  refine .ite (fun ready => Fair.ends ?_) fun _ => noted.ends
  simp only [State.conveyorInReady, Bool.and_eq_true, beq_iff_eq] at ready
  obtain ⟨⟨⟨-, empty⟩, -⟩, -⟩ := ready
  have entering := Shifts.modWork_off (s := s.modLines fun l => { l with bin := true })
    (f := fun w => { w with state := .entering }) (by simp) (by simp)
  exact (entering.places (.startConveyorIn _)).fair_of_state noted (by rw [← noted.state, empty]; simp)

theorem execBwkActive_fairEnds (s : State) : s.FairEnds (execBwkActive s) := by
  have noted := Still.modLines s fun l => { l with bwk := true }
  refine .ite (fun _ => noted.ends) fun _ => ?_
  split
  next state => exact ((Places.arrive _).fair_of_state noted (by simp [state])).endIfQuiet.ends
  next state => exact ((Places.makeOwnBoard _ _).fair_of_state noted (by simp [state])).ends
  next => exact noted.ends

theorem execBwkInactive_fairEnds (bin : Bool) (s : State) : s.FairEnds (execBwkInactive bin s) :=
  (Still.modLines s _).ends

theorem execMatchTimeout_fairEnds (s : State) : s.FairEnds (execMatchTimeout s) :=
  .ite (fun timed => ((Places.makeOwnBoard _ _).fair_of_state (.modTrav s _) (by simp [timed.1])).ends) fun _ => .same s

theorem execClampStart_fairEnds (s : State) : s.FairEnds (execClampStart s) :=
  .ite (fun ready => ((Places.startClamp s).fair_of_op (.refl s) (opReady_hasOp ready)).ends) fun _ => .same s

theorem execClampedActive_fairEnds (s : State) : s.FairEnds (execClampedActive s) := by
  have noted := Still.modLines s fun l => { l with clamped := true }
  exact .ite (fun has => ((Places.clampDone _).fair_of_op noted (under_hasOp has)).endIfQuiet.ends) fun _ =>
    .ite (fun _ => (noted.trans (.modWork rfl rfl)).ends) fun _ => noted.ends

theorem execClampedInactive_fairEnds (s : State) : s.FairEnds (execClampedInactive s) := by
  have noted := Still.modLines s fun l => { l with clamped := false }
  have opened : (s.modLines fun l => { l with clamped := false }).Places
    (s.modLines fun l => { l with clamped := false }).toConveyorOut := .inl (.toConveyorOut _)
  exact .ite (fun has => (opened.fair_of_op noted (under_hasOp has)).endIfQuiet.ends) fun _ =>
    .ite (fun _ => (noted.trans ((Still.modWork rfl rfl).trans (.raise _ _))).ends) fun _ => noted.ends

theorem execLineEndRelease_fairEnds (s : State) : s.FairEnds (execLineEndRelease s) := by
  have noted := Still.modLines s fun l => { l with unloadReady := true }
  refine .ite (fun ready => Fair.ends ?_) fun _ => noted.ends
  simp only [State.lineEndReady, Bool.and_eq_true, beq_iff_eq] at ready
  have done : s.work.state = .done := ready.1.2
  exact Places.fair_of_state (.inl (.releaseBoard _)) (noted.trans (.modWork rfl rfl)) (by simp [done])

theorem execConveyorOutStart_fairEnds (s : State) : s.FairEnds (execConveyorOutStart s) :=
  .ite (fun ready => (Places.fair_of_op (.inl (.startConveyorOut s)) (.refl s) (opReady_hasOp ready)).ends) fun _ => .same s

theorem execBoutActive_fairEnds (s : State) : s.FairEnds (execBoutActive s) :=
  .ite (fun _ => ((Still.modLines s _).trans (.modWork rfl rfl)).ends) fun _ => (Still.modLines s _).ends

theorem execBoutInactive_fairEnds (bin : Bool) (s : State) : s.FairEnds (execBoutInactive bin s) := by
  have noted := Still.modLines s fun l => { l with bout := false, bin := bin }
  refine .ite (fun has => Fair.ends (.endIfQuiet ?_)) fun _ => noted.ends
  rw [Bool.and_eq_true] at has
  exact Places.fair_of_op (.inl (.conveyorOutDone _)) noted (under_hasOp has.1)

theorem execOperationTimeout_fairEnds (s : State) : s.FairEnds (execOperationTimeout s) := by
  unfold execOperationTimeout
  split
  next k _ => exact ((Still.modWork (by simp) (by simp)).trans ((Still.raise _ _).trans (.endIfQuiet _))).ends
  next => exact .same s

/-! ## Travellers and hand-off -/

/-- A grant releases a DONE board (R135). -/
theorem tryGrant_fair (still : s.Still t) : s.Fair t.tryGrant := by
  unfold State.tryGrant
  split
  next b accept grantable =>
    have done := (grantable_eq_some grantable).2.1
    have queued : t.Still ((t.queueFrame kindTraveller (byte (t.downAddr.getD 0)) (travellerBytes b.outgoing)).modTrav
        fun x => { x with release := some (b.serial, accept), phase := .sent, timer := none }) :=
      (Still.modLink t _).trans (.modTrav _ _)
    exact Places.fair_of_state (.inl (.releaseBoard _)) (still.trans queued) (by rw [← still.state, done]; simp)
  next => exact still.fair

theorem execReleaseGrant_fairEnds (s : State) : s.FairEnds (execReleaseGrant s) := by
  unfold execReleaseGrant
  split
  · exact (tryGrant_fair (.refl s)).ends
  · exact .same s

theorem execTravellerExpiry_fairEnds (serial : Serial) (s : State) : s.FairEnds (execTravellerExpiry serial s) :=
  .ite (fun _ => (Still.expire s serial).ends) fun _ => .same s

theorem execHandoffTimeout_fairEnds (s : State) : s.FairEnds (execHandoffTimeout s) :=
  .ite (fun _ => ((Still.modTrav s _).trans (.raise _ _)).ends) fun _ => .same s

theorem arriveTraveller_fair (s : State) (x : Traveller) : s.Fair (s.arriveTraveller x) := by
  refine .ite (fun _ => (Still.modTrav s _).fair) fun _ => .ite (fun _ => ?_) fun _ => .ite (fun taking => ?_) fun _ => ?_
  · exact ((Still.modTrav s _).trans (.raise _ _)).fair
  · exact (Places.boardMade _ _).fair (.modTrav s _) fun _ shut => by simp [taking] at shut
  · exact (Still.modTrav s _).fair

theorem execTravellerReceive_fairEnds (s : State) : s.FairEnds (execTravellerReceive s) := by
  have left := Beside.modLink s fun l => { l with rx := l.rx.tail, handing := !l.rx.tail.isEmpty }
  unfold execTravellerReceive
  split
  next => exact .same s
  next f _ =>
    refine .ite (fun _ => (Still.handDone s).ends) fun _ => .ite (fun _ => ?_) fun _ => ?_
    · exact ((Still.handDone s).trans (.modTrav _ _)).ends
    · split
      · exact ((Still.handDone s).trans (.modTrav _ _)).ends
      · exact (left.fair (arriveTraveller_fair _ _)).ends

theorem execLostReceive_fairEnds (s : State) : s.FairEnds (execLostReceive s) := by
  unfold execLostReceive
  split
  · exact .same s
  · exact .ite (fun _ => ((Still.handDone s).trans ((Still.modTrav _ _).trans (.raise _ _))).ends) fun _ =>
      (Still.handDone s).ends

/-! ## Operator lines and windows -/

/-- RUN and STEP (R145, R147). -/
theorem press_fairEnds {c : Instr} (presses : Presses c top bin r) (s : State) : s.FairEnds (exec c s) := by
  rw [exec_press presses]
  exact .ite (fun both => (sample_press_fair both.1 both.2 r).ends) fun _ => (sample_fair s top bin).ends

theorem execStop_fairEnds (s : State) : s.FairEnds (execStop s) :=
  .ite (fun _ => (Still.pressStop s).ends) fun _ => .same s

theorem execClear_fairEnds (s : State) : s.FairEnds (execClear s) :=
  .ite (fun _ => (pressClear_fair s).ends) fun _ => .same s

theorem execPurge_fairEnds (s : State) : s.FairEnds (execPurge s) :=
  .ite (fun _ => (purgeBoard_fair s).ends) fun _ => .same s

theorem execStoplineAsserted_fairEnds (s : State) : s.FairEnds (execStoplineAsserted s) :=
  ((Still.modLines s _).trans (.followStopline _)).ends

theorem execStoplineReleased_fairEnds (bin : Bool) (s : State) : s.FairEnds (execStoplineReleased bin s) := by
  have noted := Beside.modLines s fun l => { l with stopline := false, bin := bin }
  exact .ite (fun _ => (noted.fair (enterWork_fair _ _)).ends) fun _ => noted.still.ends

theorem execWindowEnd_fairEnds (s : State) : s.FairEnds (execWindowEnd s) :=
  .ite (fun _ => ((Still.modLink s _).trans ((Still.modAlarm rfl rfl).trans (.evaluate _ _ _))).ends) fun _ => .same s

theorem execLampFlash_fairEnds (s : State) : s.FairEnds (execLampFlash s) := (Still.modAlarm rfl rfl).ends

/-! ## The line link -/

theorem characterEnds_fairEnds (s : State) (ch : Character) :
    s.FairEnds (if s.sampling then s.finish (s.characterEnds ch) else .next s) :=
  .ite (fun _ => (Still.characterEnds s ch).ends) fun _ => .same s

theorem execValidStart_fairEnds (s : State) : s.FairEnds (execValidStart s) :=
  .ite (fun _ => ((Still.modLines s _).trans (.modLink _ _)).ends) fun _ => .same s

theorem execGapAbandon_fairEnds (s : State) : s.FairEnds (execGapAbandon s) :=
  .ite (fun _ => ((Still.modLines s _).trans (.modLink _ _)).ends) fun _ => .same s

theorem execHandingOnStart_fairEnds (s : State) : s.FairEnds (execHandingOnStart s) :=
  .ite (fun _ => (Still.modLink s _).ends) fun _ => .same s

theorem execStatusReceive_fairEnds (s : State) : s.FairEnds (execStatusReceive s) := by
  unfold execStatusReceive
  split
  next => exact .same s
  next f _ =>
    have stored := (Still.handDone s).trans (.modLink _ fun l => l.store f.sender.toNat f.payload)
    exact .ite (fun _ => (tryGrant_fair (stored.trans (.modTrav _ _))).ends) fun _ => stored.ends

theorem execPeerStale_fairEnds (addr : BitVec 5) (s : State) : s.FairEnds (execPeerStale addr s) :=
  .ite (fun _ => (Still.modLink s _).ends) fun _ => .same s

theorem execFrameSendStart_fairEnds (idle : Nat) (s : State) : s.FairEnds (execFrameSendStart idle s) :=
  .ite (fun _ => ((Still.modLines s _).trans (.modLink _ _)).ends) fun _ => .same s

theorem execArbitrationLost_fairEnds (s : State) : s.FairEnds (execArbitrationLost s) :=
  .ite (fun _ => (Still.modLink s _).ends) fun _ => .same s

theorem execCollision_fairEnds (s : State) : s.FairEnds (execCollision s) := by
  unfold execCollision
  split
  · exact (Still.modLink s _).ends
  · exact .same s

theorem execFrameSent_fairEnds (s : State) : s.FairEnds (execFrameSent s) := by
  unfold execFrameSent
  split
  · exact (Still.modLink s _).ends
  · exact .same s

theorem execStatusTimerExpiry_fairEnds (s : State) : s.FairEnds (execStatusTimerExpiry s) :=
  .ite (fun _ => (Still.modLink s _).ends) fun _ => .same s

/-! ## The service tool -/

/-- A QUERY that is handed on is answered, and no other row of a query does anything. -/
theorem asked_fairEnds (s : State) (item : Byte) (run : List Byte) :
    s.FairEnds (match s.asked item with
      | some p => s.finish (s.answer item p run)
      | none => .next s) := by
  split
  · exact ((Still.handDone s).trans (.report _ _)).ends
  · exact .same s

theorem execQueryNoItem_fairEnds (s : State) : s.FairEnds (execQueryNoItem s) := by
  unfold execQueryNoItem
  split
  · exact .ite (fun _ => .same s) fun _ => ((Still.handDone s).trans (.report _ _)).ends
  · exact .same s

/-- The REPORT that follows a command changes the link unit alone. -/
theorem Fair.report (fair : s.Fair t) (payload : List Byte) : s.Fair (t.report payload) :=
  fair.then_still (.report t payload)
    (fun started => started.of_same (.of_tape (by simp)) (by simp) (by simp) (by simp) (by simp))
    fun _ taken => taken.of_same (.of_tape (by simp)) (by simp) (by simp) (by simp) (.inl (by simp))

theorem remote_fair (command : Byte) {result : RemoteResult} {act : State → State}
    (acts : result = .taken → s.Fair (act t)) (ignored : result ≠ .taken → s.Fair t) :
    s.Fair (t.remote command result act) := (Fair.ite acts ignored).report _

theorem execRemoteRun_fairEnds (top bin : Bool) (s : State) : s.FairEnds (execRemoteRun top bin s) := by
  refine .ite (fun _ => Fair.ends ?_) fun _ => .same s
  have left := Beside.modLink s fun l => { l with rx := l.rx.tail, handing := !l.rx.tail.isEmpty }
  refine left.fair (remote_fair _ (fun taken => ?_) fun _ => sample_fair _ top bin)
  have stopped {u : State} (h : u.runResult = .taken) : u.alarm.run = .stopped := by
    unfold State.runResult at h
    (repeat' split at h) <;> first | assumption | cases h
  split at taken
  next before => exact sample_press_fair (s := s.handDone) before (stopped taken) .running
  next other => exact absurd (stopped taken) other

theorem execRemoteStop_fairEnds (s : State) : s.FairEnds (execRemoteStop s) :=
  .ite (fun _ => (remote_fair _ (fun _ => ((Still.handDone s).trans (.pressStop _)).fair)
    fun _ => (Still.handDone s).fair).ends) fun _ => .same s

theorem execRemoteClear_fairEnds (s : State) : s.FairEnds (execRemoteClear s) := by
  have left := Beside.modLink s fun l => { l with rx := l.rx.tail, handing := !l.rx.tail.isEmpty }
  exact .ite (fun _ => (remote_fair _ (fun _ => left.fair (pressClear_fair _)) fun _ => left.still.fair).ends)
    fun _ => .same s

theorem execRemoteOther_fairEnds (s : State) : s.FairEnds (execRemoteOther s) := by
  unfold execRemoteOther
  split
  · exact .ite (fun _ => .same s) fun _ => ((Still.handDone s).trans (.report _ _)).ends
  · exact .same s

end State
end Sys2Proof.Machine
end

section
/-!
# Every step and the decision of the oldest entry (R46, R47, R53, R117, R118)
-/
namespace Sys2Proof.Machine

namespace State
variable {s t u : State}

theorem exec_fairEnds {c : Instr} (notReset : c ≠ .reset) (s : State) : s.FairEnds (exec c s) := by
  cases c with
  | reset => exact absurd rfl notReset
  | resetRelease addr role localStrap => exact execResetRelease_fairEnds addr role localStrap s
  | pmemReadCompletion words => exact execPmemReadCompletion_fairEnds words s
  | feedStart => exact execFeedStart_fairEnds s
  | indexEvent pres => exact execIndexEvent_fairEnds pres s
  | conversionCompletion code => exact execConversionCompletion_fairEnds code s
  | passExecution => exact execPassExecution_fairEnds s
  | tapeJam => exact execTapeJam_fairEnds s
  | tapeBreak => exact execTapeBreak_fairEnds s
  | tbrkInactive => exact execTbrkInactive_fairEnds s
  | tapeLow => exact execTapeLow_fairEnds s
  | tendInactive => exact execTendInactive_fairEnds s
  | homingBegin home bin => exact execHomingBegin_fairEnds home bin s
  | homeSensor axis bin => exact execHomeSensor_fairEnds axis bin s
  | homeFail => exact execHomeFail_fairEnds s
  | tableLimit axis => exact execTableLimit_fairEnds axis s
  | limitInactive => exact execLimitInactive_fairEnds s
  | insertMoveStart => exact execInsertMoveStart_fairEnds s
  | markMoveStart mark => exact execMarkMoveStart_fairEnds mark s
  | moveComplete mark => exact execMoveComplete_fairEnds mark s
  | strokeStart => exact execStrokeStart_fairEnds s
  | bottomEdge => exact execBottomEdge_fairEnds s
  | clinchDoneEdge cla clb => exact execClinchDoneEdge_fairEnds cla clb s
  | confirmSample cla clb => exact execConfirmSample_fairEnds cla clb s
  | topEdge => exact execTopEdge_fairEnds s
  | headJam => exact execHeadJam_fairEnds s
  | headDrop => exact execHeadDrop_fairEnds s
  | conveyorInStart => exact execConveyorInStart_fairEnds s
  | bwkActive => exact execBwkActive_fairEnds s
  | matchTimeout => exact execMatchTimeout_fairEnds s
  | clampStart => exact execClampStart_fairEnds s
  | clampedActive => exact execClampedActive_fairEnds s
  | clampedInactive => exact execClampedInactive_fairEnds s
  | lineEndRelease => exact execLineEndRelease_fairEnds s
  | conveyorOutStart => exact execConveyorOutStart_fairEnds s
  | boutActive => exact execBoutActive_fairEnds s
  | boutInactive bin => exact execBoutInactive_fairEnds bin s
  | operationTimeout => exact execOperationTimeout_fairEnds s
  | releaseGrant => exact execReleaseGrant_fairEnds s
  | travellerExpiry serial => exact execTravellerExpiry_fairEnds serial s
  | handoffTimeout => exact execHandoffTimeout_fairEnds s
  | run top bin => exact press_fairEnds (.inl ⟨rfl, rfl⟩) s
  | stop => exact execStop_fairEnds s
  | clear => exact execClear_fairEnds s
  | step levels => exact press_fairEnds (.inr ⟨rfl, rfl⟩) s
  | purge => exact execPurge_fairEnds s
  | stoplineAsserted => exact execStoplineAsserted_fairEnds s
  | stoplineReleased bin => exact execStoplineReleased_fairEnds bin s
  | windowEnd => exact execWindowEnd_fairEnds s
  | lampFlash => exact execLampFlash_fairEnds s
  | frameBroken ch => exact characterEnds_fairEnds s ch
  | gapAbandon => exact execGapAbandon_fairEnds s
  | frameReceived ch => exact characterEnds_fairEnds s ch
  | handingOnStart => exact execHandingOnStart_fairEnds s
  | statusReceive => exact execStatusReceive_fairEnds s
  | travellerReceive => exact execTravellerReceive_fairEnds s
  | lostReceive => exact execLostReceive_fairEnds s
  | queryStation => exact asked_fairEnds s _ _
  | queryBoard => exact asked_fairEnds s _ _
  | queryQueue => exact asked_fairEnds s _ _
  | queryAlarms => exact asked_fairEnds s _ _
  | queryMonitors => exact asked_fairEnds s _ _
  | queryPeers => exact asked_fairEnds s _ _
  | queryNoItem => exact execQueryNoItem_fairEnds s
  | remoteRun top bin => exact execRemoteRun_fairEnds top bin s
  | remoteStop => exact execRemoteStop_fairEnds s
  | remoteClear => exact execRemoteClear_fairEnds s
  | remoteOther => exact execRemoteOther_fairEnds s
  | peerStale addr => exact execPeerStale_fairEnds addr s
  | statusTimerExpiry => exact execStatusTimerExpiry_fairEnds s
  | frameSendStart idle => exact execFrameSendStart_fairEnds idle s
  | arbitrationLost => exact execArbitrationLost_fairEnds s
  | collision => exact execCollision_fairEnds s
  | frameSent => exact execFrameSent_fairEnds s
  | validStart => exact execValidStart_fairEnds s
  | goodCharacter ch => exact characterEnds_fairEnds s ch
  | bwkInactive bin => exact execBwkInactive_fairEnds bin s

theorem ticked_still (s : State) : s.Still s.ticked := ⟨rfl, rfl, rfl, rfl, rfl, rfl, id, id⟩

/-- A step is an event that the bookkeeping follows by its rules and that keeps the invariants, or a RESET. -/
theorem step_fair (h : step s = .next t) : s.Fair t ∧ s.Kept t ∨ ∃ u : State, t = u.resetFrom := by
  have ended {c : Instr} {r : State} (beside : s.Beside r) (kept : s.Kept r) (h : exec c r = .next t) :
      s.Fair t ∧ s.Kept t ∨ ∃ u : State, t = u.resetFrom := by
    by_cases reset : c = .reset
    · subst reset
      cases h
      exact .inr ⟨r, rfl⟩
    · exact .inl ⟨beside.fair (exec_fairEnds reset r t h), kept.trans (exec_kept reset h)⟩
  have none : s.Beside s := ⟨rfl, rfl, rfl, rfl, rfl, id⟩
  unfold step at h
  split at h
  next c rest _ => exact ended (r := { s with pending := rest }) ⟨rfl, rfl, rfl, rfl, rfl, id⟩ (pending_kept s rest) h
  next =>
    split at h
    · split at h
      · exact ended none (.refl s) h
      · cases h
        exact .inl ⟨(ticked_still s).fair.settle, (ticked_kept s).trans (passTime_eq s ▸ settle_kept s s.ticked)⟩
    · cases h
      exact .inl ⟨.refl s, .refl s⟩

theorem nothingLeft_iff (s : State) : s.NothingLeft ↔ s.StartUpQuiet ∧ s.Tidy := by
  unfold State.NothingLeft Tidy BooksQuiet FlushFits CanStart
  constructor
  · rintro ⟨quiet, oldest, cannot⟩
    exact ⟨quiet, ⟨cannot, fun e b due => (oldest e due.2.2.1).2.2 b due, fun e head => (oldest e head).1⟩,
      fun e head => (oldest e head).2.1⟩
  · rintro ⟨quiet, ⟨cannot, noneDue, decided⟩, fits⟩
    exact ⟨quiet, fun e head => ⟨decided e head, fits e head, fun b => noneDue e b⟩, cannot⟩

theorem Fair.nothingLeft (fair : s.Fair t) (kept : s.Kept t) (before : s.NothingLeft) : t.NothingLeft := by
  rw [nothingLeft_iff] at before ⊢
  obtain ⟨startUp, tidy⟩ := before
  refine ⟨?_, fair.tidy (fun up => (startUp.2 up).2.1) tidy⟩
  by_cases up : s.ReadingUp
  · obtain ⟨-, queue, still⟩ := startUp.2 up
    have fits : s.QueueWithinDepth := ⟨startUp, by simp [queue], by simp [still]⟩
    exact (kept.depth fits).1
  · have ended (reading : t.ReadingUp) : False := up (fair.early reading)
    exact ⟨fun none => (ended (.inl none)).elim, fun reading => (ended reading).elim⟩

/-- The decision that the bookkeeping makes at the oldest entry of a board's lap (R47). -/
theorem decideOldest_table {e : Entry} {es : List Entry} (queue : s.tape.queue = e :: es) (can : s.CanDecide e) :
    ∃ d, s.decideOldest.tape.queue = { e with decision := some d } :: es ∧
      (s.tape.flush = some e.record.lap → d = .passFlush) ∧
      (s.tape.flush ≠ some e.record.lap → ∀ b, s.work.board = some b → e.TableGives s.options b.mask d) := by
  obtain ⟨-, flushed, onBoard⟩ := decisionFits_of_can (t := s) can rfl rfl rfl rfl
  refine ⟨_, decideOldest_of_can queue can, flushed, fun other b held => ?_⟩
  obtain ⟨c, -, held', -, -, table⟩ := onBoard other
  obtain rfl : c = b := Option.some.inj (held'.symm.trans held)
  exact table

end State

open State in
/-- Settles O23: every row by what it makes of the bookkeeping, which leaves nothing undone; the table by its lines. -/
theorem theOldestEntryIsDecidedByTheTable : Obligations.TheOldestEntryIsDecidedByTheTable := by
  refine ⟨fun s t h => ?_, fun s e es queue => ⟨decideOldest_table queue, fun cannot => ?_⟩⟩
  · rcases step_fair h with ⟨fair, kept⟩ | ⟨u, rfl⟩
    · exact ⟨fair.nothingLeft kept, fair.decided, fair.started, fair.held⟩
    · have empty : u.resetFrom.tape.queue = [] := rfl
      refine ⟨fun _ => (nothingLeft_iff _).2 ⟨u.resetFrom_startUpQuiet, tidy_of_empty empty⟩, fun _ e d head => ?_,
        fun _ working => ?_, fun b b' _ _ _ _ _ _ working => ?_⟩
      · simp [empty] at head
      · cases working
      · cases working
  · exact decideOldest_of_cannot fun e' head => by
      rw [queue] at head
      cases head
      exact cannot

end Sys2Proof.Machine
end
